-- ==== Sys2Proof/Word.lean ====
section
/-!
DEFINITION. The plainest types of the model: bytes, the microsecond counter's value, a running or stopped
timer, and fixed collections of two and of four like things (ports and channels; heads and regions).
-/

namespace Sys2Proof

/-- One byte of a message, of a report, of the image or of a frame store. -/
abbrev Byte := BitVec 8

/-- A value of the free-running 32-bit microsecond counter (00_scope.md, TIME). -/
abbrev Time := BitVec 32

/-- A timer: stopped, or running since a reading of the microsecond counter (00_scope.md, TIME). -/
abbrev Timer := Option Time

/-- Two like things: the two capture channels, or the two desk host ports. -/
structure Pair (α : Type) where
  /-- the thing numbered 0 -/
  zero : α
  /-- the thing numbered 1 -/
  one : α
  deriving DecidableEq, Repr

/-- The thing of number `i`. -/
def Pair.get {α : Type} (p : Pair α) (i : Fin 2) : α := if i = 0 then p.zero else p.one

/-- The pair with the thing of number `i` replaced. -/
def Pair.set {α : Type} (p : Pair α) (i : Fin 2) (a : α) : Pair α :=
  if i = 0 then { p with zero := a } else { p with one := a }

/-- Four like things: the four heads of a desk. -/
structure Quad (α : Type) where
  /-- the thing numbered 0 -/
  h0 : α
  /-- the thing numbered 1 -/
  h1 : α
  /-- the thing numbered 2 -/
  h2 : α
  /-- the thing numbered 3 -/
  h3 : α
  deriving DecidableEq, Repr

/-- The thing of number `i`. -/
def Quad.get {α : Type} (q : Quad α) (i : Fin 4) : α :=
  if i = 0 then q.h0 else if i = 1 then q.h1 else if i = 2 then q.h2 else q.h3

/-- The four things built from their numbers. -/
def Quad.ofFn {α : Type} (f : Fin 4 → α) : Quad α := ⟨f 0, f 1, f 2, f 3⟩

/-- The four things with the one of number `i` replaced. -/
def Quad.set {α : Type} (q : Quad α) (i : Fin 4) (a : α) : Quad α :=
  if i = 0 then { q with h0 := a } else if i = 1 then { q with h1 := a }
  else if i = 2 then { q with h2 := a } else { q with h3 := a }

/-- The four numbers of heads, ascending. -/
def headNumbers : List (Fin 4) := [0, 1, 2, 3]

end Sys2Proof
end

