-- ==== Sys2Proof/Syntax.lean ====
section
/-!
DEFINITION. The commands of the PE-42: one constructor of `Instr` for each row of spec/opcode_table.json, with the
operands the row's rule names, and the small types those operands are made of.
-/

namespace Sys2Proof

/-- The role sampled from the ROLE strap at start (R179). -/
inductive Role where
  /-- ROLE low -/
  | desk
  /-- ROLE high -/
  | source
  deriving DecidableEq, Repr

/-- A stream: one channel of one source station (00_scope.md, TERMS). -/
structure Stream where
  /-- the source's station number -/
  station : Nat
  /-- the channel, 0 or 1 -/
  channel : Fin 2
  deriving DecidableEq, Repr

/-- One pixel's colour: red, green and blue bytes (R116, R125). -/
structure Colour where
  /-- red byte -/
  r : Byte
  /-- green byte -/
  g : Byte
  /-- blue byte -/
  b : Byte
  deriving DecidableEq, Repr

/-- The kind of a USB interface in a desk device's description (R36). -/
inductive IfaceKind where
  /-- a keyboard interface that offers the boot protocol -/
  | bootKeyboard
  /-- a mouse interface that offers the boot protocol -/
  | bootMouse
  /-- any other interface -/
  | other
  deriving DecidableEq, Repr

/-- One interface of a desk device's description, with the poll interval of its endpoint (R36). -/
structure Interface where
  /-- what the interface is -/
  kind : IfaceKind
  /-- the poll interval the description gives; that it is a number of milliseconds is the model's choice (log 41) -/
  interval : Nat
  deriving DecidableEq, Repr

/-- A transfer II makes to a desk device (R38). -/
inductive Transfer where
  /-- a poll of the served keyboard interface -/
  | keyboardPoll
  /-- a poll of the served mouse interface -/
  | mousePoll
  /-- a lamp report to the keyboard -/
  | lampReport
  deriving DecidableEq, Repr

/-- The two interfaces WP presents to the workstation (R95). -/
inductive WpInterface where
  /-- the keyboard interface -/
  | keyboard
  /-- the absolute pointer interface -/
  | pointer
  deriving DecidableEq, Repr

/-- The two sync signals of a capture input (R107). -/
inductive SyncSignal where
  /-- HSYNC -/
  | hsync
  /-- VSYNC -/
  | vsync
  deriving DecidableEq, Repr

/-- What CU counted over the frame that a frame sync ends (R108). The frame's period is no operand: the microsecond
counter gives it (log 8). -/
structure FrameCounts where
  /-- the number of valid pixels of each valid line, in order of arrival -/
  validLines : List Nat
  /-- the number of lines of the frame -/
  totalLines : Nat
  deriving DecidableEq, Repr

/-- The commands, in the order of spec/opcode_table.json. A timer's expiry names the record, context, entry or
channel whose timer it is; an event at a port, channel or head names its number. -/
inductive Instr where
  /-- RESET (R179): power-on or release of RESET_N, with the level of the ROLE strap -/
  | reset (strap : Role)
  /-- IMAGE_READ_COMPLETE (R180): the bytes read from the flash's first byte on -/
  | imageReadComplete (flash : List Byte)
  /-- LINK_UP (R166) -/
  | linkUp
  /-- LINK_DOWN (R177) -/
  | linkDown
  /-- LISTEN_TIMER_EXPIRY (R183) -/
  | listenTimerExpiry
  /-- FRAME_RECEIVED (R168): whether the frame check sequence is right, and the frame's bytes from the destination
  address through the four bytes of the frame check sequence -/
  | frameReceived (fcsRight : Bool) (frame : List Byte)
  /-- PRESENCE_TAKEN_BY_CA (R73) -/
  | presenceTakenByCa
  /-- PRESENCE_TAKEN_BY_FU (R64) -/
  | presenceTakenByFu
  /-- PRESENCE_TAKEN_BY_SR (R149) -/
  | presenceTakenBySr
  /-- TILE_TAKEN (R146) -/
  | tileTaken
  /-- FRAME_CLOSE_TAKEN (R147) -/
  | frameCloseTaken
  /-- REPAIR_REQUEST_TAKEN (R134) -/
  | repairRequestTaken
  /-- REFRESH_WINDOW_EXPIRY (R135) -/
  | refreshWindowExpiry
  /-- CONTROL_REQUEST_TAKEN (R76) -/
  | controlRequestTaken
  /-- CONTROL_RELEASE_TAKEN (R82) -/
  | controlReleaseTaken
  /-- INPUT_TAKEN (R86) -/
  | inputTaken
  /-- ATTN_CLEAR_TAKEN (R89) -/
  | attnClearTaken
  /-- CONTROL_VERDICT_TAKEN (R55) -/
  | controlVerdictTaken
  /-- CONTROL_WITHDRAWN_TAKEN (R58) -/
  | controlWithdrawnTaken
  /-- LAMPS_TAKEN (R69) -/
  | lampsTaken
  /-- TRANSMIT_ARBITER_TAKE (R174) -/
  | transmitArbiterTake
  /-- PRESENCE_TIMER_EXPIRY (R175) -/
  | presenceTimerExpiry
  /-- HOST_DEVICE_CONNECT (R35) -/
  | hostDeviceConnect (port : Fin 2)
  /-- HOST_DEVICE_DISCONNECT (R35) -/
  | hostDeviceDisconnect (port : Fin 2)
  /-- ENUMERATION_COMPLETE (R36): the interfaces of the device's description, in its order -/
  | enumerationComplete (port : Fin 2) (interfaces : List Interface)
  /-- ENUMERATION_FAILURE (R36) -/
  | enumerationFailure (port : Fin 2)
  /-- TRANSFER_UNANSWERED (R36): the transfer left unanswered (while enumerating, its kind is not examined) -/
  | transferUnanswered (port : Fin 2) (transfer : Transfer)
  /-- POLL_TRANSFER_FAILURE (R38): the transfer that ended in a protocol error -/
  | pollTransferFailure (port : Fin 2) (transfer : Transfer)
  /-- KEYBOARD_REPORT (R39) -/
  | keyboardReport (port : Fin 2) (report : List Byte)
  /-- LEAD_SEEN_TIMER_EXPIRY (R45) -/
  | leadSeenTimerExpiry
  /-- COMMAND_TIMER_EXPIRY (R46) -/
  | commandTimerExpiry
  /-- MOUSE_REPORT (R17) -/
  | mouseReport (port : Fin 2) (report : List Byte)
  /-- INPUT_INTERVAL_EXPIRY (R67) -/
  | inputIntervalExpiry
  /-- ASK_TIMER_EXPIRY (R55), of the record of a station -/
  | askTimerExpiry (station : Nat)
  /-- REFUSED_TIMER_EXPIRY (R59), of the record of a station -/
  | refusedTimerExpiry (station : Nat)
  /-- ABSENCE_TIMER_EXPIRY (R65), of the record of a station -/
  | absenceTimerExpiry (station : Nat)
  /-- HOLD_OFF_TIMER_EXPIRY (R64), of the record of a station -/
  | holdOffTimerExpiry (station : Nat)
  /-- LAMP_REPORT_COMPLETE (R50) -/
  | lampReportComplete (port : Fin 2)
  /-- LAMP_RETRY_EXPIRY (R50) -/
  | lampRetryExpiry (port : Fin 2)
  /-- STALE_TIMER_EXPIRY (R147), of the context of a stream -/
  | staleTimerExpiry (stream : Stream)
  /-- LOST_TIMER_EXPIRY (R148), of the context of a stream -/
  | lostTimerExpiry (stream : Stream)
  /-- REPAIR_TIMER_EXPIRY (R143), of the context of a stream -/
  | repairTimerExpiry (stream : Stream)
  /-- MINUTE_TIMER_EXPIRY (R163) -/
  | minuteTimerExpiry
  /-- FRAME_SYNC (R110): the counts of the frame it ends -/
  | frameSync (channel : Fin 2) (counts : FrameCounts)
  /-- VALID_LINE_END (R113): the valid pixels of the line, in order of arrival -/
  | validLineEnd (channel : Fin 2) (pixels : List Colour)
  /-- TILE_ROW_BEGIN (R118): the tile row `r` whose first line, valid line 16·r, is taken -/
  | tileRowBegin (channel : Fin 2) (row : Nat)
  /-- TILE_ROW_COMPLETE (R119): the row in progress completes -/
  | tileRowComplete (channel : Fin 2)
  /-- SYNC_TIMER_EXPIRY (R112) -/
  | syncTimerExpiry (channel : Fin 2)
  /-- TILE_CHOICE (R129) -/
  | tileChoice
  /-- VIEWER_ENTRY_EXPIRY (R74), of the entry of a desk -/
  | viewerEntryExpiry (desk : Nat)
  /-- WAIT_ENTRY_EXPIRY (R84), of the entry of a desk -/
  | waitEntryExpiry (desk : Nat)
  /-- IDLE_TIMER_EXPIRY (R71) -/
  | idleTimerExpiry
  /-- NOT_HOLDER_NOTE_EXPIRY (R88), of the note of a desk -/
  | notHolderNoteExpiry (desk : Nat)
  /-- BUS_POWER_APPEARS (R91) -/
  | busPowerAppears
  /-- BUS_POWER_LOST (R94) -/
  | busPowerLost
  /-- BUS_RESET (R93) -/
  | busReset
  /-- SET_ADDRESS (R92): the address asked for -/
  | setAddress (address : BitVec 16)
  /-- SET_CONFIGURATION (R92): the configuration asked for -/
  | setConfiguration (configuration : BitVec 16)
  /-- SET_FEATURE_REMOTE_WAKE (R92) -/
  | setFeatureRemoteWake
  /-- CLEAR_FEATURE_REMOTE_WAKE (R92) -/
  | clearFeatureRemoteWake
  /-- GET_DESCRIPTOR (R92) -/
  | getDescriptor
  /-- GET_REPORT (R95): the interface asked -/
  | getReport (interface : WpInterface)
  /-- SET_IDLE_OR_PROTOCOL (R95) -/
  | setIdleOrProtocol
  /-- UNSUPPORTED_STANDARD_REQUEST (R92) -/
  | unsupportedStandardRequest
  /-- KEYBOARD_OUTPUT_REPORT (R104): the report's byte -/
  | keyboardOutputReport (report : Byte)
  /-- KEYBOARD_POLL (R97): whether the workstation acknowledges the report it is sent -/
  | keyboardPoll (acknowledged : Bool)
  /-- POINTER_POLL (R103): whether the workstation acknowledges the report it is sent -/
  | pointerPoll (acknowledged : Bool)
  /-- QUEUE_AGE_OVERRUN (R98) -/
  | queueAgeOverrun
  /-- BUS_IDLE_SUSPEND (R105) -/
  | busIdleSuspend
  /-- BUS_RESUME (R105) -/
  | busResume
  /-- RESUME_SIGNALLING_END (R105) -/
  | resumeSignallingEnd
  /-- POLL_ANSWERED_WITH_NO_DATA (R38): the poll so answered -/
  | pollAnsweredWithNoData (port : Fin 2) (poll : Transfer)
  /-- HEAD_LINE_START (R157) -/
  | headLineStart (head : Fin 4)
  /-- SYNC_PERIOD_END (R107): how long each level was held over the period, in samples -/
  | syncPeriodEnd (channel : Fin 2) (signal : SyncSignal) (high low : Nat)
  deriving DecidableEq, Repr

end Sys2Proof
end

