-- ==== Sys2Proof/Decode.lean ====
section
/-!
DEFINITION. The command a word of bits spells. No row of spec/opcode_table.json gives bits ("n_rows_with_fixed": 0 and
"n_rows_with_fields": 0 in 98_reader.md): the commands are events, so no word spells one.
-/

namespace Sys2Proof

/-- The command that `nbits` bits `w` spell by the table: none, since no row of the table gives bits. -/
def decodeTableWord (nbits w : Nat) : Option Instr :=
  match nbits, w with
  | _, _ => none

end Sys2Proof
end

