-- ==== Sys2Proof/Machine/State.lean ====
section
/-!
DEFINITION. Everything the PE-42 holds, block by block (00_scope.md, BLOCK DIAGRAM), as plain data, and what it holds
right after reset. A block of the role not started stays in its reset state (00_scope.md, ROLE).
-/

namespace Sys2Proof.Machine

/-! ### Small types -/

/-- A condition set: bit n for condition n (13, PAYLOADS). -/
abbrev CondSet := BitVec 16

/-- The conditions (R185), in the bit order of 13, PAYLOADS. -/
inductive Cond where
  | imageFault | stationClash | malformed | rxOverflow | txDrop | headInvalid | streamLost | sourceSilent
  | deviceUnsupported | channelUnsupported | inputOverrun | workstationDetached | viewersFull
  deriving DecidableEq, Repr

/-- Buttons: left bit 0, right bit 1, middle bit 2 (R95). -/
abbrev Buttons := BitVec 3

/-- Lamps: num lock bit 0, caps lock, scroll lock, compose, kana bit 4 (R95). -/
abbrev Lamps := BitVec 5

/-- A subset of the channels 0 and 1: bit n for channel n (13, CONTROL-REQUEST). -/
abbrev Channels := BitVec 2

/-- The state of a keyboard at one moment (00_scope.md, TERMS): modifiers in the bit order of R95, and key codes in
ascending order. Also used for the suppressed set of R41. -/
structure Snapshot where
  /-- the 8 modifier states -/
  mods : Byte
  /-- the key codes, ascending -/
  keys : List Byte
  deriving DecidableEq, Repr

/-- The all-released snapshot. -/
def Snapshot.released : Snapshot := ⟨0, []⟩

/-- A present pointer field: a channel and a pixel of its stream (R16, R30). An absent one is `none`. -/
structure PtrField where
  /-- the channel named -/
  channel : Fin 2
  /-- sxp -/
  x : Nat
  /-- syp -/
  y : Nat
  deriving DecidableEq, Repr

/-- A width and height in pixels. -/
structure Size where
  /-- width -/
  w : Nat
  /-- height -/
  h : Nat
  deriving DecidableEq, Repr

/-! ### SA: start and attention (12) -/

/-- SA's start state (R179). -/
inductive StartState where
  | reading | listening | serving | halted
  deriving DecidableEq, Repr

/-- The start and attention unit (R179, R185, R186, R187). -/
structure SA where
  /-- start state -/
  start : StartState
  /-- stage IMAGE-OK -/
  imageOk : Bool
  /-- stage FABRIC-UP -/
  fabricUp : Bool
  /-- stage SERVING -/
  serving : Bool
  /-- current condition set -/
  current : CondSet
  /-- latched condition set -/
  latched : CondSet
  /-- mask set, none before it is loaded -/
  mask : Option CondSet
  /-- pulse set, none before it is loaded -/
  pulse : Option CondSet
  /-- listen timer -/
  listen : Timer
  /-- level of ATTN_N: high is `true`, asserted is `false` -/
  attnN : Bool
  deriving DecidableEq, Repr

/-- SA after reset (R179). -/
def SA.reset : SA :=
  { start := .reading, imageOk := false, fabricUp := false, serving := false, current := 0, latched := 0,
    mask := none, pulse := none, listen := none, attnN := true }

/-! ### PU: presence unit (11) -/

/-- The presence unit (R175). -/
structure PU where
  /-- presence timer -/
  timer : Timer
  deriving DecidableEq, Repr

/-- PU after reset (R175). -/
def PU.reset : PU := { timer := none }

/-! ### FP: fabric port (11) -/

/-- The eleven kinds of room message (R167). -/
inductive Kind where
  | presence | tile | frameClose | repairRequest | controlRequest | controlVerdict | controlRelease
  | controlWithdrawn | input | lamps | attnClear
  deriving DecidableEq, Repr

/-- Why control was withdrawn (R81). -/
inductive Reason where
  | preempted | preemptedQueued | idleTaken | expired | displaced | notHolder
  deriving DecidableEq, Repr

/-- A verdict with what it carries (R81). -/
inductive Verdict where
  | granted
  /-- QUEUED with the position 1..4 -/
  | queued (position : Nat)
  /-- REFUSED with reason NO-PERMIT -/
  | noPermit
  /-- REFUSED with reason LIST-FULL -/
  | listFull
  deriving DecidableEq, Repr

/-- A message of transmit class 0, with the station it is addressed to (R167). -/
inductive Out0 where
  | repairRequest (target : Nat) (channel : Fin 2)
  | controlRequest (target : Nat) (id : Byte) (watched : Channels)
  | controlVerdict (target : Nat) (verdict : Verdict) (id : Byte)
  | controlRelease (target : Nat) (id : Byte)
  | controlWithdrawn (target : Nat) (reason : Reason) (id : Byte)
  | lamps (target : Nat) (lamps : Lamps)
  | attnClear (target : Nat)
  deriving DecidableEq, Repr

/-- An INPUT in transmit class 1 (R68). -/
structure OutInput where
  /-- the source it is addressed to -/
  target : Nat
  /-- request id -/
  id : Byte
  /-- INPUT sequence -/
  seq : BitVec 16
  /-- key snapshot -/
  snapshot : Snapshot
  /-- button set -/
  buttons : Buttons
  /-- pointer field -/
  field : Option PtrField
  /-- wheel share -/
  wheel : Int
  deriving DecidableEq, Repr

/-- An entry of transmit class 2 (R173). -/
inductive Out2 where
  /-- a PRESENCE is due; it holds no content -/
  | presence
  /-- FRAME-CLOSE of a channel: frame number, epoch, mode, dirty count (R132) -/
  | frameClose (channel : Fin 2) (frame : BitVec 32) (epoch : Byte) (mode : Size) (dirty : Nat)
  deriving DecidableEq, Repr

/-- How a tile is coded (R125). -/
inductive Coding where
  | fill
  /-- FEW with a palette of n colours -/
  | few (n : Nat)
  | raw
  deriving DecidableEq, Repr

/-- The TILE in transmit class 3 (R126). -/
structure OutTile where
  /-- channel -/
  channel : Fin 2
  /-- the channel's epoch -/
  epoch : Byte
  /-- coding -/
  coding : Coding
  /-- tile column -/
  col : Nat
  /-- tile row -/
  row : Nat
  /-- the channel's frame number at coding -/
  frame : BitVec 32
  /-- coding payload -/
  payload : List Byte
  deriving DecidableEq, Repr

/-- A block that takes messages from the receive buffer (R167, R171). -/
inductive Taker where
  | ca | fu | sr | ts
  deriving DecidableEq, Repr

/-- A message that has passed FP's checks (R169). -/
structure RxMsg where
  /-- kind -/
  kind : Kind
  /-- sender's station -/
  sender : Nat
  /-- sender's role, from the flags -/
  role : Role
  /-- envelope channel -/
  channel : Fin 2
  /-- envelope sequence -/
  seq : BitVec 16
  /-- payload -/
  payload : List Byte
  deriving DecidableEq, Repr

/-- A message in the receive buffer, with the blocks that have yet to take it (R171, R172). -/
structure RxEntry where
  /-- the message -/
  msg : RxMsg
  /-- its takers -/
  takers : List Taker
  deriving DecidableEq, Repr

/-- The fabric port (R166, R168, R172, R173). -/
structure FP where
  /-- own station number -/
  own : Nat
  /-- fabric type code -/
  typeCode : Nat
  /-- port started -/
  started : Bool
  /-- link state UP -/
  linkUp : Bool
  /-- subscription list -/
  subs : List Stream
  /-- receive buffer, oldest first -/
  rx : List RxEntry
  /-- transmit class 0, oldest first -/
  class0 : List Out0
  /-- transmit class 1, oldest first -/
  class1 : List OutInput
  /-- transmit class 2, oldest first -/
  class2 : List Out2
  /-- transmit class 3 -/
  class3 : Option OutTile
  /-- the frame last put on the port, without its frame check sequence -/
  sending : Option (List Byte)
  deriving DecidableEq, Repr

/-- FP after reset (R166, R168, R172, R173). -/
def FP.reset : FP :=
  { own := 0, typeCode := 0, started := false, linkUp := false, subs := [], rx := [], class0 := [], class1 := [],
    class2 := [], class3 := none, sending := none }

/-! ### CU: capture unit (07) -/

/-- A regular measurement of a frame (R108). -/
structure Meas where
  /-- active width -/
  w : Nat
  /-- active height -/
  h : Nat
  /-- total lines -/
  lines : Nat
  /-- frame period in microseconds -/
  period : Nat
  deriving DecidableEq, Repr

/-- A channel's state (R109). -/
inductive ChannelState where
  | noSignal | measuring | locked | unsupported
  deriving DecidableEq, Repr

/-- A channel context (R107, R109, R118). -/
structure Channel where
  /-- state -/
  state : ChannelState
  /-- reference -/
  ref : Option Meas
  /-- run -/
  run : Nat
  /-- locked mode -/
  mode : Option Meas
  /-- epoch -/
  epoch : Byte
  /-- frame number -/
  frame : BitVec 32
  /-- sync timer -/
  sync : Timer
  /-- row in progress -/
  row : Option Nat
  /-- completed through -/
  through : Option Nat
  /-- the rows that have completed since the lock -/
  completed : List Nat
  /-- the number of the next valid line of the frame in progress -/
  line : Nat
  /-- HSYNC pulse level, high is `true` -/
  hPulse : Bool
  /-- VSYNC pulse level, high is `true` -/
  vPulse : Bool
  deriving DecidableEq, Repr

/-- A channel context after reset (R107, R109). -/
def Channel.reset : Channel :=
  { state := .noSignal, ref := none, run := 0, mode := none, epoch := 0, frame := 0, sync := none, row := none,
    through := none, completed := [], line := 0, hPulse := true, vPulse := true }

/-- A frame store: the bytes that differ from what an unlisted address reads as, addresses strictly rising. -/
abbrev Memory := List Host.Cell

/-- The capture unit. -/
structure CU where
  /-- the two channel contexts -/
  ch : Pair Channel
  /-- the source frame store (R116) -/
  store : Memory
  deriving DecidableEq, Repr

/-- CU after reset. -/
def CU.reset : CU := { ch := ⟨Channel.reset, Channel.reset⟩, store := [] }

/-! ### TS: tile sender (07, 08) -/

/-- A tile of a grid. -/
structure Tile where
  /-- column -/
  col : Nat
  /-- row -/
  row : Nat
  deriving DecidableEq, Repr

/-- A tile of a dirty set, with its age (R121). -/
structure DirtyTile where
  /-- the tile -/
  tile : Tile
  /-- the frame number at which it entered -/
  age : BitVec 32
  deriving DecidableEq, Repr

/-- What TS keeps for one channel (R120, R121, R130, R133). -/
structure TsChannel where
  /-- signature table in raster order; `none` is not yet captured -/
  sigs : List (Option (BitVec 32))
  /-- dirty set, head first -/
  dirty : List DirtyTile
  /-- rolling cursor -/
  cursor : Tile
  /-- rolling allowance -/
  allowance : Nat
  /-- message sequence of the channel's stream -/
  seq : BitVec 16
  deriving DecidableEq, Repr

/-- TS's part for one channel after reset (R136). -/
def TsChannel.reset : TsChannel :=
  { sigs := [], dirty := [], cursor := ⟨0, 0⟩, allowance := 0, seq := 0 }

/-- The tile sender (R123, R130, R135). -/
structure TS where
  /-- rate in Mb/s -/
  rate : Nat
  /-- depth in bytes -/
  depth : Nat
  /-- token count in bits -/
  tokens : Nat
  /-- rolling allowance per frame K -/
  k : Nat
  /-- per channel -/
  ch : Pair TsChannel
  /-- refresh window -/
  window : Timer
  /-- pending flag -/
  refreshPending : Bool
  deriving DecidableEq, Repr

/-- TS after reset (R136). DESIGN CHOICE: R123 and R136 give the token count no value before acceptance, for there is no
depth; it is 0 until then, as are rate, depth and K (log 5). -/
def TS.reset : TS :=
  { rate := 0, depth := 0, tokens := 0, k := 0, ch := ⟨TsChannel.reset, TsChannel.reset⟩, window := none,
    refreshPending := false }

/-! ### CA: control arbiter (05) -/

/-- An entry of the permit table (R70). -/
structure Permit where
  /-- desk station -/
  desk : Nat
  /-- rank 1..3 -/
  rank : Nat
  deriving DecidableEq, Repr

/-- The record of a holder (R71, R87). -/
structure Slot where
  /-- the holder -/
  desk : Nat
  /-- its rank -/
  rank : Nat
  /-- the id under which it holds -/
  id : Byte
  /-- last change -/
  lastChange : Time
  /-- accepted sequence -/
  accepted : Option (BitVec 16)
  /-- the snapshot of the previous INPUT accepted from this holder -/
  prevSnapshot : Snapshot
  /-- its button set -/
  prevButtons : Buttons
  /-- the last present pointer field accepted -/
  prevField : Option PtrField
  deriving DecidableEq, Repr

/-- An entry of the wait list (R72). -/
structure WaitEntry where
  /-- the waiting desk -/
  desk : Nat
  /-- its rank -/
  rank : Nat
  /-- request id -/
  id : Byte
  /-- entry time -/
  entered : Time
  deriving DecidableEq, Repr

/-- An entry of the viewer table (R73). -/
structure Viewer where
  /-- desk station -/
  desk : Nat
  /-- watched channels -/
  watched : Channels
  /-- last heard -/
  heard : Time
  deriving DecidableEq, Repr

/-- A NOT-HOLDER note (R88). -/
structure Note where
  /-- desk station -/
  desk : Nat
  /-- time sent -/
  sent : Time
  /-- its 100 ms timer; it counts while this runs -/
  timer : Timer
  deriving DecidableEq, Repr

/-- The control arbiter. -/
structure CA where
  /-- permit table -/
  permits : List Permit
  /-- T_grace in seconds -/
  grace : Nat
  /-- T_wait in seconds -/
  waitLife : Nat
  /-- holder slot -/
  slot : Option Slot
  /-- idle timer -/
  idle : Timer
  /-- whether the idle timer has expired since it was started -/
  idleExpired : Bool
  /-- wait list, head first -/
  wait : List WaitEntry
  /-- viewer table -/
  viewers : List Viewer
  /-- NOT-HOLDER notes -/
  notes : List Note
  deriving DecidableEq, Repr

/-- CA after reset (R70 to R73, R88). -/
def CA.reset : CA :=
  { permits := [], grace := 0, waitLife := 0, slot := none, idle := none, idleExpired := false, wait := [],
    viewers := [], notes := [] }

/-! ### WP: workstation port (06) -/

/-- A connected device state other than SUSPENDED (R91, R105). -/
inductive BusState where
  | default | addressed | configured
  deriving DecidableEq, Repr

/-- The device state (R91, R105). -/
inductive PortState where
  | detached
  | connected (b : BusState)
  /-- SUSPENDED, with the state it left -/
  | suspended (left : BusState)
  deriving DecidableEq, Repr

/-- An entry of the workstation snapshot queue (R96). -/
structure QueueEntry where
  /-- the snapshot -/
  snapshot : Snapshot
  /-- entry time -/
  entered : Time
  /-- recovery mark -/
  recovery : Bool
  deriving DecidableEq, Repr

/-- A delivered pointer report: X, Y and buttons (R103). -/
structure PointerReport where
  /-- X -/
  x : Nat
  /-- Y -/
  y : Nat
  /-- buttons -/
  buttons : Buttons
  deriving DecidableEq, Repr

/-- What WP last answered on the workstation's bus (the model's own output, log 16). -/
inductive UsbAnswer where
  /-- no answer -/
  | silent
  /-- acknowledged -/
  | ack
  /-- a stall -/
  | stall
  /-- a poll answered with no data -/
  | noData
  /-- the description of one configuration with two interfaces (R92, R95) -/
  | descriptor
  /-- a report of these bytes -/
  | report (bytes : List Byte)
  deriving DecidableEq, Repr

/-- A channel placement (R101). -/
structure ChannelPlace where
  /-- desktop origin px -/
  px : Nat
  /-- desktop origin py -/
  py : Nat
  /-- width and height of the mode while CU holds the channel LOCKED -/
  mode : Option Size
  deriving DecidableEq, Repr

/-- The workstation port. -/
structure WP where
  /-- device state -/
  port : PortState
  /-- address -/
  address : Nat
  /-- remote wake flag -/
  remoteWake : Bool
  /-- snapshot queue, oldest first -/
  queue : List QueueEntry
  /-- presented snapshot -/
  presented : Snapshot
  /-- button set -/
  buttons : Buttons
  /-- logical position X -/
  x : Nat
  /-- logical position Y -/
  y : Nat
  /-- channel placements -/
  places : Pair ChannelPlace
  /-- desktop extent W × H, none while undefined -/
  extent : Option Size
  /-- wheel accumulator -/
  wheel : Int
  /-- last delivered pointer report -/
  delivered : Option PointerReport
  /-- lamps -/
  lamps : Lamps
  /-- resume signalling in progress -/
  resuming : Timer
  /-- when a resume was last signalled in this suspension, while that is less than 100 ms ago -/
  resumeGap : Timer
  /-- level of VBUS_SENSE -/
  vbus : Bool
  /-- the last answer on the workstation's bus -/
  answer : UsbAnswer
  deriving DecidableEq, Repr

/-- WP after reset (R106). The device address, which R106 does not list and R93 sets at connection, is 0 (log 5). -/
def WP.reset : WP :=
  { port := .detached, address := 0, remoteWake := false, queue := [], presented := .released, buttons := 0,
    x := 16384, y := 16384, places := ⟨⟨0, 0, none⟩, ⟨0, 0, none⟩⟩, extent := none, wheel := 0, delivered := none,
    lamps := 0, resuming := none, resumeGap := none, vbus := false, answer := .silent }

/-! ### II: input intake (03) -/

/-- A desk host port's state (R35). -/
inductive HostState where
  | off | detached | enumerating | polling | unsupported
  deriving DecidableEq, Repr

/-- An interface served: its place in the device's description and its poll interval (R36). -/
structure Served where
  /-- place in the description, from 0 -/
  place : Nat
  /-- poll interval, in milliseconds (log 41) -/
  interval : Nat
  deriving DecidableEq, Repr

/-- A port record (R35, R50). -/
structure HostPort where
  /-- port state -/
  state : HostState
  /-- VBUS_EN, high is `true` -/
  vbusEn : Bool
  /-- the keyboard interface served -/
  keyboard : Option Served
  /-- the mouse interface served -/
  mouse : Option Served
  /-- keyboard state -/
  keys : Snapshot
  /-- last keyboard report -/
  lastReport : Option (List Byte)
  /-- lamps sent; `none` is UNKNOWN -/
  lampsSent : Option Lamps
  /-- the lamp report in flight -/
  lampFlight : Option Lamps
  /-- the 100 ms wait before a failed lamp report is sent again -/
  lampRetry : Timer
  /-- error count -/
  errors : Nat
  /-- enumeration attempts -/
  attempts : Nat
  deriving DecidableEq, Repr

/-- A port record after reset (R35). -/
def HostPort.reset : HostPort :=
  { state := .off, vbusEn := false, keyboard := none, mouse := none, keys := .released, lastReport := none,
    lampsSent := none, lampFlight := none, lampRetry := none, errors := 0, attempts := 0 }

/-- The hotkey machine's state (R43). -/
inductive Hotkey where
  | normal | leadSeen | command
  deriving DecidableEq, Repr

/-- The lead (R43). -/
inductive Lead where
  /-- a key code -/
  | key (code : Byte)
  /-- a modifier by its index, in the order of R39 -/
  | modifier (index : Nat)
  deriving DecidableEq, Repr

/-- The input intake. -/
structure II where
  /-- the two port records -/
  ports : Pair HostPort
  /-- desk raw snapshot -/
  raw : Snapshot
  /-- suppressed set -/
  suppressed : Snapshot
  /-- last passed snapshot -/
  passed : Snapshot
  /-- hotkey machine -/
  hotkey : Hotkey
  /-- tap flag -/
  tap : Bool
  /-- LEAD-SEEN timer -/
  leadSeen : Timer
  /-- COMMAND timer -/
  command : Timer
  /-- lead -/
  lead : Lead
  /-- shown lamp value -/
  shown : Lamps
  deriving DecidableEq, Repr

/-- II after reset (R35, R40, R41, R43, R49). -/
def II.reset : II :=
  { ports := ⟨HostPort.reset, HostPort.reset⟩, raw := .released, suppressed := .released, passed := .released,
    hotkey := .normal, tap := false, leadSeen := none, command := none, lead := .key 0, shown := 0 }

/-! ### CP: canvas and pointer (01, 02) -/

/-- A head's validity (R1). -/
inductive Validity where
  | valid | unused | invalid
  deriving DecidableEq, Repr

/-- A head record (R1). -/
structure HeadRec where
  /-- mode index -/
  mode : Nat
  /-- canvas origin cx -/
  cx : Nat
  /-- canvas origin cy -/
  cy : Nat
  /-- width -/
  w : Nat
  /-- height -/
  h : Nat
  /-- validity -/
  validity : Validity
  deriving DecidableEq, Repr

/-- A head record after reset: no image values, INVALID (R1). -/
def HeadRec.reset : HeadRec := { mode := 0, cx := 0, cy := 0, w := 0, h := 0, validity := .invalid }

/-- A mode entry (R2, R191). -/
structure ModeEntry where
  /-- active width -/
  aw : Nat
  /-- active height -/
  ah : Nat
  /-- horizontal front porch -/
  hfp : Nat
  /-- horizontal sync width -/
  hsw : Nat
  /-- horizontal back porch -/
  hbp : Nat
  /-- vertical front porch -/
  vfp : Nat
  /-- vertical sync width -/
  vsw : Nat
  /-- vertical back porch -/
  vbp : Nat
  /-- horizontal polarity -/
  hpol : Nat
  /-- vertical polarity -/
  vpol : Nat
  /-- multiplier M -/
  m : Nat
  /-- divider N -/
  n : Nat
  deriving DecidableEq, Repr

/-- The gain table (R20). -/
structure Gains where
  /-- threshold t1 -/
  t1 : Nat
  /-- threshold t2 -/
  t2 : Nat
  /-- threshold t3 -/
  t3 : Nat
  /-- gain g0 -/
  g0 : Nat
  /-- gain g1 -/
  g1 : Nat
  /-- gain g2 -/
  g2 : Nat
  /-- gain g3 -/
  g3 : Nat
  deriving DecidableEq, Repr

/-- A head edge (R16). -/
inductive Edge where
  | left | right | top | bottom
  deriving DecidableEq, Repr

/-- An assignment of each head: a stream, or none (R6). -/
abbrev Layout := Quad (Option Stream)

/-- The canvas and pointer unit. -/
structure CP where
  /-- mode table -/
  modes : List ModeEntry
  /-- head records -/
  heads : Quad HeadRec
  /-- layout table, layout 1 first -/
  layouts : List Layout
  /-- current layout index -/
  layout : Nat
  /-- gain table -/
  gains : Gains
  /-- edge resistance R_e -/
  resist : Nat
  /-- pointer head -/
  head : Option (Fin 4)
  /-- position x -/
  x : Nat
  /-- position y -/
  y : Nat
  /-- carry c_x -/
  carryX : Int
  /-- carry c_y -/
  carryY : Int
  /-- push count -/
  push : Nat
  /-- push edge; `none` is NONE -/
  edge : Option Edge
  /-- confine -/
  confine : Bool
  /-- button state of each host port -/
  portButtons : Pair Buttons
  /-- wheel sum -/
  wheel : Int
  /-- pointer field; `none` is ABSENT -/
  field : Option PtrField
  deriving DecidableEq, Repr

/-- CP after reset (R1, R16, R29). DESIGN CHOICE: R16 gives the carries, the push count and its edge, the buttons and the
wheel sum a value at acceptance alone; before it they hold that value too (log 5). -/
def CP.reset : CP :=
  { modes := [], heads := ⟨HeadRec.reset, HeadRec.reset, HeadRec.reset, HeadRec.reset⟩, layouts := [], layout := 1,
    gains := ⟨0, 0, 0, 0, 0, 0, 0⟩, resist := 0, head := none, x := 0, y := 0, carryX := 0, carryY := 0, push := 0,
    edge := none, confine := false, portButtons := ⟨0, 0⟩, wheel := 0, field := none }

/-! ### FU: focus unit (04) -/

/-- A source context record's state (R52). -/
inductive RecState where
  | idle | asking | queued | holding
  deriving DecidableEq, Repr

/-- The kinds of the leave procedure (R60). -/
inductive LeaveKind where
  | clear | release
  deriving DecidableEq, Repr

/-- What the last INPUT handed to a source carried (R68). -/
structure Noted where
  /-- snapshot -/
  snapshot : Snapshot
  /-- button set -/
  buttons : Buttons
  /-- pointer field -/
  field : Option PtrField
  deriving DecidableEq, Repr

/-- A source context record (R52, R64). -/
structure SrcRec where
  /-- station -/
  station : Nat
  /-- state -/
  state : RecState
  /-- request id -/
  id : Byte
  /-- send count -/
  sends : Nat
  /-- ask timer -/
  ask : Timer
  /-- watched channels -/
  watched : Channels
  /-- lamps -/
  lamps : Lamps
  /-- refused flag -/
  refused : Bool
  /-- refused timer -/
  refusedTimer : Timer
  /-- absent flag -/
  absent : Bool
  /-- absence timer -/
  absence : Timer
  /-- last change -/
  lastChange : Time
  /-- hold-off timer -/
  holdOff : Timer
  /-- INPUT sequence -/
  seq : BitVec 16
  /-- last INPUT noted -/
  noted : Noted
  /-- pending leave; `none` is NONE -/
  leave : Option LeaveKind
  deriving DecidableEq, Repr

/-- The focus unit. -/
structure FU where
  /-- auto-request -/
  autoRequest : Bool
  /-- on-leave: the kind of the leave made at a focus change (RELEASE, or CLEAR under RETAIN) -/
  onLeave : LeaveKind
  /-- input interval in milliseconds -/
  intervalMs : Nat
  /-- source context table -/
  records : List SrcRec
  /-- the stations whose leave is pending, in the order in which they were set (R61) -/
  leaveOrder : List Nat
  /-- request id counter -/
  idCounter : Byte
  /-- desk snapshot queue, oldest first -/
  queue : List Snapshot
  /-- fresh flag -/
  fresh : Bool
  /-- runs from the last INPUT handed to class 1; stopped once the input interval has passed -/
  interval : Timer
  deriving DecidableEq, Repr

/-- FU after reset (R52, R53, R66, R67). -/
def FU.reset : FU :=
  { autoRequest := false, onLeave := .release, intervalMs := 0, records := [], leaveOrder := [], idCounter := 0,
    queue := [], fresh := false, interval := none }

/-! ### SR: stream receiver (01, 09) -/

/-- A stream context's state (R137). -/
inductive CtxState where
  | waiting | live | stale | lost
  deriving DecidableEq, Repr

/-- A stream context (R137). -/
structure Ctx where
  /-- stream -/
  stream : Stream
  /-- region -/
  region : Fin 4
  /-- state -/
  state : CtxState
  /-- epoch -/
  epoch : Option Byte
  /-- mode -/
  mode : Option Size
  /-- last sequence -/
  lastSeq : Option (BitVec 16)
  /-- when the last FRAME-CLOSE was taken, none before the first (log 40) -/
  lastClose : Option Time
  /-- stale timer -/
  stale : Timer
  /-- lost timer -/
  lost : Timer
  /-- repair timer -/
  repair : Timer
  /-- repair owed -/
  owed : Bool
  deriving DecidableEq, Repr

/-- A PLACED placement record (R12). -/
structure Placement where
  /-- region of the stream shown -/
  region : Fin 4
  /-- scale k -/
  k : Nat
  /-- displayed width -/
  dw : Nat
  /-- displayed height -/
  dh : Nat
  /-- image offset ox -/
  ox : Nat
  /-- image offset oy -/
  oy : Nat
  deriving DecidableEq, Repr

/-- The stream receiver. -/
structure SR where
  /-- stream contexts -/
  ctxs : List Ctx
  /-- placement records; `none` is NONE -/
  places : Quad (Option Placement)
  /-- the desk frame store (R138) -/
  store : Memory
  deriving DecidableEq, Repr

/-- SR after reset (R137, R138, R12). -/
def SR.reset : SR := { ctxs := [], places := ⟨none, none, none, none⟩, store := [] }

/-! ### HU: head unit (10) -/

/-- A head's state (R153). -/
inductive HeadState where
  | off | noStream | active | stale | blank
  deriving DecidableEq, Repr

/-- A state profile (R155). -/
structure Profile where
  /-- whether the image is shown -/
  image : Bool
  /-- border colour -/
  border : Colour
  /-- whether sync is on -/
  sync : Bool
  deriving DecidableEq, Repr

/-- A profile before the image gives one (log 5). -/
def Profile.reset : Profile := { image := false, border := ⟨0, 0, 0⟩, sync := false }

/-- What HU read of the focus record at a line start (R157). -/
structure FocusView where
  /-- record state -/
  state : RecState
  /-- refused flag -/
  refused : Bool
  /-- absent flag -/
  absent : Bool
  deriving DecidableEq, Repr

/-- What HU read at a line start and holds for the line (R157). -/
structure LineLatch where
  /-- number of the line -/
  line : Nat
  /-- head state -/
  state : HeadState
  /-- placement record -/
  place : Option Placement
  /-- pointer position in head coordinates, when this head is the pointer head -/
  pointer : Option (Nat × Nat)
  /-- the focus record, when this head is the pointer head and has a focus source -/
  focus : Option FocusView
  deriving DecidableEq, Repr

/-- One head (R152, R153, R157). -/
structure HeadOut where
  /-- synthesiser's M and N; `none` is stopped -/
  synth : Option (Nat × Nat)
  /-- timing generator running -/
  running : Bool
  /-- number of the line that starts next -/
  line : Nat
  /-- head state -/
  state : HeadState
  /-- sync setting in force -/
  syncOn : Bool
  /-- what was read at the last line start -/
  latch : Option LineLatch
  deriving DecidableEq, Repr

/-- A head after reset (R165). -/
def HeadOut.reset : HeadOut :=
  { synth := none, running := false, line := 0, state := .off, syncOn := false, latch := none }

/-- The colours of the focus frame (R159). -/
structure FrameColours where
  /-- HOLDING -/
  holding : Colour
  /-- ASKING -/
  asking : Colour
  /-- QUEUED -/
  queued : Colour
  /-- IDLE -/
  idle : Colour
  /-- refused -/
  refused : Colour
  /-- absent -/
  absent : Colour
  deriving DecidableEq, Repr

/-- The glyph (R161, R162). -/
structure Glyph where
  /-- the codes, 16 rows of 16, top row first -/
  codes : List (BitVec 2)
  /-- hotspot hx -/
  hx : Nat
  /-- hotspot hy -/
  hy : Nat
  /-- colour A -/
  a : Colour
  /-- colour B -/
  b : Colour
  /-- glyph always -/
  always : Bool
  deriving DecidableEq, Repr

/-- The head unit. -/
structure HU where
  /-- the four heads -/
  heads : Quad HeadOut
  /-- profile of NO-STREAM -/
  noStream : Profile
  /-- profile of ACTIVE -/
  active : Profile
  /-- profile of STALE -/
  stale : Profile
  /-- profile of BLANK -/
  blankProfile : Profile
  /-- focus frame width b -/
  frameWidth : Nat
  /-- focus frame colours -/
  colours : FrameColours
  /-- glyph -/
  glyph : Glyph
  /-- T_blank in minutes -/
  tBlank : Nat
  /-- minute timer -/
  minute : Timer
  /-- minute count -/
  count : Nat
  /-- desk blank flag -/
  blank : Bool
  deriving DecidableEq, Repr

/-- HU after reset (R163, R165). -/
def HU.reset : HU :=
  { heads := ⟨HeadOut.reset, HeadOut.reset, HeadOut.reset, HeadOut.reset⟩, noStream := .reset, active := .reset,
    stale := .reset, blankProfile := .reset, frameWidth := 0,
    colours := ⟨⟨0, 0, 0⟩, ⟨0, 0, 0⟩, ⟨0, 0, 0⟩, ⟨0, 0, 0⟩, ⟨0, 0, 0⟩, ⟨0, 0, 0⟩⟩,
    glyph := ⟨[], 0, 0, ⟨0, 0, 0⟩, ⟨0, 0, 0⟩, false⟩, tBlank := 0, minute := none, count := 0, blank := false }

/-! ### The machine -/

/-- Everything the part holds, and the queue of commands waiting for it. -/
structure State where
  /-- the commands waiting, first in, first out -/
  pending : List Instr
  /-- the microsecond counter -/
  now : Time
  /-- the role -/
  role : Role
  /-- start and attention unit -/
  sa : SA
  /-- presence unit -/
  pu : PU
  /-- fabric port -/
  fp : FP
  /-- capture unit -/
  cu : CU
  /-- tile sender -/
  ts : TS
  /-- control arbiter -/
  ca : CA
  /-- workstation port -/
  wp : WP
  /-- input intake -/
  ii : II
  /-- canvas and pointer unit -/
  cp : CP
  /-- focus unit -/
  fu : FU
  /-- stream receiver -/
  sr : SR
  /-- head unit -/
  hu : HU
  deriving DecidableEq, Repr

/-- The faults: none. The spec gives the part no stop, so no command of any meaning raises a fault (log 1); what the
spec calls a fault is a condition of SA (R185). -/
inductive Fault where
  deriving DecidableEq, Repr

/-- The refusals. No meaning raises one: every command of the table has its meaning. -/
inductive Refusal where
  /-- raised by an arm of exec for a command without a meaning; safe, since the run ends there; no arm raises it -/
  | notModelled (mnemonic : String)
  deriving DecidableEq, Repr

/-- The machine right after reset (R179): every block in its reset state, no command waiting, and the role of a strap
held low (log 4). -/
def State.reset : State :=
  { pending := [], now := 0, role := .desk, sa := .reset, pu := .reset, fp := .reset, cu := .reset, ts := .reset,
    ca := .reset, wp := .reset, ii := .reset, cp := .reset, fu := .reset, sr := .reset, hu := .reset }

/-! ### Replacing one block -/

/-- The state with SA replaced. -/
def State.setSA (s : State) (b : SA) : State := { s with sa := b }

/-- The state with PU replaced. -/
def State.setPU (s : State) (b : PU) : State := { s with pu := b }

/-- The state with FP replaced. -/
def State.setFP (s : State) (b : FP) : State := { s with fp := b }

/-- The state with CU replaced. -/
def State.setCU (s : State) (b : CU) : State := { s with cu := b }

/-- The state with TS replaced. -/
def State.setTS (s : State) (b : TS) : State := { s with ts := b }

/-- The state with CA replaced. -/
def State.setCA (s : State) (b : CA) : State := { s with ca := b }

/-- The state with WP replaced. -/
def State.setWP (s : State) (b : WP) : State := { s with wp := b }

/-- The state with II replaced. -/
def State.setII (s : State) (b : II) : State := { s with ii := b }

/-- The state with CP replaced. -/
def State.setCP (s : State) (b : CP) : State := { s with cp := b }

/-- The state with FU replaced. -/
def State.setFU (s : State) (b : FU) : State := { s with fu := b }

/-- The state with SR replaced. -/
def State.setSR (s : State) (b : SR) : State := { s with sr := b }

/-- The state with HU replaced. -/
def State.setHU (s : State) (b : HU) : State := { s with hu := b }

end Sys2Proof.Machine
end

