-- ==== Sys2Proof/Machine/Flags.lean ====
section
/-!
DEFINITION. The condition sets and the attention line of SA (R185 to R188): setting, latching and clearing conditions,
acknowledgement, pulses, and driving ATTN_N.
-/

namespace Sys2Proof.Machine

/-- The number of a condition's bit (13, PAYLOADS). -/
def Cond.index : Cond → Nat
  | .imageFault => 0
  | .stationClash => 1
  | .malformed => 2
  | .rxOverflow => 3
  | .txDrop => 4
  | .headInvalid => 5
  | .streamLost => 6
  | .sourceSilent => 7
  | .deviceUnsupported => 8
  | .channelUnsupported => 9
  | .inputOverrun => 10
  | .workstationDetached => 11
  | .viewersFull => 12

/-- A condition's bit alone. -/
def Cond.bit (c : Cond) : CondSet := 1#16 <<< c.index

/-- Whether a condition is in a set. -/
def CondSet.has (cs : CondSet) (c : Cond) : Bool := cs.getLsbD c.index

/-- Whether attention is asserted (R187): in HALTED, and, once the mask set is loaded, while a latched condition is not
masked. -/
def SA.attention (a : SA) : Bool :=
  a.start = .halted || (match a.mask with
    | none => false
    | some m => (a.latched &&& ~~~m) ≠ 0)

/-- SA with ATTN_N driven anew (R187). -/
def SA.drive (a : SA) : SA := { a with attnN := !a.attention }

/-- Latching a condition (R185). -/
def SA.latch (a : SA) (c : Cond) : SA := SA.drive { a with latched := a.latched ||| c.bit }

/-- A state condition whose state begins: set current and latched (R185). -/
def SA.raise (a : SA) (c : Cond) : SA :=
  SA.drive { a with current := a.current ||| c.bit, latched := a.latched ||| c.bit }

/-- A state condition's current bit set as its state stands; the latched bit is kept (R185). -/
def SA.setCurrent (a : SA) (c : Cond) (stands : Bool) : SA :=
  { a with current := if stands then a.current ||| c.bit else a.current &&& ~~~c.bit }

/-- Acknowledgement: every latched condition whose current bit is clear is cleared (R188). -/
def SA.acknowledge (a : SA) : SA := SA.drive { a with latched := a.latched &&& a.current }

/-- The latched bit of every pulse condition carried as latched by the PRESENCE just built is cleared (R186). -/
def SA.clearPulses (a : SA) : SA :=
  SA.drive { a with latched := a.latched &&& ~~~(a.pulse.getD 0) }

/-- Latching a condition in the part's state. -/
def State.latch (s : State) (c : Cond) : State := s.setSA (s.sa.latch c)

/-- Setting a state condition current and latched in the part's state. -/
def State.raise (s : State) (c : Cond) : State := s.setSA (s.sa.raise c)

/-- Setting a state condition's current bit in the part's state. -/
def State.setCurrent (s : State) (c : Cond) (stands : Bool) : State := s.setSA (s.sa.setCurrent c stands)

/-- Whether the part is SERVING in a given role. -/
def State.servingAs (s : State) (r : Role) : Bool := s.sa.start = .serving && s.role = r

end Sys2Proof.Machine
end

