-- ==== Sys2Proof/Config.lean ====
section
/-!
DEFINITION. What the part fixes: the intervals of its timers in microseconds, the sizes of its tables, queues and
stores, and the constants of its formats. Every tunable value comes from the configuration image instead.
-/

namespace Sys2Proof.Config

/-- Microseconds in `n` milliseconds. -/
def ms (n : Nat) : Nat := n * 1000

/-- The listen timer, 1000 ms (R183). -/
def listenUs : Nat := ms 1000
/-- The presence timer, 250 ms (R175). -/
def presenceUs : Nat := ms 250
/-- The ask timer, 200 ms (R52, R55). -/
def askUs : Nat := ms 200
/-- The refused timer, 2000 ms (R59). -/
def refusedUs : Nat := ms 2000
/-- The absence timer, 1000 ms (R65). -/
def absenceUs : Nat := ms 1000
/-- The hold-off of reconciliation, 100 ms (R64). -/
def holdOffUs : Nat := ms 100
/-- The LEAD-SEEN timer, 500 ms (R43). -/
def leadSeenUs : Nat := ms 500
/-- The COMMAND timer, 2000 ms (R43). -/
def commandUs : Nat := ms 2000
/-- The wait before a failed lamp report is sent again, 100 ms (R50). -/
def lampRetryUs : Nat := ms 100
/-- The stale timer, 1000 ms (R147). -/
def staleUs : Nat := ms 1000
/-- The lost timer, 5000 ms (R147). -/
def lostUs : Nat := ms 5000
/-- The repair window, 500 ms (R143). -/
def repairUs : Nat := ms 500
/-- The minute timer, 60,000 ms (R163). -/
def minuteUs : Nat := ms 60000
/-- The sync timer, 100 ms (R112). -/
def syncUs : Nat := ms 100
/-- The refresh window, 500 ms (R135). -/
def refreshUs : Nat := ms 500
/-- The life of a viewer entry, 1000 ms (R74). -/
def viewerUs : Nat := ms 1000
/-- The timer of a NOT-HOLDER note, 100 ms (R88). -/
def noteUs : Nat := ms 100
/-- The age limit of the workstation snapshot queue, 250 ms, to be exceeded (R98). -/
def queueAgeUs : Nat := ms 250
/-- Resume signalling, 10 ms (R105). -/
def resumeUs : Nat := ms 10
/-- The least time between two resume signals of one suspension, 100 ms (R105). -/
def resumeGapUs : Nat := ms 100

/-- The receive buffer, 262,144 bytes (R172). -/
def rxBytes : Nat := 262144
/-- Entries of transmit class 0 (R173). -/
def class0Max : Nat := 16
/-- Entries of transmit class 1 (R173). -/
def class1Max : Nat := 4
/-- Entries of transmit class 2 (R173). -/
def class2Max : Nat := 4
/-- Entries of the wait list (R72). -/
def waitMax : Nat := 4
/-- Entries of the viewer table (R73). -/
def viewerMax : Nat := 32
/-- NOT-HOLDER notes (R88). -/
def noteMax : Nat := 8
/-- Entries of the workstation snapshot queue (R96). -/
def wpQueueMax : Nat := 32
/-- Entries of the desk snapshot queue (R66). -/
def deskQueueMax : Nat := 16
/-- Key codes of a snapshot (R40). -/
def snapshotKeysMax : Nat := 6

/-- Pixels from one row of a region to the next (R116). -/
def pitch : Nat := 2560
/-- Rows a region has room for (R116). -/
def regionRows : Nat := 1600
/-- Bytes between the first bytes of two regions of a store (R138; for the source store, log 6). -/
def regionBytes : Nat := 16777216

/-- The magic value of the image header (13, THE CONFIGURATION IMAGE). -/
def imageMagic : Nat := 0x50453432
/-- Length of a desk's image body. -/
def deskBodyBytes : Nat := 411
/-- Length of a source's image body. -/
def sourceBodyBytes : Nat := 73

end Sys2Proof.Config
end

