-- ==== Sys2Proof/Machine/Operands.lean ====
section
/-!
DEFINITION. The forms in which values come and go: numbers in bytes (R189), key snapshots, USB reports (R17, R39, R95),
the envelope and payloads of room messages (13, THE ENVELOPE, PAYLOADS), Ethernet addresses (R167), and the CRC-32.
-/

namespace Sys2Proof.Machine

/-! ### Numbers in bytes, most significant first (R189) -/

/-- Byte `i` of a list as a number, 0 beyond its end. -/
def byteAt (l : List Byte) (i : Nat) : Nat := (l.getD i 0).toNat

/-- The 16-bit number at byte `i`. -/
def word16 (l : List Byte) (i : Nat) : Nat := byteAt l i * 256 + byteAt l (i + 1)

/-- The 32-bit number at byte `i`. -/
def word32 (l : List Byte) (i : Nat) : Nat := word16 l i * 65536 + word16 l (i + 2)

/-- `n` bytes from byte `i` on. -/
def slice (l : List Byte) (i n : Nat) : List Byte := (l.drop i).take n

/-- A number's low byte. -/
def byteOf (n : Nat) : Byte := BitVec.ofNat 8 n

/-- A 16-bit number's two bytes. -/
def bytes16 (n : Nat) : List Byte := [byteOf (n / 256), byteOf n]

/-- A 32-bit number's four bytes. -/
def bytes32 (n : Nat) : List Byte := bytes16 (n / 65536) ++ bytes16 n

/-- `n` zero bytes. -/
def zeros (n : Nat) : List Byte := List.replicate n 0

/-- A list cut or filled with zeros to `n` bytes. -/
def padTo (n : Nat) (l : List Byte) : List Byte := l.take n ++ zeros (n - l.length)

/-- The colour at byte `i`. -/
def colourAt (l : List Byte) (i : Nat) : Colour := ⟨l.getD i 0, l.getD (i + 1) 0, l.getD (i + 2) 0⟩

/-- A colour's three bytes. -/
def colourBytes (c : Colour) : List Byte := [c.r, c.g, c.b]

/-- Channel 0 or 1 from a number already checked to be one of them. -/
def channelOf (n : Nat) : Fin 2 := if n = 0 then 0 else 1

/-- The set that holds one channel. -/
def channelBit (c : Fin 2) : Channels := if c = 0 then 1 else 2

/-- The 2-bit codes packed four to a byte, the first of each four in bits 7..6 (R189, R191). -/
def unpack2 (l : List Byte) : List (BitVec 2) :=
  l.flatMap fun b => [b.extractLsb' 6 2, b.extractLsb' 4 2, b.extractLsb' 2 2, b.extractLsb' 0 2]

/-- One byte of up to four 2-bit codes, the first in bits 7..6, padded with zeros. -/
def packByte (l : List (BitVec 2)) : Byte :=
  ((l.getD 0 0) ++ (l.getD 1 0) ++ (l.getD 2 0) ++ (l.getD 3 0) : BitVec 8)

/-- 2-bit codes packed four to a byte, over at most `n` bytes. -/
def pack2 : Nat → List (BitVec 2) → List Byte
  | 0, _ => []
  | n + 1, l => packByte (l.take 4) :: pack2 n (l.drop 4)

/-! ### CRC-32 (R189) -/

/-- One bit of the CRC-32: the register shifts right, and is combined with the polynomial when the bit shifted out
differs from the data bit. -/
def crcBit (r : BitVec 32) (d : Bool) : BitVec 32 :=
  if r.getLsbD 0 = d then r >>> 1 else (r >>> 1) ^^^ 0xEDB88320#32

/-- One byte of the CRC-32, least significant bit first. -/
def crcByte (r : BitVec 32) (b : Byte) : BitVec 32 :=
  (List.range 8).foldl (fun r i => crcBit r (b.getLsbD i)) r

/-- The CRC-32 of a list of bytes. -/
def crc32 (l : List Byte) : BitVec 32 := ~~~(l.foldl crcByte 0xFFFFFFFF#32)

/-! ### Key snapshots -/

/-- A key code put into an ascending list of codes, once. -/
def insertKey (k : Byte) : List Byte → List Byte
  | [] => [k]
  | j :: r => if k = j then j :: r else if k < j then k :: j :: r else j :: insertKey k r

/-- The codes of a list in ascending order, each once. -/
def sortKeys (l : List Byte) : List Byte := l.foldr insertKey []

/-- The union of two snapshots (R40). -/
def Snapshot.union (a b : Snapshot) : Snapshot := ⟨a.mods ||| b.mods, a.keys.foldr insertKey b.keys⟩

/-- What is in `a` and not in `b`. -/
def Snapshot.minus (a b : Snapshot) : Snapshot := ⟨a.mods &&& ~~~b.mods, a.keys.filter (fun k => !b.keys.contains k)⟩

/-- What is in both `a` and `b`. -/
def Snapshot.inter (a b : Snapshot) : Snapshot := ⟨a.mods &&& b.mods, a.keys.filter (fun k => b.keys.contains k)⟩

/-- The snapshot of the lead alone (R43). -/
def Lead.alone : Lead → Snapshot
  | .key c => ⟨0, [c]⟩
  | .modifier i => ⟨1#8 <<< i, []⟩

/-! ### Desk USB reports -/

/-- The first eight bytes of a keyboard report, none when it is shorter (R39; log 11). -/
def keyboardBytes (r : List Byte) : Option (List Byte) := if r.length < 8 then none else some (r.take 8)

/-- The six key slots of a keyboard report (R39). -/
def keySlots (r : List Byte) : List Byte := slice r 2 6

/-- A rollover report: all six key slots hold 0x01 (R39). -/
def isRollover (r : List Byte) : Bool := (keySlots r).all (fun k => k = 0x01#8)

/-- Whether a slot's value is a key code: not 0x00..0x03 and not 0xE0..0xE7 (R39). -/
def isKeyCode (k : Byte) : Bool := !(k.toNat ≤ 0x03 || (0xE0 ≤ k.toNat && k.toNat ≤ 0xE7))

/-- The keyboard state a report gives (R39). -/
def reportSnapshot (r : List Byte) : Snapshot := ⟨r.getD 0 0, sortKeys ((keySlots r).filter isKeyCode)⟩

/-- A mouse report's fields as CP takes them (R17). -/
structure MouseMotion where
  /-- buttons -/
  buttons : Buttons
  /-- dx, −127..127 -/
  dx : Int
  /-- dy, −127..127 -/
  dy : Int
  /-- wheel, −128..127 -/
  wheel : Int
  deriving DecidableEq, Repr

/-- Motion from a byte: −128 is taken as −127 (R17). -/
def motionOf (b : Byte) : Int := if b.toInt = -128 then -127 else b.toInt

/-- A mouse report's fields, none when it is shorter than buttons, dx and dy (R17). -/
def mouseMotion (r : List Byte) : Option MouseMotion :=
  if r.length < 3 then none
  else some ⟨(r.getD 0 0).setWidth 3, motionOf (r.getD 1 0), motionOf (r.getD 2 0), (r.getD 3 0).toInt⟩

/-! ### Workstation USB reports (R95) -/

/-- The keyboard input report of a snapshot. -/
def keyboardReport (k : Snapshot) : List Byte := [k.mods, 0] ++ padTo 6 k.keys

/-- A number's two bytes, least significant first. -/
def bytes16le (n : Nat) : List Byte := [byteOf n, byteOf (n / 256)]

/-- The pointer input report. -/
def pointerReport (b : Buttons) (x y : Nat) (wheel : Int) : List Byte :=
  [b.setWidth 8] ++ bytes16le x ++ bytes16le y ++ [BitVec.ofInt 8 wheel]

/-! ### Room messages -/

/-- The code of a kind (13, THE ENVELOPE). -/
def Kind.code : Kind → Nat
  | .presence => 1
  | .tile => 2
  | .frameClose => 3
  | .repairRequest => 4
  | .controlRequest => 5
  | .controlVerdict => 6
  | .controlRelease => 7
  | .controlWithdrawn => 8
  | .input => 9
  | .lamps => 10
  | .attnClear => 11

/-- The kind of a code. -/
def kindOf (n : Nat) : Option Kind :=
  match n with
  | 1 => some .presence
  | 2 => some .tile
  | 3 => some .frameClose
  | 4 => some .repairRequest
  | 5 => some .controlRequest
  | 6 => some .controlVerdict
  | 7 => some .controlRelease
  | 8 => some .controlWithdrawn
  | 9 => some .input
  | 10 => some .lamps
  | 11 => some .attnClear
  | _ => none

/-- Whether a role may send a kind (R167). -/
def Kind.sentBy : Kind → Role → Bool
  | .presence, _ => true
  | .tile, r | .frameClose, r | .controlVerdict, r | .controlWithdrawn, r | .lamps, r => r = .source
  | .repairRequest, r | .controlRequest, r | .controlRelease, r | .attnClear, r | .input, r => r = .desk

/-- Whether a payload length is the kind's, for PRESENCE the one of the role its flags state (R169). -/
def Kind.lengthOk (k : Kind) (r : Role) (n : Nat) : Bool :=
  match k with
  | .presence => n = (match r with | .desk => 19 | .source => 28)
  | .tile => 11 ≤ n && n ≤ 776
  | .frameClose => n = 11
  | .repairRequest => n = 0
  | .controlRequest => n = 2
  | .controlVerdict => n = 4
  | .controlRelease => n = 1
  | .controlWithdrawn => n = 2
  | .input => n = 16
  | .lamps => n = 1
  | .attnClear => n = 0

/-- The blocks that take a kind of message other than PRESENCE in a role (R167, R171). -/
def Kind.takers : Kind → Role → List Taker
  | .tile, .desk | .frameClose, .desk => [.sr]
  | .controlVerdict, .desk | .controlWithdrawn, .desk | .lamps, .desk => [.fu]
  | .controlRequest, .source | .controlRelease, .source | .attnClear, .source | .input, .source => [.ca]
  | .repairRequest, .source => [.ts]
  | _, _ => []

/-- An endpoint's address (R167). -/
def endpointAddress (s : Nat) : List Byte := [0x02, 0x5A, 0x71, 0x00] ++ bytes16 s

/-- A stream's group address (R167). -/
def streamAddress (x : Stream) : List Byte := [0x03, 0x5A, 0x71, byteOf (0x10 + x.channel.val)] ++ bytes16 x.station

/-- The group of all endpoints (R167). -/
def allAddress : List Byte := [0x03, 0x5A, 0x71, 0x20, 0x00, 0x00]

/-- The checks of R168: the frame check sequence, the length, the type, and a destination that is the own address, the
group of all endpoints or a subscribed stream's. -/
def framePasses (own typeCode : Nat) (subs : List Stream) (fcsRight : Bool) (f : List Byte) : Bool :=
  fcsRight && 64 ≤ f.length && f.length ≤ 1518 && word16 f 12 = typeCode
    && (slice f 0 6 = endpointAddress own || slice f 0 6 = allAddress
      || subs.any (fun x => slice f 0 6 = streamAddress x))

/-- The destination address that belongs to a kind (R169). -/
def Kind.destination (k : Kind) (own sender : Nat) (channel : Fin 2) : List Byte :=
  match k with
  | .presence => allAddress
  | .tile | .frameClose => streamAddress ⟨sender, channel⟩
  | _ => endpointAddress own

/-- The target a kind carries (R169). -/
def Kind.target (k : Kind) (own : Nat) : Nat :=
  match k with
  | .presence | .tile | .frameClose => 0
  | _ => own

/-- Whether the channel may stand in the envelope of a kind (R169). -/
def Kind.channelOk (k : Kind) (c : Nat) : Bool :=
  match k with
  | .tile | .frameClose | .repairRequest => c ≤ 1
  | _ => c = 0

/-- The envelope of a frame that passed R168, checked by R169: the message, or none when any check fails. The envelope
starts behind the 14 bytes of addresses and type; the last four bytes are the frame check sequence. -/
def readEnvelope (own : Nat) (f : List Byte) : Option RxMsg :=
  let e := (f.drop 14).take (f.length - 18)
  let len := word16 e 10
  let sender := word16 e 2
  let role : Role := if (e.getD 7 0).getLsbD 0 then .source else .desk
  let channel := channelOf (byteAt e 6)
  match kindOf (byteAt e 0) with
  | none => none
  | some k =>
    if 16 ≤ e.length && 16 + len ≤ e.length && byteAt e 1 = 1 && k.lengthOk role len
      && 1 ≤ sender && sender ≤ 1023 && (sender ≠ own || k = .presence)
      && slice f 6 6 = endpointAddress sender && k.sentBy role && word16 e 4 = k.target own
      && slice f 0 6 = k.destination own sender channel && k.channelOk (byteAt e 6)
    then some { kind := k, sender := sender, role := role, channel := channel,
                seq := BitVec.ofNat 16 (word16 e 8), payload := slice e 16 len }
    else none

/-- The bytes a message occupies in the receive buffer (R172). -/
def RxMsg.size (m : RxMsg) : Nat := 16 + m.payload.length

/-- The frame of a message sent: addresses, type, envelope, payload, and zeros to 60 bytes (13; the frame check
sequence follows it on the port, log 7). -/
def buildFrame (own typeCode : Nat) (role : Role) (dest : List Byte) (k : Kind) (target : Nat) (channel : Fin 2)
    (seq : Nat) (payload : List Byte) : List Byte :=
  let f := dest ++ endpointAddress own ++ bytes16 typeCode
    ++ [byteOf k.code, 1] ++ bytes16 own ++ bytes16 target
    ++ [byteOf channel.val, byteOf (match role with | .desk => 0 | .source => 1)] ++ bytes16 seq
    ++ bytes16 payload.length ++ zeros 4 ++ payload
  f ++ zeros (60 - f.length)

/-! ### Payloads -/

/-- The code of a withdrawal's reason (13). -/
def Reason.code : Reason → Nat
  | .preempted => 1
  | .preemptedQueued => 2
  | .idleTaken => 3
  | .expired => 4
  | .displaced => 5
  | .notHolder => 6

/-- The reason of a code, none outside 1..6 (R190). -/
def reasonOf (n : Nat) : Option Reason :=
  match n with
  | 1 => some .preempted
  | 2 => some .preemptedQueued
  | 3 => some .idleTaken
  | 4 => some .expired
  | 5 => some .displaced
  | 6 => some .notHolder
  | _ => none

/-- A verdict's payload (13). -/
def verdictBytes (v : Verdict) (id : Byte) : List Byte :=
  match v with
  | .granted => [1, id, 0, 0]
  | .queued p => [2, id, byteOf p, 0]
  | .noPermit => [3, id, 0, 1]
  | .listFull => [3, id, 0, 2]

/-- A verdict read from its payload, none when it fails the check of R190. -/
def readVerdict (p : List Byte) : Option Verdict :=
  match byteAt p 0 with
  | 1 => some .granted
  | 2 => if 1 ≤ byteAt p 2 && byteAt p 2 ≤ 4 then some (.queued (byteAt p 2)) else none
  | 3 => if byteAt p 3 = 1 then some .noPermit else if byteAt p 3 = 2 then some .listFull else none
  | _ => none

/-- A pointer field's six bytes in an INPUT (13). -/
def fieldBytes : Option PtrField → List Byte
  | none => zeros 6
  | some f => [1, byteOf f.channel.val] ++ bytes16 f.x ++ bytes16 f.y

/-- An INPUT's payload (13). -/
def inputBytes (i : OutInput) : List Byte :=
  [i.id, i.snapshot.mods] ++ padTo 6 i.snapshot.keys ++ [i.buttons.setWidth 8] ++ fieldBytes i.field
    ++ [BitVec.ofInt 8 i.wheel]

/-- What an INPUT carries, as CA reads it (R86). -/
structure InputContent where
  /-- request id -/
  id : Byte
  /-- snapshot -/
  snapshot : Snapshot
  /-- buttons -/
  buttons : Buttons
  /-- pointer field -/
  field : Option PtrField
  /-- wheel share -/
  wheel : Int
  deriving DecidableEq, Repr

/-- Key places strictly ascending, and none filled behind an empty one (R190). -/
def keysAscending : List Byte → Bool
  | [] => true
  | [_] => true
  | a :: b :: r => (if a = 0 then b = 0 else b = 0 || a < b) && keysAscending (b :: r)

/-- An INPUT read from its payload, none when it fails the check of R190. -/
def readInput (p : List Byte) : Option InputContent :=
  let places := slice p 2 6
  if places.all (fun k => k = 0 || isKeyCode k) && keysAscending places && byteAt p 9 ≤ 1
    && (byteAt p 9 = 0 || byteAt p 10 ≤ 1) && p.getD 15 0 ≠ 0x80#8
  then some
    { id := p.getD 0 0, snapshot := ⟨p.getD 1 0, places.filter (fun k => k ≠ 0)⟩,
      buttons := (p.getD 8 0).setWidth 3,
      field := if byteAt p 9 = 1 then some ⟨channelOf (byteAt p 10), word16 p 11, word16 p 13⟩ else none,
      wheel := (p.getD 15 0).toInt }
  else none

/-- The streams a desk PRESENCE lists (13). -/
def presenceStreams (p : List Byte) : List Stream :=
  (List.range (byteAt p 6)).map fun i => ⟨word16 p (7 + 3 * i), channelOf (byteAt p (9 + 3 * i))⟩

/-- The waiting stations a source PRESENCE lists (13). -/
def presenceWaiting (p : List Byte) : List Nat :=
  (List.range (byteAt p 18)).map fun i => word16 p (19 + 2 * i)

/-- The holder a source PRESENCE names, with its request id (13). -/
def presenceHolder (p : List Byte) : Option (Nat × Byte) :=
  if word16 p 15 = 0 then none else some (word16 p 15, p.getD 17 0)

/-- The channel state a source PRESENCE reports (13). -/
def presenceChannelState (p : List Byte) (c : Fin 2) : Nat := byteAt p (if c = 0 then 5 else 10)

/-- A listed station is 1..1023 (R190). -/
def listedOk (n : Nat) : Bool := 1 ≤ n && n ≤ 1023

/-- PU's check of a PRESENCE's content (R190). -/
def presenceOk (r : Role) (p : List Byte) : Bool :=
  match r with
  | .desk =>
    1 ≤ byteAt p 5 && byteAt p 5 ≤ 8 && byteAt p 6 ≤ 4
      && (List.range (byteAt p 6)).all (fun i => listedOk (word16 p (7 + 3 * i)) && byteAt p (9 + 3 * i) ≤ 1)
  | .source =>
    byteAt p 5 ≤ 3 && byteAt p 10 ≤ 3 && word16 p 15 ≤ 1023 && byteAt p 18 ≤ 4
      && (presenceWaiting p).all listedOk && byteAt p 27 ≤ 32

/-- The header byte of a coding (13). -/
def Coding.code : Coding → Nat
  | .fill => 1
  | .few n => 2 + 4 * n
  | .raw => 3

/-- The coding a TILE's header names; none when it is none of FILL, FEW with 2..4 colours and RAW (13, R146). -/
def codingOf (b : Byte) : Option Coding :=
  match (b.extractLsb' 0 2).toNat with
  | 1 => some .fill
  | 2 =>
    let n := (b.extractLsb' 2 3).toNat
    if 2 ≤ n && n ≤ 4 then some (.few n) else none
  | 3 => some .raw
  | _ => none

/-- The length of the coding payload of a tw × th tile (R126). -/
def Coding.payloadLength (c : Coding) (tw th : Nat) : Nat :=
  match c with
  | .fill => 3
  | .few n => 3 * n + (tw * th + 3) / 4
  | .raw => 3 * tw * th

/-- A TILE's payload (13). -/
def tileBytes (t : OutTile) : List Byte :=
  [t.epoch, byteOf t.coding.code, byteOf t.col, byteOf t.row] ++ bytes32 t.frame.toNat ++ t.payload

/-- A FRAME-CLOSE's payload (13). -/
def frameCloseBytes (frame : BitVec 32) (epoch : Byte) (mode : Size) (dirty : Nat) : List Byte :=
  bytes32 frame.toNat ++ [epoch] ++ bytes16 mode.w ++ bytes16 mode.h ++ bytes16 dirty

end Sys2Proof.Machine
end

