-- ==== Sys2Proof/Machine/Ops.lean ====
section
/-!
DEFINITION. The shared operations: the frame stores (R116, R138), timers, handing messages to the transmit classes
(R173, R177), asking for a PRESENCE (R175), the receive buffer (R171, R172), and entering HALTED (R182).
-/

namespace Sys2Proof.Machine

/-! ### Frame stores -/

/-- What the byte at an address reads as; a byte not listed reads 0 (log 6). -/
def Memory.read : Memory → Nat → Byte
  | [], _ => 0
  | (k, v) :: r, a => if k = a then v else Memory.read r a

/-- A byte written at an address, keeping the canonical form: a 0 is not listed. -/
def Memory.write : Memory → Nat → Byte → Memory
  | [], a, b => if b = 0 then [] else [(a, b)]
  | (k, v) :: r, a, b =>
    if k < a then (k, v) :: Memory.write r a b
    else if k = a then (if b = 0 then r else (a, b) :: r)
    else if b = 0 then (k, v) :: r else (a, b) :: (k, v) :: r

/-- Every byte from `lo` on, below `hi`, cleared to 0. -/
def Memory.clear (m : Memory) (lo hi : Nat) : Memory := m.filter fun c => !(lo ≤ c.1 && c.1 < hi)

/-- The canonical form: addresses strictly rising, and no byte listed that an unlisted address would read as. -/
def Memory.wf : Memory → Bool
  | [] => true
  | [c] => c.2 ≠ 0
  | c :: d :: r => c.2 ≠ 0 && c.1 < d.1 && Memory.wf (d :: r)

/-- The address of the first byte of pixel (x, y) of a region (R116, R138). -/
def pixelAddress (region x y : Nat) : Nat := region * Config.regionBytes + 3 * (Config.pitch * y + x)

/-- Pixel (x, y) of a region. -/
def Memory.pixel (m : Memory) (region x y : Nat) : Colour :=
  let a := pixelAddress region x y
  ⟨m.read a, m.read (a + 1), m.read (a + 2)⟩

/-- Pixel (x, y) of a region written: red, green, blue (R116). A region has room for 2560 × 1600 pixels, and a pixel
outside has no place in it. -/
def Memory.setPixel (m : Memory) (region x y : Nat) (c : Colour) : Memory :=
  if x < Config.pitch && y < Config.regionRows then
    let a := pixelAddress region x y
    ((m.write a c.r).write (a + 1) c.g).write (a + 2) c.b
  else m

/-- Pixels written along row `y` of a region, from column `x` on. -/
def Memory.setRow (m : Memory) (region x y : Nat) : List Colour → Memory
  | [] => m
  | c :: r => Memory.setRow (m.setPixel region x y c) region (x + 1) y r

/-- A region cleared to black, every byte 0 (R138). -/
def Memory.clearRegion (m : Memory) (region : Nat) : Memory :=
  m.clear (region * Config.regionBytes) ((region + 1) * Config.regionBytes)

/-! ### Timers -/

/-- Microseconds from one reading of the counter to another, modulo 2^32 (00_scope.md, TIME). -/
def elapsed (now since : Time) : Nat := (now - since).toNat

/-- Whether a timer runs and has run for `us` microseconds: it expires when the difference reaches it (00_scope.md,
TIME). An expiry command is taken only then; given at another time it changes nothing (log 1). -/
def timerDue (now : Time) (t : Timer) (us : Nat) : Bool :=
  match t with
  | none => false
  | some since => us ≤ elapsed now since

/-! ### Numbers -/

/-- clamp(v, a, b) (00_scope.md, ARITHMETIC). -/
def clampInt (v a b : Int) : Int := if v < a then a else if v > b then b else v

/-- clamp on whole numbers. -/
def clampNat (v a b : Nat) : Nat := if v < a then a else if v > b then b else v

/-- A sum saturated at −32768 and 32767 (R19, R103). -/
def saturate16 (v : Int) : Int := clampInt v (-32768) 32767

/-- A wheel share: clamp(sum, −127, 127) (R34, R103). -/
def wheelShare (v : Int) : Int := clampInt v (-127) 127

/-- The forward distance from one sequence number to another (00_scope.md, TERMS). -/
def forward (a b : BitVec 16) : Nat := (b - a).toNat

/-- Whether the second sequence number is newer than the first (00_scope.md, SEQUENCES). -/
def newer (a b : BitVec 16) : Bool := 1 ≤ forward a b && forward a b ≤ 32767

/-! ### Transmit classes (R173, R177) -/

/-- A message handed to class 0. While the link is DOWN it is discarded (R177); at a full class it is not added and
TX-DROP is latched (R173). -/
def State.hand0 (s : State) (m : Out0) : State :=
  if !s.fp.linkUp then s
  else if s.fp.class0.length < Config.class0Max then s.setFP { s.fp with class0 := s.fp.class0 ++ [m] }
  else s.latch .txDrop

/-- Whether class 1 has room; while the link is DOWN it always has (R177). -/
def State.roomInClass1 (s : State) : Bool := !s.fp.linkUp || s.fp.class1.length < Config.class1Max

/-- An INPUT handed to class 1, which has room. While the link is DOWN it is discarded (R177). -/
def State.hand1 (s : State) (m : OutInput) : State :=
  if !s.fp.linkUp then s else s.setFP { s.fp with class1 := s.fp.class1 ++ [m] }

/-- A FRAME-CLOSE handed to class 2 (R173, R177). -/
def State.handFrameClose (s : State) (m : Out2) : State :=
  if !s.fp.linkUp then s
  else if s.fp.class2.length < Config.class2Max then s.setFP { s.fp with class2 := s.fp.class2 ++ [m] }
  else s.latch .txDrop

/-- A PRESENCE entry asked of class 2 (R173, R177). A full class 2 with no PRESENCE entry holds FRAME-CLOSE alone, so
its newest FRAME-CLOSE is its last entry. -/
def State.handPresence (s : State) : State :=
  if !s.fp.linkUp then s
  else if s.fp.class2.contains .presence then s
  else if s.fp.class2.length < Config.class2Max then s.setFP { s.fp with class2 := s.fp.class2 ++ [.presence] }
  else (s.setFP { s.fp with class2 := s.fp.class2.dropLast ++ [.presence] }).latch .txDrop

/-- PU asks for a PRESENCE, and restarts the presence timer (R175). -/
def State.askPresence (s : State) : State := s.handPresence.setPU { timer := some s.now }

/-- A TILE handed to class 3, which is empty (R129). -/
def State.handTile (s : State) (t : OutTile) : State := s.setFP { s.fp with class3 := some t }

/-- Every class emptied and the frame on the port lost (R177). -/
def FP.emptied (f : FP) : FP := { f with class0 := [], class1 := [], class2 := [], class3 := none, sending := none }

/-! ### The receive buffer (R171, R172) -/

/-- The bytes the held messages occupy. -/
def FP.rxHeld (f : FP) : Nat := (f.rx.map (fun e => e.msg.size)).sum

/-- The oldest entry a block has yet to take. -/
def oldestFor (t : Taker) : List RxEntry → Option RxEntry
  | [] => none
  | e :: r => if e.takers.contains t then some e else oldestFor t r

/-- An entry once a block has taken it: it goes when no block has yet to take it (R172). -/
def RxEntry.without (e : RxEntry) (t : Taker) : Option RxEntry :=
  let left := e.takers.filter (fun u => u ≠ t)
  if left.isEmpty then none else some { e with takers := left }

/-- The buffer after a block has taken its oldest entry. -/
def afterTaking (t : Taker) : List RxEntry → List RxEntry
  | [] => []
  | e :: r => if e.takers.contains t then (e.without t).toList ++ r else e :: afterTaking t r

/-- A block takes its oldest message when it is of a kind; else there is nothing of that kind to take. -/
def State.take (s : State) (t : Taker) (k : Kind) : Option (RxMsg × State) :=
  match oldestFor t s.fp.rx with
  | none => none
  | some e =>
    if e.msg.kind = k then some (e.msg, s.setFP { s.fp with rx := afterTaking t s.fp.rx }) else none

/-! ### HALTED (R182) -/

/-- Entering HALTED: ATTN_N is driven low, the port is stopped, its subscription list, receive buffer and classes are
empty (R168, R172), and no timer of the start runs on (R175, R183); the link state and the classes are the model's
reading (log 24). -/
def State.enterHalted (s : State) : State :=
  ((s.setSA (SA.drive { s.sa with start := .halted, listen := none })).setFP
    { s.fp.emptied with started := false, linkUp := false, subs := [], rx := [] }).setPU { timer := none }

end Sys2Proof.Machine
end

