-- ==== Sys2Proof/Machine/Tiles.lean ====
section
/-!
DEFINITION. Tile grids, signatures and dirty sets (07, R118 to R122), and tile sending (08): the byte budget, coding,
choosing the next tile, rolling refresh and full refreshes.
-/

namespace Sys2Proof.Machine

/-! ### The tile grid (R118) -/

/-- Columns or rows of tiles along a side of `n` pixels: ceil(n/16). -/
def tilesAlong (n : Nat) : Nat := (n + 15) / 16

/-- The tiles of a mode's grid in raster order. -/
def gridTiles (z : Size) : List Tile :=
  (List.range (tilesAlong z.h)).flatMap fun r => (List.range (tilesAlong z.w)).map fun c => ⟨c, r⟩

/-- The real width and height of a tile (R118). -/
def tileSize (z : Size) (t : Tile) : Size := ⟨min 16 (z.w - 16 * t.col), min 16 (z.h - 16 * t.row)⟩

/-- The locked mode's size, of a LOCKED channel. -/
def Channel.size (c : Channel) : Option Size :=
  if c.state = .locked then c.mode.map (fun m => ⟨m.w, m.h⟩) else none

/-- A tile row is being written: it is the row in progress, or has not yet completed since the lock (R118). -/
def Channel.rowBeingWritten (c : Channel) (r : Nat) : Bool := c.row = some r || !c.completed.contains r

/-- A tile is eligible: its channel is LOCKED and its row is not being written (R127). -/
def Channel.eligible (c : Channel) (t : Tile) : Bool := c.state = .locked && !c.rowBeingWritten t.row

/-- Raster order: by row, then by column (R121). -/
def Tile.before (a b : Tile) : Bool := a.row < b.row || (a.row = b.row && a.col < b.col)

/-! ### Pixels, signatures and coding (R119, R125, R126) -/

/-- A tile's real pixels, row by row from the top and left to right (R119, R125). -/
def tilePixels (m : Memory) (region : Nat) (z : Size) (t : Tile) : List Colour :=
  (List.range (tileSize z t).h).flatMap fun i =>
    (List.range (tileSize z t).w).map fun j => m.pixel region (16 * t.col + j) (16 * t.row + i)

/-- A tile's signature: the CRC-32 of its pixel bytes (R119). -/
def signature (px : List Colour) : BitVec 32 := crc32 (px.flatMap colourBytes)

/-- The distinct colours in order of first appearance; the scan stops at the fifth (R125). -/
def palette (px : List Colour) : List Colour :=
  px.foldl (fun acc c => if 5 ≤ acc.length || acc.contains c then acc else acc ++ [c]) []

/-- The coding of a tile's pixels, by the count of distinct colours (R125). -/
def codingFor (px : List Colour) : Coding :=
  let n := (palette px).length
  if n ≤ 1 then .fill else if n ≤ 4 then .few n else .raw

/-- The coding payload of a tile's pixels (R126). -/
def codingPayload (px : List Colour) : List Byte :=
  match codingFor px with
  | .fill => colourBytes (px.headD ⟨0, 0, 0⟩)
  | .few _ =>
    (palette px).flatMap colourBytes
      ++ pack2 ((px.length + 3) / 4) (px.map fun c => BitVec.ofNat 2 ((palette px).idxOf c))
  | .raw => px.flatMap colourBytes

/-- A tile's cost in bytes: envelope, tile header and payload (R126). -/
def tileCost (payload : List Byte) : Nat := 24 + payload.length

/-! ### Dirty sets (R121, R122) -/

/-- A tile put into a dirty set with the current frame number as age, at its raster place among the tiles of that age,
behind every older tile (R121). -/
def insertDirty (t : Tile) (f : BitVec 32) : List DirtyTile → List DirtyTile
  | [] => [⟨t, f⟩]
  | d :: r => if d.age = f && t.before d.tile then ⟨t, f⟩ :: d :: r else d :: insertDirty t f r

/-- Whether a dirty set holds a tile. -/
def dirtyHas (l : List DirtyTile) (t : Tile) : Bool := l.any fun d => d.tile = t

/-- A dirty set after a full refresh (R134): the older tiles as they were, then every other tile of the grid with the
current frame number as age, in raster order (those of that age already in the set among them). -/
def refreshDirty (z : Size) (f : BitVec 32) (l : List DirtyTile) : List DirtyTile :=
  let older := l.filter fun d => d.age ≠ f
  older ++ ((gridTiles z).filter fun t => !dirtyHas older t).map fun t => ⟨t, f⟩

/-- A dirty set without a tile; those behind it keep their order (R122). -/
def dirtyWithout (l : List DirtyTile) (t : Tile) : List DirtyTile := l.filter fun d => d.tile ≠ t

/-- A tile's wait: the frame ends of its channel since it entered (R128). -/
def DirtyTile.wait (d : DirtyTile) (f : BitVec 32) : Nat := (f - d.age).toNat

/-- One signature taken (R120): a changed tile not in the dirty set is added, and the signature is stored. -/
def TsChannel.takeSignature (k : TsChannel) (z : Size) (f : BitVec 32) (t : Tile) (sig : BitVec 32) : TsChannel :=
  let i := t.row * tilesAlong z.w + t.col
  let changed := (k.sigs.getD i none) ≠ some sig
  { k with
    dirty := if changed && !dirtyHas k.dirty t then insertDirty t f k.dirty else k.dirty
    sigs := k.sigs.set i (some sig) }

/-- The signatures of tile row `r` taken in column order (R119, R120). -/
def TsChannel.takeRow (k : TsChannel) (m : Memory) (region : Nat) (z : Size) (f : BitVec 32) (r : Nat) : TsChannel :=
  (List.range (tilesAlong z.w)).foldl
    (fun k c => k.takeSignature z f ⟨c, r⟩ (signature (tilePixels m region z ⟨c, r⟩))) k

/-- TS told of a lock (R114, R130): every signature not yet captured, every tile dirty with age 0 in raster order, the
cursor at (0, 0) and no allowance. -/
def TsChannel.locked (k : TsChannel) (z : Size) : TsChannel :=
  { k with
    sigs := List.replicate (tilesAlong z.w * tilesAlong z.h) none
    dirty := (gridTiles z).map fun t => ⟨t, 0⟩
    cursor := ⟨0, 0⟩
    allowance := 0 }

/-- TS told that a channel left LOCKED (R115, R130). -/
def TsChannel.unlocked (k : TsChannel) : TsChannel := { k with dirty := [], allowance := 0 }

/-! ### Full refresh (R134, R135) -/

/-- One channel's part in a full refresh: a channel not LOCKED takes none (R134). -/
def TsChannel.refresh (k : TsChannel) (c : Channel) : TsChannel :=
  match c.size with
  | none => k
  | some z => { k with dirty := refreshDirty z c.frame k.dirty }

/-- A full refresh made now, starting the window (R134, R135). -/
def State.fullRefresh (s : State) : State :=
  s.setTS { s.ts with
    ch := ⟨s.ts.ch.zero.refresh s.cu.ch.zero, s.ts.ch.one.refresh s.cu.ch.one⟩
    window := some s.now
    refreshPending := false }

/-- A trigger taken (R135). -/
def State.refreshTrigger (s : State) : State :=
  match s.ts.window with
  | none => s.fullRefresh
  | some _ => s.setTS { s.ts with refreshPending := true }

/-- REPAIR_REQUEST_TAKEN (R134): TS takes a REPAIR-REQUEST as a trigger, from any desk and for either channel. -/
def execRepairRequestTaken (s : State) : Host.Outcome State Fault Refusal :=
  if s.servingAs .source then
    match s.take .ts .repairRequest with
    | none => .next s
    | some (_, s) => .next s.refreshTrigger
  else .next s

/-- REFRESH_WINDOW_EXPIRY (R135): with the flag set, a full refresh and a new window; else the window stops. -/
def execRefreshWindowExpiry (s : State) : Host.Outcome State Fault Refusal :=
  if timerDue s.now s.ts.window Config.refreshUs then
    if s.ts.refreshPending then .next s.fullRefresh else .next (s.setTS { s.ts with window := none })
  else .next s

/-! ### Choosing and sending a tile (R127 to R131) -/

/-- A channel's dirty candidate (R127). -/
def dirtyCandidate (c : Channel) (k : TsChannel) : Option DirtyTile := k.dirty.find? fun d => c.eligible d.tile

/-- A channel's rolling candidate (R131). -/
def rollingCandidate (c : Channel) (k : TsChannel) : Option Tile :=
  if c.state = .locked && 1 ≤ k.allowance && c.eligible k.cursor then some k.cursor else none

/-- A choice of TS: a channel, a tile, and whether it is a dirty candidate (else a rolling one). -/
structure TileChoice where
  /-- channel -/
  channel : Fin 2
  /-- tile -/
  tile : Tile
  /-- taken from the dirty set -/
  dirty : Bool
  deriving DecidableEq, Repr

/-- The choice between the two channels' dirty candidates: the greater wait, channel 0 at equal waits (R128). -/
def State.dirtyChoice (s : State) : Option TileChoice :=
  match dirtyCandidate s.cu.ch.zero s.ts.ch.zero, dirtyCandidate s.cu.ch.one s.ts.ch.one with
  | none, none => none
  | some d, none => some ⟨0, d.tile, true⟩
  | none, some e => some ⟨1, e.tile, true⟩
  | some d, some e =>
    if e.wait s.cu.ch.one.frame ≤ d.wait s.cu.ch.zero.frame then some ⟨0, d.tile, true⟩ else some ⟨1, e.tile, true⟩

/-- The choice between the two channels' rolling candidates (R131). -/
def State.rollingChoice (s : State) : Option TileChoice :=
  match rollingCandidate s.cu.ch.zero s.ts.ch.zero, rollingCandidate s.cu.ch.one s.ts.ch.one with
  | some t, _ => some ⟨0, t, false⟩
  | none, some t => some ⟨1, t, false⟩
  | none, none => none

/-- TS's choice (R129). -/
def State.tileChoice (s : State) : Option TileChoice :=
  match s.dirtyChoice with
  | some c => some c
  | none => s.rollingChoice

/-- TS is ready: SERVING, no TILE in class 3, the link UP (R129). -/
def State.tsReady (s : State) : Bool := s.servingAs .source && s.fp.class3.isNone && s.fp.linkUp

/-- The cursor one tile on in raster order (R130). -/
def nextCursor (z : Size) (t : Tile) : Tile :=
  if t.col + 1 < tilesAlong z.w then ⟨t.col + 1, t.row⟩
  else if t.row + 1 < tilesAlong z.h then ⟨0, t.row + 1⟩
  else ⟨0, 0⟩

/-- TS's part for the channel of a tile handed on: out of the dirty set, or the cursor advanced and the allowance
lowered (R129, R130). -/
def TsChannel.sent (k : TsChannel) (z : Size) (x : TileChoice) : TsChannel :=
  if x.dirty then { k with dirty := dirtyWithout k.dirty x.tile }
  else { k with cursor := nextCursor z k.cursor, allowance := k.allowance - 1 }

/-- The TILE coded from the store for a choice (R125, R126). -/
def State.codeTile (s : State) (x : TileChoice) (z : Size) : OutTile :=
  let c := s.cu.ch.get x.channel
  let px := tilePixels s.cu.store x.channel.val z x.tile
  { channel := x.channel, epoch := c.epoch, coding := codingFor px, col := x.tile.col, row := x.tile.row,
    frame := c.frame, payload := codingPayload px }

/-- A choice that can be carried out: the tile chosen, its mode, and the TILE coded for it. -/
structure Sending where
  /-- the choice -/
  choice : TileChoice
  /-- the channel's mode -/
  mode : Size
  /-- the TILE -/
  tile : OutTile
  deriving DecidableEq, Repr

/-- The tokens a TILE spends: 8 times its cost (R124, R129). -/
def OutTile.price (t : OutTile) : Nat := 8 * tileCost t.payload

/-- What a ready TS can hand on now: the TILE of its choice, when the tokens reach its price (R129). -/
def State.tileToSend (s : State) : Option Sending :=
  if s.tsReady then
    match s.tileChoice with
    | none => none
    | some x =>
      match (s.cu.ch.get x.channel).size with
      | none => none
      | some z =>
        let t := s.codeTile x z
        if t.price ≤ s.ts.tokens then some ⟨x, z, t⟩ else none
  else none

/-- TILE_CHOICE (R129): a ready TS codes the chosen tile and, when the tokens suffice, spends them, takes the tile out
of its set or advances the cursor, and hands the TILE to class 3; else it changes nothing. -/
def execTileChoice (s : State) : Host.Outcome State Fault Refusal :=
  match s.tileToSend with
  | none => .next s
  | some x =>
    .next ((s.setTS { s.ts with
      tokens := s.ts.tokens - x.tile.price
      ch := s.ts.ch.set x.choice.channel ((s.ts.ch.get x.choice.channel).sent x.mode x.choice) }).handTile x.tile)

/-- The token count after one microsecond (R124). -/
def TS.accrue (t : TS) : TS := { t with tokens := min (8 * t.depth) (t.tokens + t.rate) }

end Sys2Proof.Machine
end

