-- ==== Sys2Proof/Machine/Workstation.lean ====
section
/-!
DEFINITION. The workstation port (06): device states and requests, the snapshot queue, applying INPUT, the logical
desktop, polls, lamps, and suspend with remote wake.
-/

namespace Sys2Proof.Machine

/-! ### Lamps to the holder (R104) -/

/-- LAMPS with the workstation's current lamps handed to class 0 for a desk (R100, R104). -/
def State.lampsTo (s : State) (desk : Nat) : State := s.hand0 (.lamps desk s.wp.lamps)

/-- LAMPS for the holder, when the slot names one (R104). -/
def State.lampsToHolder (s : State) : State :=
  match s.ca.slot with
  | none => s
  | some h => s.lampsTo h.desk

/-! ### The snapshot queue (R96, R98) -/

/-- The reference of an offered snapshot: the tail's, or the presented snapshot (R96). -/
def WP.reference (w : WP) : Snapshot :=
  match w.queue.getLast? with
  | none => w.presented
  | some e => e.snapshot

/-- A snapshot offered to the queue at a time (R96). -/
def WP.offer (w : WP) (k : Snapshot) (now : Time) : WP :=
  if k = w.reference then w
  else if w.queue.length < Config.wpQueueMax then { w with queue := w.queue ++ [⟨k, now, false⟩] }
  else if (w.queue.dropLast.getLast?).map (fun e => e.snapshot) = some k then { w with queue := w.queue.dropLast }
  else { w with queue := w.queue.dropLast ++ [⟨k, now, false⟩] }

/-- Whether an offer puts the snapshot into the queue: cases 2 and 4 of R96 (log 25). -/
def WP.offerAdds (w : WP) (k : Snapshot) : Bool :=
  k ≠ w.reference && (w.queue.length < Config.wpQueueMax
    || (w.queue.dropLast.getLast?).map (fun e => e.snapshot) ≠ some k)

/-- An offer, or nothing in DETACHED (R94, R99, R100). -/
def WP.offerUnlessDetached (w : WP) (k : Snapshot) (now : Time) : WP :=
  if w.port = .detached then w else w.offer k now

/-- The entry the age limit watches: the oldest without a recovery mark (R98). -/
def WP.watched (w : WP) : Option QueueEntry := w.queue.find? fun e => !e.recovery

/-- Whether the watched entry has waited more than 250 ms since its entry time (R98). -/
def WP.tooOld (w : WP) (now : Time) : Bool :=
  match w.watched with
  | none => false
  | some e => Config.queueAgeUs < elapsed now e.entered

/-- An overrun (R98): a recovery entry alone in the queue, and no button. -/
def WP.overrun (w : WP) (now : Time) : WP := { w with queue := [⟨.released, now, true⟩], buttons := 0 }

/-! ### The logical desktop (R101, R102) -/

/-- The greatest of two lengths, the other when one is undefined. -/
def maxOption : Option Nat → Option Nat → Option Nat
  | none, b => b
  | a, none => a
  | some a, some b => some (max a b)

/-- The desktop extent over the LOCKED channels; undefined when none is (R101). -/
def extentOf (p : Pair ChannelPlace) : Option Size :=
  match maxOption (p.zero.mode.map fun m => p.zero.px + m.w) (p.one.mode.map fun m => p.one.px + m.w),
    maxOption (p.zero.mode.map fun m => p.zero.py + m.h) (p.one.mode.map fun m => p.one.py + m.h) with
  | some w, some h => some ⟨w, h⟩
  | _, _ => none

/-- WP told that a channel entered LOCKED with a size, or left it: the extent is recomputed (R101). -/
def WP.lockChange (w : WP) (c : Fin 2) (z : Option Size) : WP :=
  let p := w.places.set c { w.places.get c with mode := z }
  { w with places := p, extent := extentOf p }

/-- One axis of the mapping: the pixel clamped to the channel's size, then floor((origin + pixel)·32768 / extent),
clamped to 32767 (R102). -/
def logicalAxis (origin pixel size extent : Nat) : Nat :=
  min 32767 ((origin + min pixel (size - 1)) * 32768 / extent)

/-- The logical position set or held by a pointer field (R102). -/
def WP.point (w : WP) (f : Option PtrField) : WP :=
  match f with
  | none => w
  | some f =>
    match (w.places.get f.channel).mode, w.extent with
    | some m, some e =>
      { w with
        x := logicalAxis (w.places.get f.channel).px f.x m.w e.w
        y := logicalAxis (w.places.get f.channel).py f.y m.h e.h }
    | _, _ => w

/-! ### Applying INPUT and holder changes (R99, R100, R105) -/

/-- The snapshot, buttons, pointer field and wheel share of an accepted INPUT applied in that order (R99). -/
def WP.apply (w : WP) (i : InputContent) (now : Time) : WP :=
  let w1 := w.offerUnlessDetached i.snapshot now
  let w2 := ({ w1 with buttons := i.buttons } : WP).point i.field
  { w2 with wheel := saturate16 (w2.wheel + i.wheel) }

/-- Whether an INPUT changes the presented state: its snapshot is added to the queue, or it changes the buttons or the
logical position (R105). -/
def WP.inputChanges (w : WP) (i : InputContent) : Bool :=
  w.offerAdds i.snapshot || w.buttons ≠ i.buttons || (w.point i.field).x ≠ w.x || (w.point i.field).y ≠ w.y

/-- Whether no resume has been signalled in the last 100 ms of this suspension (R105). -/
def WP.mayResume (w : WP) (now : Time) : Bool :=
  match w.resumeGap with
  | none => true
  | some t => Config.resumeGapUs ≤ elapsed now t

/-- WP signals resume when it is SUSPENDED from CONFIGURED with remote wake set, the INPUT changed the presented state
and no signal was made in the last 100 ms (R105). -/
def WP.wake (w : WP) (changed : Bool) (now : Time) : WP :=
  if w.port = .suspended .configured && w.remoteWake && changed && w.mayResume now then
    { w with resuming := some now, resumeGap := some now }
  else w

/-- An accepted INPUT passed to WP (R99, R105). -/
def State.wpInput (s : State) (i : InputContent) : State :=
  s.setWP ((s.wp.apply i s.now).wake (s.wp.inputChanges i) s.now)

/-- WP told of a holder change (R100). -/
def State.wpHolderChange (s : State) (desk : Option Nat) : State :=
  let s := s.setWP { s.wp.offerUnlessDetached .released s.now with buttons := 0 }
  match desk with
  | none => s
  | some d => s.lampsTo d

/-! ### Connection (R91, R93, R94) -/

/-- What a bus reset does to WP itself (R93): DEFAULT with address 0, the remote wake flag clear, the queue empty, the
presented snapshot all-released, the accumulator 0, the last delivered report forgotten, the lamps empty; resume
signalling ends with the suspension (R105). -/
def WP.busReset (w : WP) : WP :=
  { w with
    port := .connected .default, address := 0, remoteWake := false, queue := [], presented := .released, wheel := 0,
    delivered := none, lamps := 0, resuming := none, resumeGap := none }

/-- The effects of a bus reset, with LAMPS of the empty set for the holder (R93). -/
def State.wpBusReset (s : State) : State := (s.setWP s.wp.busReset).lampsToHolder

/-- What entry to DETACHED does to WP itself (R94), the lamps apart. -/
def WP.detach (w : WP) : WP :=
  { w with port := .detached, queue := [], remoteWake := false, resuming := none, resumeGap := none }

/-- Entry to DETACHED (R94): WORKSTATION-DETACHED, and lamps that were not empty are cleared and the holder told. -/
def State.wpDetach (s : State) : State :=
  let s := (s.setWP s.wp.detach).raise .workstationDetached
  if s.wp.lamps = 0 then s else (s.setWP { s.wp with lamps := 0 }).lampsToHolder

/-- WP at SERVING (R91): with bus power it connects with the effects of a bus reset, without it stays DETACHED. -/
def State.wpBegin (s : State) : State :=
  if s.wp.vbus then s.wpBusReset else s.raise .workstationDetached

/-- WP's answer on the workstation's bus. -/
def State.answer (s : State) (a : UsbAnswer) : State := s.setWP { s.wp with answer := a }

/-- BUS_POWER_APPEARS (R91): the level of VBUS_SENSE; in a SERVING source, a DETACHED port connects with the effects of
a bus reset, and WORKSTATION-DETACHED's current bit is cleared. -/
def execBusPowerAppears (s : State) : Host.Outcome State Fault Refusal :=
  let s := s.setWP { s.wp with vbus := true }
  if s.servingAs .source && s.wp.port = .detached then .next (s.wpBusReset.setCurrent .workstationDetached false)
  else .next s

/-- BUS_POWER_LOST (R91, R94): the level of VBUS_SENSE; a connected port enters DETACHED. -/
def execBusPowerLost (s : State) : Host.Outcome State Fault Refusal :=
  let s := s.setWP { s.wp with vbus := false }
  if s.servingAs .source && s.wp.port ≠ .detached then .next s.wpDetach else .next s

/-- BUS_RESET (R93): taken in every connected state, SUSPENDED included. -/
def execBusReset (s : State) : Host.Outcome State Fault Refusal :=
  if s.servingAs .source && s.wp.port ≠ .detached then .next s.wpBusReset else .next s

/-! ### Standard requests (R92) -/

/-- A standard request with no outcome in the state: a stall while connected, SUSPENDED included; a DETACHED port is
not on the bus (R91, R92). -/
def State.stalled (s : State) : State :=
  if s.wp.port = .detached then s.answer .silent else s.answer .stall

/-- SET_ADDRESS (R92). -/
def execSetAddress (a : BitVec 16) (s : State) : Host.Outcome State Fault Refusal :=
  if s.servingAs .source then
    if s.wp.port = .connected .default && 1 ≤ a.toNat && a.toNat ≤ 127 then
      .next ((s.setWP { s.wp with port := .connected .addressed, address := a.toNat }).answer .ack)
    else if s.wp.port = .connected .addressed && a = 0 then
      .next ((s.setWP { s.wp with port := .connected .default, address := 0 }).answer .ack)
    else .next s.stalled
  else .next s

/-- SET_CONFIGURATION (R92). -/
def execSetConfiguration (c : BitVec 16) (s : State) : Host.Outcome State Fault Refusal :=
  if s.servingAs .source then
    if c = 1 && (s.wp.port = .connected .addressed || s.wp.port = .connected .configured) then
      .next ((s.setWP { s.wp with port := .connected .configured }).answer .ack)
    else if c = 0 && s.wp.port = .connected .configured then
      .next ((s.setWP { s.wp with port := .connected .addressed }).answer .ack)
    else .next s.stalled
  else .next s

/-- The remote wake flag written in ADDRESSED or CONFIGURED (R92). -/
def State.wpRemoteWake (s : State) (v : Bool) : State :=
  if s.wp.port = .connected .addressed || s.wp.port = .connected .configured then
    (s.setWP { s.wp with remoteWake := v }).answer .ack
  else s.stalled

/-- SET_FEATURE_REMOTE_WAKE (R92). -/
def execSetFeatureRemoteWake (s : State) : Host.Outcome State Fault Refusal :=
  if s.servingAs .source then .next (s.wpRemoteWake true) else .next s

/-- CLEAR_FEATURE_REMOTE_WAKE (R92). -/
def execClearFeatureRemoteWake (s : State) : Host.Outcome State Fault Refusal :=
  if s.servingAs .source then .next (s.wpRemoteWake false) else .next s

/-- Whether the port is connected and not SUSPENDED. -/
def WP.onBus (w : WP) : Bool :=
  match w.port with
  | .connected _ => true
  | _ => false

/-- GET_DESCRIPTOR (R92): answered in every connected state except SUSPENDED. -/
def execGetDescriptor (s : State) : Host.Outcome State Fault Refusal :=
  if s.servingAs .source then
    if s.wp.onBus then .next (s.answer .descriptor) else .next (s.answer .silent)
  else .next s

/-- GET_REPORT (R95): the presented snapshot, or the current buttons and position with a wheel share of 0 (the states
in which it is answered: log 16). -/
def execGetReport (i : WpInterface) (s : State) : Host.Outcome State Fault Refusal :=
  if s.servingAs .source then
    if s.wp.onBus then
      match i with
      | .keyboard => .next (s.answer (.report (keyboardReport s.wp.presented)))
      | .pointer => .next (s.answer (.report (pointerReport s.wp.buttons s.wp.x s.wp.y 0)))
    else .next (s.answer .silent)
  else .next s

/-- SET_IDLE_OR_PROTOCOL (R95): acknowledged, with no effect (states: log 16). -/
def execSetIdleOrProtocol (s : State) : Host.Outcome State Fault Refusal :=
  if s.servingAs .source then
    if s.wp.onBus then .next (s.answer .ack) else .next (s.answer .silent)
  else .next s

/-- UNSUPPORTED_STANDARD_REQUEST (R92): a stall, and nothing changes. -/
def execUnsupportedStandardRequest (s : State) : Host.Outcome State Fault Refusal :=
  if s.servingAs .source then .next s.stalled else .next s

/-! ### Lamps, polls and overruns (R97, R98, R103, R104) -/

/-- KEYBOARD_OUTPUT_REPORT (R104): taken in ADDRESSED or CONFIGURED, a stall in DEFAULT; changed lamps are sent to the
holder. -/
def execKeyboardOutputReport (r : Byte) (s : State) : Host.Outcome State Fault Refusal :=
  if s.servingAs .source then
    match s.wp.port with
    | .connected .default => .next (s.answer .stall)
    | .connected _ =>
      if r.setWidth 5 = s.wp.lamps then .next (s.answer .ack)
      else .next ((s.setWP { s.wp with lamps := r.setWidth 5 }).answer .ack).lampsToHolder
    | _ => .next (s.answer .silent)
  else .next s

/-- KEYBOARD_POLL (R97): the head snapshot is sent; acknowledged, it leaves the queue and becomes presented. -/
def execKeyboardPoll (acknowledged : Bool) (s : State) : Host.Outcome State Fault Refusal :=
  if s.servingAs .source then
    if s.wp.port = .connected .configured then
      match s.wp.queue with
      | [] => .next (s.answer .noData)
      | e :: r =>
        let s := s.answer (.report (keyboardReport e.snapshot))
        if acknowledged then .next (s.setWP { s.wp with queue := r, presented := e.snapshot }) else .next s
    else .next (s.answer .silent)
  else .next s

/-- The pointer report WP would deliver now. -/
def WP.pointerNow (w : WP) : PointerReport := ⟨w.x, w.y, w.buttons⟩

/-- POINTER_POLL (R103): a report when X, Y, buttons or the accumulator call for one; acknowledged, its share is
subtracted and it becomes the last delivered. -/
def execPointerPoll (acknowledged : Bool) (s : State) : Host.Outcome State Fault Refusal :=
  if s.servingAs .source then
    if s.wp.port = .connected .configured then
      if s.wp.delivered ≠ some s.wp.pointerNow || s.wp.wheel ≠ 0 then
        let share := wheelShare s.wp.wheel
        let s := s.answer (.report (pointerReport s.wp.buttons s.wp.x s.wp.y share))
        if acknowledged then
          .next (s.setWP { s.wp with wheel := s.wp.wheel - share, delivered := some s.wp.pointerNow })
        else .next s
      else .next (s.answer .noData)
    else .next (s.answer .silent)
  else .next s

/-- QUEUE_AGE_OVERRUN (R98): the age limit finds the oldest entry without a recovery mark too old. Once a poll has taken
that entry, the limit watches the next. -/
def execQueueAgeOverrun (s : State) : Host.Outcome State Fault Refusal :=
  if s.servingAs .source && s.wp.tooOld s.now then
    .next ((s.setWP (s.wp.overrun s.now)).latch .inputOverrun)
  else .next s

/-! ### Suspend (R105) -/

/-- BUS_IDLE_SUSPEND (R105): a connected port enters SUSPENDED and remembers the state it left. -/
def execBusIdleSuspend (s : State) : Host.Outcome State Fault Refusal :=
  match s.wp.port with
  | .connected b =>
    if s.servingAs .source then .next (s.setWP { s.wp with port := .suspended b, resuming := none, resumeGap := none })
    else .next s
  | _ => .next s

/-- BUS_RESUME (R105): the port returns to the remembered state. Resume signalling that still runs ends, and the time of
the last resume goes with its suspension; R105 names only lost power and a bus reset as its early ends (log 37). -/
def execBusResume (s : State) : Host.Outcome State Fault Refusal :=
  match s.wp.port with
  | .suspended b =>
    if s.servingAs .source then
      .next (s.setWP { s.wp with port := .connected b, resuming := none, resumeGap := none })
    else .next s
  | _ => .next s

/-- RESUME_SIGNALLING_END (R105): the signalling ends, and WP waits, still SUSPENDED. -/
def execResumeSignallingEnd (s : State) : Host.Outcome State Fault Refusal :=
  if timerDue s.now s.wp.resuming Config.resumeUs then .next (s.setWP { s.wp with resuming := none }) else .next s

end Sys2Proof.Machine
end

