-- ==== Sys2Proof/Machine/Arbiter.lean ====
section
/-!
DEFINITION. Control arbitration at the source (05): the permit table, the holder slot, the wait list, the viewer table
and the NOT-HOLDER notes.
-/

namespace Sys2Proof.Machine

/-! ### Looking up -/

/-- A desk's rank; a desk with no entry has rank 0 (R70). -/
def CA.rank (c : CA) (d : Nat) : Nat :=
  match c.permits.find? (fun p => p.desk = d) with
  | none => 0
  | some p => p.rank

/-- Whether a desk has a viewer entry. -/
def CA.views (c : CA) (d : Nat) : Bool := c.viewers.any fun v => v.desk = d

/-- Whether a desk is in the wait list. -/
def CA.waits (c : CA) (d : Nat) : Bool := c.wait.any fun e => e.desk = d

/-- Whether a desk is the holder. -/
def CA.holds (c : CA) (d : Nat) : Bool :=
  match c.slot with
  | none => false
  | some h => h.desk = d

/-- A desk's position, counted from the head, 1 for the head (R72). -/
def positionOf (d : Nat) : List WaitEntry → Nat
  | [] => 1
  | e :: r => if e.desk = d then 1 else positionOf d r + 1

/-! ### Viewers (R73) -/

/-- A desk's viewer entry is heard with a watched set (R73): refreshed, with a trigger when it gains a channel; made,
with a trigger; or, with the table full, VIEWERS-FULL is latched. -/
def State.hear (s : State) (d : Nat) (watched : Channels) : State :=
  match s.ca.viewers.find? (fun v => v.desk = d) with
  | some v =>
    let s' := s.setCA { s.ca with
      viewers := s.ca.viewers.map fun u => if u.desk = d then { u with watched := watched, heard := s.now } else u }
    if watched &&& ~~~v.watched = 0 then s' else s'.refreshTrigger
  | none =>
    if s.ca.viewers.length < Config.viewerMax then
      (s.setCA { s.ca with viewers := s.ca.viewers ++ [⟨d, watched, s.now⟩] }).refreshTrigger
    else s.latch .viewersFull

/-! ### Grants (R77, R83, R85) -/

/-- CA with its idle timer started: it expires at once when T_grace is 0 (R71). -/
def CA.startIdle (c : CA) (now : Time) : CA := { c with idle := some now, idleExpired := c.grace = 0 }

/-- The slot of a new holder (R77, R87). -/
def newSlot (d r : Nat) (i : Byte) (now : Time) : Slot :=
  { desk := d, rank := r, id := i, lastChange := now, accepted := none, prevSnapshot := .released, prevButtons := 0,
    prevField := none }

/-- A grant (R77): the slot is filled, GRANTED is handed on, and WP is told of the holder change (R85). -/
def State.grant (s : State) (d r : Nat) (i : Byte) : State :=
  let s := s.setCA (CA.startIdle { s.ca with slot := some (newSlot d r i s.now) } s.now)
  (s.hand0 (.controlVerdict d .granted i)).wpHolderChange (some d)

/-- T_grace in microseconds (R70). -/
def CA.graceUs (c : CA) : Nat := Config.ms (1000 * c.grace)

/-- T_wait in microseconds (R70). -/
def CA.waitUs (c : CA) : Nat := Config.ms (1000 * c.waitLife)

/-- Whether the holder's last change is at least T_grace old: the idle timer, which is started at each last change, has
expired or has run that long (R71, R76, R79; log 35). -/
def State.holderIdle (s : State) : Bool := s.ca.idleExpired || timerDue s.now s.ca.idle s.ca.graceUs

/-- The slot is emptied (R83): unseen waiters are removed, and the head of the list is granted, or the slot stays
empty and WP is told; the idle timer is left as it is (R71). -/
def State.emptySlot (s : State) : State :=
  let waiting := s.ca.wait.filter fun e => s.ca.views e.desk
  match waiting with
  | [] => (s.setCA { s.ca with slot := none, wait := [] }).wpHolderChange none
  | e :: r => (s.setCA { s.ca with slot := none, wait := r }).grant e.desk e.rank e.id

/-! ### The wait list (R72, R78, R80) -/

/-- An entry placed directly behind the last entry of rank `r` or higher (R80), or of rank greater than `r` when it is
a preempted holder's (R78): ahead of the first entry that does not stand so. -/
def placeEntry (ahead : Nat → Bool) (e : WaitEntry) : List WaitEntry → List WaitEntry
  | [] => [e]
  | x :: r => if ahead x.rank then x :: placeEntry ahead e r else e :: x :: r

/-- A list of 4 entries whose tail has a rank lower than `r`: the tail, and the list without it (R78, R80). -/
def displaced (r : Nat) (l : List WaitEntry) : Option WaitEntry :=
  match l.getLast? with
  | none => none
  | some t => if t.rank < r then some t else none

/-- Room made for an entry of rank `r` (R78, R80): with fewer than 4 entries nothing is done; with 4 a lower-ranked
tail is withdrawn DISPLACED; otherwise there is none. -/
def State.makeRoom (s : State) (r : Nat) : Option State :=
  if s.ca.wait.length < Config.waitMax then some s
  else match displaced r s.ca.wait with
    | none => none
    | some t =>
      some ((s.setCA { s.ca with wait := s.ca.wait.dropLast }).hand0 (.controlWithdrawn t.desk .displaced t.id))

/-- A preemption of holder `h` by desk `d` (R78). -/
def State.preempt (s : State) (h : Slot) (d r : Nat) (i : Byte) : State :=
  match s.makeRoom h.rank with
  | some s =>
    let s := s.setCA { s.ca with
      wait := placeEntry (fun k => h.rank < k) ⟨h.desk, h.rank, h.id, s.now⟩ s.ca.wait }
    (s.hand0 (.controlWithdrawn h.desk .preemptedQueued h.id)).grant d r i
  | none => (s.hand0 (.controlWithdrawn h.desk .preempted h.id)).grant d r i

/-- A request that joins the wait list, or is refused LIST-FULL (R80). -/
def State.joinWait (s : State) (d r : Nat) (i : Byte) : State :=
  match s.makeRoom r with
  | some s =>
    let s := s.setCA { s.ca with wait := placeEntry (fun k => r ≤ k) ⟨d, r, i, s.now⟩ s.ca.wait }
    s.hand0 (.controlVerdict d (.queued (positionOf d s.ca.wait)) i)
  | none => s.hand0 (.controlVerdict d .listFull i)

/-- The cases of a CONTROL-REQUEST, the viewer entry already heard (R76). -/
def State.request (s : State) (d : Nat) (i : Byte) : State :=
  let r := s.ca.rank d
  if r = 0 then s.hand0 (.controlVerdict d .noPermit i)
  else match s.ca.slot with
    | some h =>
      if h.desk = d then
        ((s.setCA { s.ca with slot := some { h with id := i, accepted := none } }).hand0
          (.controlVerdict d .granted i)).lampsTo d
      else if s.ca.waits d then
        let s := s.setCA { s.ca with wait := s.ca.wait.map fun e => if e.desk = d then { e with id := i } else e }
        s.hand0 (.controlVerdict d (.queued (positionOf d s.ca.wait)) i)
      else if h.rank < r then s.preempt h d r i
      else if h.rank = r && s.holderIdle then
        (s.hand0 (.controlWithdrawn h.desk .idleTaken h.id)).grant d r i
      else s.joinWait d r i
    | none =>
      if s.ca.waits d then
        let s := s.setCA { s.ca with wait := s.ca.wait.map fun e => if e.desk = d then { e with id := i } else e }
        s.hand0 (.controlVerdict d (.queued (positionOf d s.ca.wait)) i)
      else s.grant d r i

/-! ### INPUT (R86 to R88) -/

/-- Whether an accepted INPUT changes something against the previous one from this holder (R87). -/
def Slot.changedBy (h : Slot) (i : InputContent) : Bool :=
  i.snapshot ≠ h.prevSnapshot || i.buttons ≠ h.prevButtons || i.wheel ≠ 0 || (i.field.isSome && i.field ≠ h.prevField)

/-- The slot after an accepted INPUT (R86, R87). -/
def Slot.accept (h : Slot) (i : InputContent) (seq : BitVec 16) (now : Time) : Slot :=
  { h with
    accepted := some seq
    lastChange := if h.changedBy i then now else h.lastChange
    prevSnapshot := i.snapshot
    prevButtons := i.buttons
    prevField := if i.field.isSome then i.field else h.prevField }

/-- Whether the holder's INPUT is accepted: it bears the slot's id, and its sequence is the first or newer (R86). -/
def Slot.accepts (h : Slot) (i : InputContent) (seq : BitVec 16) : Bool :=
  i.id = h.id && (match h.accepted with
    | none => true
    | some a => newer a seq)

/-- The age of a note's time. -/
def Note.age (n : Note) (now : Time) : Nat := elapsed now n.sent

/-- The greatest age among notes. -/
def oldestAge (now : Time) (l : List Note) : Nat := l.foldl (fun a n => max a (n.age now)) 0

/-- The first note for which `p` holds replaced. -/
def replaceNote (p : Note → Bool) (n : Note) : List Note → List Note
  | [] => []
  | m :: r => if p m then n :: r else m :: replaceNote p n r

/-- A sender's note set to now (R88): its own; else one of the 8 not yet made, or one that no longer counts; else the
one with the oldest time (log 21). -/
def setNote (l : List Note) (d : Nat) (now : Time) : List Note :=
  let n : Note := ⟨d, now, some now⟩
  if l.any (fun m => m.desk = d) then replaceNote (fun m => m.desk = d) n l
  else if l.length < Config.noteMax then l ++ [n]
  else if l.any (fun m => m.timer.isNone) then replaceNote (fun m => m.timer.isNone) n l
  else replaceNote (fun m => m.age now = oldestAge now l) n l

/-- Whether a desk has a note that counts (R88). -/
def CA.noted (c : CA) (d : Nat) : Bool := c.notes.any fun n => n.desk = d && n.timer.isSome

/-- An INPUT from a desk that does not hold (R88). -/
def State.notHolder (s : State) (d : Nat) (i : Byte) : State :=
  if s.ca.noted d then s
  else (s.hand0 (.controlWithdrawn d .notHolder i)).setCA { s.ca with notes := setNote s.ca.notes d s.now }

/-- An INPUT that passed its content check, admitted or discarded (R86). -/
def State.inputFrom (s : State) (d : Nat) (seq : BitVec 16) (i : InputContent) : State :=
  match s.ca.slot with
  | none => s.notHolder d i.id
  | some h =>
    if h.desk = d then
      if h.accepts i seq then
        let c := { s.ca with slot := some (h.accept i seq s.now) }
        (s.setCA (if h.changedBy i then c.startIdle s.now else c)).wpInput i
      else s
    else s.notHolder d i.id

/-! ### The commands -/

/-- PRESENCE_TAKEN_BY_CA (R73): a desk PRESENCE that lists a stream of this source hears the desk's viewer entry. -/
def execPresenceTakenByCa (s : State) : Host.Outcome State Fault Refusal :=
  if s.servingAs .source then
    match s.take .ca .presence with
    | none => .next s
    | some (m, s) =>
      let mine := (presenceStreams m.payload).filter fun x => x.station = s.fp.own
      if mine.isEmpty then .next s
      else .next (s.hear m.sender (mine.foldl (fun w x => w ||| channelBit x.channel) 0))
  else .next s

/-- CONTROL_REQUEST_TAKEN (R76; content check R190). -/
def execControlRequestTaken (s : State) : Host.Outcome State Fault Refusal :=
  if s.servingAs .source then
    match s.take .ca .controlRequest with
    | none => .next s
    | some (m, s) =>
      if byteAt m.payload 1 ≤ 3 then
        .next ((s.hear m.sender ((m.payload.getD 1 0).setWidth 2)).request m.sender (m.payload.getD 0 0))
      else .next (s.latch .malformed)
  else .next s

/-- CONTROL_RELEASE_TAKEN (R82): the sender alone decides. -/
def execControlReleaseTaken (s : State) : Host.Outcome State Fault Refusal :=
  if s.servingAs .source then
    match s.take .ca .controlRelease with
    | none => .next s
    | some (m, s) =>
      if s.ca.holds m.sender then .next s.emptySlot
      else .next (s.setCA { s.ca with wait := s.ca.wait.filter fun e => e.desk ≠ m.sender })
  else .next s

/-- INPUT_TAKEN (R86; content check R190). -/
def execInputTaken (s : State) : Host.Outcome State Fault Refusal :=
  if s.servingAs .source then
    match s.take .ca .input with
    | none => .next s
    | some (m, s) =>
      match readInput m.payload with
      | none => .next (s.latch .malformed)
      | some i => .next (s.inputFrom m.sender m.seq i)
  else .next s

/-- ATTN_CLEAR_TAKEN (R89): the holder's is an acknowledgement (R188); any other is discarded. -/
def execAttnClearTaken (s : State) : Host.Outcome State Fault Refusal :=
  if s.servingAs .source then
    match s.take .ca .attnClear with
    | none => .next s
    | some (m, s) => if s.ca.holds m.sender then .next (s.setSA s.sa.acknowledge) else .next s
  else .next s

/-- Whether a desk's viewer entry has expired: 1000 ms have passed since it was last heard (R74). -/
def State.viewerDue (s : State) (d : Nat) : Bool :=
  s.ca.viewers.any fun v => v.desk = d && timerDue s.now (some v.heard) Config.viewerUs

/-- VIEWER_ENTRY_EXPIRY (R74): the entry is removed, and the desk loses its hold, with EXPIRED, or its place. An entry
that was heard again in the meantime has not expired (R75). -/
def execViewerEntryExpiry (d : Nat) (s : State) : Host.Outcome State Fault Refusal :=
  if s.viewerDue d then
    let s := s.setCA { s.ca with viewers := s.ca.viewers.filter fun v => v.desk ≠ d }
    match s.ca.slot with
    | some h =>
      if h.desk = d then .next (s.hand0 (.controlWithdrawn d .expired h.id)).emptySlot
      else .next (s.setCA { s.ca with wait := s.ca.wait.filter fun e => e.desk ≠ d })
    | none => .next (s.setCA { s.ca with wait := s.ca.wait.filter fun e => e.desk ≠ d })
  else .next s

/-- WAIT_ENTRY_EXPIRY (R84): when T_wait has passed since its entry time, the entry is removed, and EXPIRED is sent to
its desk. -/
def execWaitEntryExpiry (d : Nat) (s : State) : Host.Outcome State Fault Refusal :=
  match s.ca.wait.find? (fun e => e.desk = d) with
  | none => .next s
  | some e =>
    if timerDue s.now (some e.entered) s.ca.waitUs then
      .next ((s.setCA { s.ca with wait := s.ca.wait.filter fun e => e.desk ≠ d }).hand0
        (.controlWithdrawn d .expired e.id))
    else .next s

/-- IDLE_TIMER_EXPIRY (R71): the idle timer stays expired until it is started again. -/
def execIdleTimerExpiry (s : State) : Host.Outcome State Fault Refusal :=
  if timerDue s.now s.ca.idle s.ca.graceUs then .next (s.setCA { s.ca with idle := none, idleExpired := true })
  else .next s

/-- NOT_HOLDER_NOTE_EXPIRY (R88): the desk's note no longer counts. -/
def execNotHolderNoteExpiry (d : Nat) (s : State) : Host.Outcome State Fault Refusal :=
  .next (s.setCA { s.ca with
    notes := s.ca.notes.map fun n =>
      if n.desk = d && timerDue s.now n.timer Config.noteUs then { n with timer := none } else n })

end Sys2Proof.Machine
end

