-- ==== Sys2Proof/Machine/Capture.lean ====
section
/-!
DEFINITION. Capture (07): measuring frames, locking and leaving LOCKED, writing valid lines into the source frame
store, tile rows and frame ends.
-/

namespace Sys2Proof.Machine

/-! ### Measurements (R108) -/

/-- The measurement of a frame from the pixels of its valid lines, its number of lines and its period; none when it is
irregular (R108). -/
def measure (lines : List Nat) (totalLines period : Nat) : Option Meas :=
  let w := lines.headD 0
  if lines.all (fun n => n = w) then some ⟨min 4095 w, min 4095 lines.length, min 4095 totalLines, period⟩ else none

/-- Microseconds from a channel's last frame sync to now (R108, R109); 0 when there is none, which is so in NO-SIGNAL
alone. -/
def Channel.period (c : Channel) (now : Time) : Nat :=
  match c.sync with
  | some since => elapsed now since
  | none => 0

/-- The valid pixels of each valid line of the frame in progress: on a LOCKED channel those of the lines CU has taken,
for each bore the locked width (R113); otherwise as the frame sync gives them (log 8). -/
def Channel.frameLines (c : Channel) (counts : FrameCounts) : List Nat :=
  match c.size with
  | some z => List.replicate c.line z.w
  | none => counts.validLines

/-- The measurement that completes at a frame sync (R108). -/
def Channel.measurement (c : Channel) (counts : FrameCounts) (now : Time) : Option Meas :=
  measure (c.frameLines counts) counts.totalLines (c.period now)

/-- Two regular measurements agree (R108). -/
def Meas.agrees (a b : Meas) : Bool :=
  a.w = b.w && a.h = b.h && a.lines = b.lines && a.period ≤ b.period + 20 && b.period ≤ a.period + 20

/-- A regular measurement is within limits (R108). -/
def Meas.withinLimits (m : Meas) : Bool := 640 ≤ m.w && m.w ≤ 2560 && 480 ≤ m.h && m.h ≤ 1600

/-- A completed measurement agrees with a reference. -/
def agreesWith (m : Option Meas) (r : Option Meas) : Bool :=
  match m, r with
  | some m, some r => m.agrees r
  | _, _ => false

/-- A channel that completes a measurement in MEASURING (R110): the run grows, or the measurement becomes the
reference, or an irregular one leaves no reference. -/
def Channel.measured (c : Channel) (m : Option Meas) : Channel :=
  if agreesWith m c.ref then { c with run := c.run + 1 }
  else match m with
    | some m => { c with ref := some m, run := 1 }
    | none => { c with ref := none, run := 0 }

/-! ### Locking (R111, R114, R115) -/

/-- A channel context replaced. -/
def State.setChannel (s : State) (i : Fin 2) (c : Channel) : State := s.setCU { s.cu with ch := s.cu.ch.set i c }

/-- TS's part for a channel replaced. -/
def State.setTsChannel (s : State) (i : Fin 2) (k : TsChannel) : State := s.setTS { s.ts with ch := s.ts.ch.set i k }

/-- Whether either channel is UNSUPPORTED (R111). -/
def CU.anyUnsupported (c : CU) : Bool := c.ch.zero.state = .unsupported || c.ch.one.state = .unsupported

/-- CHANNEL-UNSUPPORTED's current bit recomputed (R111). -/
def State.recomputeUnsupported (s : State) : State := s.setCurrent .channelUnsupported s.cu.anyUnsupported

/-- A channel's context as it enters LOCKED on a reference (R114, steps 1 to 4). -/
def Channel.lock (c : Channel) (m : Meas) : Channel :=
  { c with
    state := .locked, mode := some m, ref := none, run := 0, epoch := c.epoch + 1, frame := 0, row := none,
    through := none, completed := [] }

/-- A channel enters LOCKED on a reference (R114): TS, WP and PU are told. -/
def State.enterLocked (s : State) (i : Fin 2) (c : Channel) (m : Meas) : State :=
  let z : Size := ⟨m.w, m.h⟩
  let s := s.setChannel i (c.lock m)
  let s := s.setTsChannel i ((s.ts.ch.get i).locked z)
  (s.setWP (s.wp.lockChange i (some z))).askPresence

/-- A channel leaves LOCKED with a new context (R115): TS, WP and PU are told. -/
def State.leaveLocked (s : State) (i : Fin 2) (c : Channel) : State :=
  let s := s.setChannel i { c with mode := none }
  let s := s.setTsChannel i (s.ts.ch.get i).unlocked
  (s.setWP (s.wp.lockChange i none)).askPresence

/-- A channel enters UNSUPPORTED (R111). -/
def State.enterUnsupported (s : State) (i : Fin 2) (c : Channel) : State :=
  (s.setChannel i { c with state := .unsupported }).raise .channelUnsupported

/-- A MEASURING channel after a completed measurement: with a run of 3 it enters LOCKED or UNSUPPORTED (R110). -/
def State.settle (s : State) (i : Fin 2) (c : Channel) : State :=
  if 3 ≤ c.run then
    match c.ref with
    | some m => if m.withinLimits then s.enterLocked i c m else s.enterUnsupported i c
    | none => s.setChannel i c
  else s.setChannel i c

/-! ### The loss of sync (R112) -/

/-- A channel context as it enters NO-SIGNAL (R112). -/
def Channel.silent (c : Channel) : Channel :=
  { c with
    state := .noSignal, sync := none, ref := none, run := 0, row := none, through := none, completed := [], line := 0 }

/-- A channel enters NO-SIGNAL at the expiry of its sync timer (R112). -/
def State.loseSync (s : State) (i : Fin 2) : State :=
  let c := s.cu.ch.get i
  match c.state with
  | .locked => s.leaveLocked i c.silent
  | .unsupported => (s.setChannel i c.silent).recomputeUnsupported
  | _ => s.setChannel i c.silent

/-- More than 100 ms have passed since a channel's last frame sync: its timer expired before now (R108, R112). -/
def Channel.syncOverdue (c : Channel) (now : Time) : Bool :=
  c.state ≠ .noSignal && Config.syncUs < c.period now

/-- The state in which a frame sync is taken: an expiry that was due before it comes first, so a frame longer than
100 ms completes no measurement (R108, R112, log 8). -/
def State.atSync (s : State) (i : Fin 2) : State :=
  if (s.cu.ch.get i).syncOverdue s.now then s.loseSync i else s

/-! ### Frame ends (R117, R132) -/

/-- A frame end (R117): TS builds FRAME-CLOSE for the frame that ended, renews the rolling allowance (R130), and the
frame number advances. -/
def State.frameEnd (s : State) (i : Fin 2) (c : Channel) (m : Meas) : State :=
  let k := s.ts.ch.get i
  let s := s.handFrameClose (.frameClose i c.frame c.epoch ⟨m.w, m.h⟩ k.dirty.length)
  let s := s.setTsChannel i { k with allowance := s.ts.k }
  s.setChannel i { c with frame := c.frame + 1 }

/-- A frame sync at a channel whose sync timer has not expired before it (R110, R111, R113, R117): the frame's
measurement completes, the sync timer restarts, and the channel's state moves or a frame end is taken. -/
def State.takeSync (s : State) (i : Fin 2) (counts : FrameCounts) : State :=
  let m := (s.cu.ch.get i).measurement counts s.now
  let c := { s.cu.ch.get i with sync := some s.now, line := 0 }
  match c.state with
  | .noSignal => s.setChannel i { c with state := .measuring, ref := none, run := 0 }
  | .measuring => s.settle i (c.measured m)
  | .unsupported =>
    if agreesWith m c.ref then s.setChannel i c
    else (s.setChannel i { c.measured m with state := .measuring }).recomputeUnsupported
  | .locked =>
    match m, c.mode with
    | some m, some r =>
      if m.agrees r then s.frameEnd i c r
      else s.leaveLocked i { c with state := .measuring, ref := some m, run := 1 }
    | m, _ => s.leaveLocked i { c with state := .measuring, ref := m, run := if m.isSome then 1 else 0 }

/-- FRAME_SYNC (R108, R110, R111, R112, R113, R114, R117). -/
def execFrameSync (i : Fin 2) (counts : FrameCounts) (s : State) : Host.Outcome State Fault Refusal :=
  if s.servingAs .source then .next ((s.atSync i).takeSync i counts) else .next s

/-- SYNC_TIMER_EXPIRY (R112): the channel enters NO-SIGNAL. -/
def execSyncTimerExpiry (i : Fin 2) (s : State) : Host.Outcome State Fault Refusal :=
  if timerDue s.now (s.cu.ch.get i).sync Config.syncUs then .next (s.loseSync i) else .next s

/-! ### Valid lines and tile rows (R113, R116, R118, R119) -/

/-- A channel that has taken a valid line within its locked mode: the line's tile row is the row in progress (R118). -/
def Channel.lineTaken (c : Channel) : Channel := { c with row := some (c.line / 16), line := c.line + 1 }

/-- VALID_LINE_END (R113, R116): on a LOCKED channel the line's pixels with x < w and y < h are written into the store;
a pixel count other than the locked width, or a line after the locked height, leaves LOCKED. -/
def execValidLineEnd (i : Fin 2) (pixels : List Colour) (s : State) : Host.Outcome State Fault Refusal :=
  let c := s.cu.ch.get i
  if s.servingAs .source then
    match c.size with
    | none => .next s
    | some z =>
      let left := { c with state := .measuring, ref := none, run := 0, line := c.line + 1 }
      if c.line < z.h then
        let s := s.setCU { s.cu with store := s.cu.store.setRow i.val 0 c.line (pixels.take z.w) }
        if pixels.length = z.w then .next (s.setChannel i c.lineTaken)
        else .next (s.leaveLocked i left)
      else .next (s.leaveLocked i left)
  else .next s

/-- Tile row `r` may begin: it is a row of the grid, and valid line 16·r is the next CU takes (R118). -/
def Channel.rowBegins (c : Channel) (z : Size) (r : Nat) : Bool := r < tilesAlong z.h && c.line = 16 * r

/-- TILE_ROW_BEGIN (R118): the row becomes the row in progress as valid line 16·r is taken. -/
def execTileRowBegin (i : Fin 2) (row : Nat) (s : State) : Host.Outcome State Fault Refusal :=
  let c := s.cu.ch.get i
  if s.servingAs .source then
    match c.size with
    | none => .next s
    | some z => if c.rowBegins z row then .next (s.setChannel i { c with row := some row }) else .next s
  else .next s

/-- The last valid line of tile row `r` has been written and no later line: the next line is the one after it, or,
between frames, the row is the grid's last (R118). -/
def Channel.rowWritten (c : Channel) (z : Size) (r : Nat) : Bool :=
  c.line = min (16 * (r + 1)) z.h || (c.line = 0 && r + 1 = tilesAlong z.h)

/-- A channel whose row in progress completes (R118). -/
def Channel.rowDone (c : Channel) (r : Nat) : Channel :=
  { c with
    row := none, through := some r, completed := if c.completed.contains r then c.completed else r :: c.completed }

/-- TILE_ROW_COMPLETE (R118, R119): once the last line of the row in progress has been written, CU hands TS one
signature for each tile of the row, and the row completes. -/
def execTileRowComplete (i : Fin 2) (s : State) : Host.Outcome State Fault Refusal :=
  let c := s.cu.ch.get i
  if s.servingAs .source then
    match c.size, c.row with
    | some z, some r =>
      if c.rowWritten z r then
        let k := (s.ts.ch.get i).takeRow s.cu.store i.val z c.frame r
        .next ((s.setTsChannel i k).setChannel i (c.rowDone r))
      else .next s
    | _, _ => .next s
  else .next s

/-- The pulse level from how long each level was held: the one held for the shorter part, high at equal times (R107). -/
def pulseLevel (high low : Nat) : Bool := high ≤ low

/-- SYNC_PERIOD_END (R107). -/
def execSyncPeriodEnd (i : Fin 2) (signal : SyncSignal) (high low : Nat) (s : State) :
    Host.Outcome State Fault Refusal :=
  let c := s.cu.ch.get i
  if s.servingAs .source then
    match signal with
    | .hsync => .next (s.setChannel i { c with hPulse := pulseLevel high low })
    | .vsync => .next (s.setChannel i { c with vPulse := pulseLevel high low })
  else .next s

end Sys2Proof.Machine
end

