-- ==== Sys2Proof/Machine/Canvas.lean ====
section
/-!
DEFINITION. What the desk's blocks share: the current layout and the focus source (01, R51), placement records (R12 to
R15), adjacency (R4), the pointer field (R30, R33), head states (R153) and the shown lamps (R49, R50).
-/

namespace Sys2Proof.Machine

/-! ### Layouts (R6, R7, R8) -/

/-- The elements of a list in order of first appearance, each once. -/
def distinct {α : Type} [DecidableEq α] (l : List α) : List α :=
  l.foldl (fun acc x => if acc.contains x then acc else acc ++ [x]) []

/-- The current layout (R8). -/
def CP.currentLayout (c : CP) : Layout := c.layouts.getD (c.layout - 1) ⟨none, none, none, none⟩

/-- What a layout assigns to a head; only the assignments of VALID heads take effect (R7). -/
def CP.assigned (c : CP) (l : Layout) (h : Fin 4) : Option Stream :=
  if (c.heads.get h).validity = .valid then l.get h else none

/-- What a head shows in the current layout. -/
def CP.shown (c : CP) (h : Fin 4) : Option Stream := c.assigned c.currentLayout h

/-- The streams of the current layout, in the ascending order of the lowest-index VALID head that shows each (R7, R10). -/
def CP.streams (c : CP) : List Stream := distinct (headNumbers.filterMap c.shown)

/-- The sources of the current layout (R7). -/
def CP.sources (c : CP) : List Nat := distinct (c.streams.map Stream.station)

/-- The channels of a source shown on VALID heads of the current layout (R52). -/
def CP.watched (c : CP) (p : Nat) : Channels :=
  (c.streams.filter fun x => x.station = p).foldl (fun w x => w ||| channelBit x.channel) 0

/-- The focus source (R51). -/
def CP.focusSource (c : CP) : Option Nat :=
  match c.head with
  | none => none
  | some h => (c.shown h).map Stream.station

/-- The record of a station. -/
def FU.record (f : FU) (p : Nat) : Option SrcRec := f.records.find? fun r => r.station = p

/-- The focus record (R51). -/
def State.focusRecord (s : State) : Option SrcRec :=
  match s.cp.focusSource with
  | none => none
  | some p => s.fu.record p

/-- Whether the focus record is HOLDING. -/
def State.focusHolding (s : State) : Bool :=
  match s.focusRecord with
  | none => false
  | some r => r.state = .holding

/-- The context of a stream. -/
def SR.ctx (r : SR) (x : Stream) : Option Ctx := r.ctxs.find? fun c => c.stream = x

/-- The desk's button set: the union over both ports (R18). -/
def CP.buttons (c : CP) : Buttons := c.portButtons.zero ||| c.portButtons.one

/-! ### Placement (R12 to R15) -/

/-- The PLACED record of a stream of size `z` on a head of `hw` × `hh` (R13). -/
def placement (region : Fin 4) (z : Size) (hw hh : Nat) : Placement :=
  let k := if z.w ≤ hw && z.h ≤ hh then 1 else 2
  let dw := min hw ((z.w + k - 1) / k)
  let dh := min hh ((z.h + k - 1) / k)
  { region := region, k := k, dw := dw, dh := dh, ox := (hw - dw) / 2, oy := (hh - dh) / 2 }

/-- A head's placement record as the current layout and the contexts give it (R12). -/
def State.placementOf (s : State) (h : Fin 4) : Option Placement :=
  match s.cp.shown h with
  | none => none
  | some x =>
    match s.sr.ctx x with
    | none => none
    | some c => c.mode.map fun z => placement c.region z (s.cp.heads.get h).w (s.cp.heads.get h).h

/-- Every head's placement record recomputed (R15). -/
def State.placeAll (s : State) : State := s.setSR { s.sr with places := Quad.ofFn s.placementOf }

/-- The placement records of the heads that show a stream recomputed (R15). -/
def State.placeStream (s : State) (x : Stream) : State :=
  s.setSR { s.sr with
    places := Quad.ofFn fun h => if s.cp.shown h = some x then s.placementOf h else s.sr.places.get h }

/-! ### Adjacency (R4) -/

/-- Whether `b` is the neighbour of `a` at an edge, at coordinate `v` on the other axis (R4). -/
def HeadRec.neighbours (a b : HeadRec) (e : Edge) (v : Nat) : Bool :=
  match e with
  | .right => b.cx = a.cx + a.w && b.cy ≤ v && v < b.cy + b.h
  | .left => b.cx + b.w = a.cx && b.cy ≤ v && v < b.cy + b.h
  | .bottom => b.cy = a.cy + a.h && b.cx ≤ v && v < b.cx + b.w
  | .top => b.cy + b.h = a.cy && b.cx ≤ v && v < b.cx + b.w

/-- The neighbour of a VALID head at an edge; UNUSED and INVALID heads are nobody's neighbours (R4). -/
def CP.neighbour (c : CP) (a : Fin 4) (e : Edge) (v : Nat) : Option (Fin 4) :=
  headNumbers.find? fun b =>
    b ≠ a && (c.heads.get b).validity = .valid && (c.heads.get a).neighbours (c.heads.get b) e v

/-! ### The pointer field (R30, R31) -/

/-- One axis of the mapping: scale times the head coordinate, counted from the image's edge and clamped to the
displayed size (R30). -/
def mapAxis (v origin offset size k : Nat) : Nat :=
  k * (clampInt ((v : Int) - origin - offset) 0 ((size : Int) - 1)).toNat

/-- The pointer field as the state gives it: the pointer mapped to a stream pixel, or ABSENT (R30, R31). -/
def State.mapPointer (s : State) : Option PtrField :=
  match s.cp.head with
  | none => none
  | some h =>
    match s.cp.shown h, s.sr.places.get h with
    | some x, some p =>
      match s.sr.ctx x with
      | none => none
      | some c =>
        if c.state = .live then
          some ⟨x.channel, mapAxis s.cp.x (s.cp.heads.get h).cx p.ox p.dw p.k,
            mapAxis s.cp.y (s.cp.heads.get h).cy p.oy p.dh p.k⟩
        else none
    | _, _ => none

/-- CP recomputes the pointer field (R33). -/
def State.recomputeField (s : State) : State := s.setCP { s.cp with field := s.mapPointer }

/-! ### Head states (R153, R154) -/

/-- A VALID head's state with the blank flag ignored: its underlying state (R153). -/
def State.underlying (s : State) (h : Fin 4) : HeadState :=
  match s.cp.shown h with
  | none => .noStream
  | some x =>
    match s.sr.ctx x with
    | none => .noStream
    | some c =>
      match c.state with
      | .waiting | .lost => .noStream
      | .live => .active
      | .stale => .stale

/-- A head's state (R153). -/
def State.headState (s : State) (h : Fin 4) : HeadState :=
  if (s.cp.heads.get h).validity ≠ .valid || s.sa.start ≠ .serving then .off
  else if s.hu.blank then .blank
  else s.underlying h

/-- HU recomputes every head's state (R154). -/
def State.recomputeHeads (s : State) : State :=
  s.setHU { s.hu with heads := Quad.ofFn fun h => { s.hu.heads.get h with state := s.headState h } }

/-! ### Lamps (R49, R50) -/

/-- The shown lamp value: the lamps of the focus record while it is HOLDING, else none (R49). -/
def State.lampsShown (s : State) : Lamps :=
  match s.focusRecord with
  | none => 0
  | some r => if r.state = .holding then r.lamps else 0

/-- A port with a keyboard served compares lamps sent with the shown value and sends a lamp report when they differ,
unless one is in flight or waits to be sent again (R50; log 17). -/
def HostPort.offerLamps (p : HostPort) (shown : Lamps) : HostPort :=
  if p.state = .polling && p.keyboard.isSome && p.lampFlight.isNone && p.lampRetry.isNone
    && p.lampsSent ≠ some shown
  then { p with lampFlight := some shown } else p

/-- II recomputes the shown value and offers it to both ports (R49, R50). -/
def State.showLamps (s : State) : State :=
  s.setII { s.ii with
    shown := s.lampsShown
    ports := ⟨s.ii.ports.zero.offerLamps s.lampsShown, s.ii.ports.one.offerLamps s.lampsShown⟩ }

end Sys2Proof.Machine
end

