-- ==== Sys2Proof/Machine/Focus.lean ====
section
/-!
DEFINITION. Focus at the desk (04): source context records and their states, requests, releases and the leave
procedure, focus changes, reconciliation, the desk snapshot queue and INPUT.
-/

namespace Sys2Proof.Machine

/-! ### Records (R52) -/

/-- A table with the record of a station replaced. -/
def FU.put (f : FU) (r : SrcRec) : FU :=
  { f with records := f.records.map fun q => if q.station = r.station then r else q }

/-- The record of a station replaced in the part's state. -/
def State.putRecord (s : State) (r : SrcRec) : State := s.setFU (s.fu.put r)

/-- A new record (R52, R64). -/
def newRecord (p : Nat) (watched : Channels) (now : Time) : SrcRec :=
  { station := p, state := .idle, id := 0, sends := 1, ask := none, watched := watched, lamps := 0, refused := false,
    refusedTimer := none, absent := false, absence := some now, lastChange := now, holdOff := some now, seq := 0,
    noted := ⟨.released, 0, none⟩, leave := none }

/-- A record whose state becomes `st`: a change of state sets the last change and starts the hold-off (R52, R64), the
ask timer runs in ASKING alone (R52, R55), entry to ASKING clears the refused indication (R54), and entry to HOLDING
clears the refused flag, starts the INPUT sequence at 0 and leaves nothing pending (R57). -/
def SrcRec.enter (r : SrcRec) (st : RecState) (now : Time) : SrcRec :=
  let t := if r.state = st then r else { r with state := st, lastChange := now, holdOff := some now }
  match st with
  | .asking => { t with refused := false, refusedTimer := none }
  | .holding =>
    if r.state = .holding then t else { t with ask := none, refused := false, seq := 0, leave := none }
  | .idle | .queued => { t with ask := none, leave := none }

/-- What leaving HOLDING brings beside the record (R57): its pending leave is out of the order, and for the focus record
the queue and the wheel sum are emptied and the fresh flag is cleared. -/
def State.leftHolding (s : State) (p : Nat) : State :=
  let s := s.setFU { s.fu with leaveOrder := s.fu.leaveOrder.filter fun q => q ≠ p }
  if s.cp.focusSource = some p then
    (s.setFU { s.fu with queue := [], fresh := false }).setCP { s.cp with wheel := 0 }
  else s

/-- What entering HOLDING brings beside the record: for the focus record the fresh flag is set (R57). -/
def State.enteredHolding (s : State) (p : Nat) : State :=
  if s.cp.focusSource = some p then s.setFU { s.fu with fresh := true } else s

/-- A record, with its other fields already as they are to be, moved to a state, and the shown lamps recomputed
(R49, R57). -/
def State.moveRecord (s : State) (r : SrcRec) (st : RecState) : State :=
  let s := s.putRecord (r.enter st s.now)
  let s := if r.state = .holding && st ≠ .holding then s.leftHolding r.station else s
  let s := if st = .holding && r.state ≠ .holding then s.enteredHolding r.station else s
  s.showLamps

/-! ### Requests (R53, R54) -/

/-- A request for a source (R54). -/
def State.requestSource (s : State) (p : Nat) : State :=
  match s.fu.record p with
  | none => s
  | some r =>
    match r.state with
    | .asking | .holding => s
    | .idle | .queued =>
      let i := s.fu.idCounter + 1
      let s := (s.setFU { s.fu with idCounter := i }).hand0 (.controlRequest p i r.watched)
      s.moveRecord { r with id := i, sends := 1, ask := some s.now } .asking

/-! ### INPUT handed to class 1 (R60, R68) -/

/-- An INPUT handed to class 1: its sequence is taken from the record it goes to, which notes what it carried, and the
input interval starts (R67, R68). -/
def State.sendInput (s : State) (r : SrcRec) (k : Snapshot) (b : Buttons) (f : Option PtrField) (w : Int) : State :=
  let s := s.hand1 { target := r.station, id := r.id, seq := r.seq, snapshot := k, buttons := b, field := f, wheel := w }
  (s.setFU { s.fu with interval := some s.now }).putRecord { r with seq := r.seq + 1, noted := ⟨k, b, f⟩ }

/-! ### Releases and leaves (R60, R61, R62) -/

/-- CONTROL-RELEASE for a record handed to class 0. -/
def State.sendRelease (s : State) (r : SrcRec) : State := s.hand0 (.controlRelease r.station r.id)

/-- The leave procedure where class 1 has room (R60): the all-released INPUT, and for RELEASE the CONTROL-RELEASE and
IDLE; nothing of the record is pending afterwards. -/
def State.runLeave (s : State) (r : SrcRec) (k : LeaveKind) : State :=
  let s := s.sendInput r .released 0 none 0
  let r := { r with seq := r.seq + 1, noted := ⟨.released, 0, none⟩, leave := none }
  let s := (s.setFU { s.fu with leaveOrder := s.fu.leaveOrder.filter fun q => q ≠ r.station }).putRecord r
  match k with
  | .clear => s
  | .release => (s.sendRelease r).moveRecord r .idle

/-- A leave that finds class 1 full (R61): the pending leave is set, a CLEAR is raised to RELEASE, and a RELEASE already
pending stays one (log 28). -/
def State.setPending (s : State) (r : SrcRec) (k : LeaveKind) : State :=
  let k := if r.leave = some .release then .release else k
  let s := s.putRecord { r with leave := some k }
  if s.fu.leaveOrder.contains r.station then s
  else s.setFU { s.fu with leaveOrder := s.fu.leaveOrder ++ [r.station] }

/-- The leave procedure (R60). -/
def State.leave (s : State) (r : SrcRec) (k : LeaveKind) : State :=
  if s.roomInClass1 then s.runLeave r k else s.setPending r k

/-- A release of a source (R60). -/
def State.releaseSource (s : State) (p : Nat) : State :=
  match s.fu.record p with
  | none => s
  | some r =>
    match r.state with
    | .idle => s
    | .asking | .queued => (s.sendRelease r).moveRecord r .idle
    | .holding => s.leave r .release

/-! ### Focus changes (R51, R62) -/

/-- Step 1 of a focus change: P's record, when HOLDING, is left under the on-leave policy (R62). -/
def State.leaveFocus (s : State) (p : Option Nat) : State :=
  match p with
  | none => s
  | some p =>
    match s.fu.record p with
    | none => s
    | some r => if r.state = .holding then s.leave r s.fu.onLeave else s

/-- Step 4 of a focus change: auto-request for an IDLE record that is not absent (R51, R65). -/
def State.autoRequest (s : State) (q : Option Nat) : State :=
  match q with
  | none => s
  | some q =>
    match s.fu.record q with
    | none => s
    | some r => if r.state = .idle && s.fu.autoRequest && !r.absent then s.requestSource q else s

/-- A focus change from P to Q, which is the focus source now (R51). -/
def State.focusChange (s : State) (p q : Option Nat) : State :=
  let s := s.leaveFocus p
  let s := (s.setFU { s.fu with queue := [] }).setCP { s.cp with wheel := 0 }
  let s := s.setFU { s.fu with fresh := s.focusHolding }
  (s.autoRequest q).showLamps

/-- A focus change, when the focus source now differs from what it was. -/
def State.focusFrom (s : State) (p : Option Nat) : State :=
  if s.cp.focusSource = p then s else s.focusChange p s.cp.focusSource

/-! ### Layout changes (R63) -/

/-- What a record whose source leaves the layout sends (R63). -/
def State.dropRecord (s : State) (r : SrcRec) : State :=
  match r.state with
  | .holding => if s.roomInClass1 && r.leave.isNone then s.runLeave r .release else s.sendRelease r
  | .queued => s.sendRelease r
  | .asking | .idle => s

/-- A record whose source leaves the layout is dealt with and removed (R63). -/
def State.removeRecord (s : State) (r : SrcRec) : State :=
  let s := s.dropRecord r
  s.setFU { s.fu with
    records := s.fu.records.filter fun q => q.station ≠ r.station
    leaveOrder := s.fu.leaveOrder.filter fun q => q ≠ r.station }

/-- The kept records' watched channels set from the layout in effect, and a record created for each source that has
none (R52, R63). -/
def State.fillRecords (s : State) : State :=
  let kept := s.fu.records.map fun r => { r with watched := s.cp.watched r.station }
  let new := s.cp.sources.filter fun p => !kept.any fun r => r.station = p
  s.setFU { s.fu with records := kept ++ new.map fun p => newRecord p (s.cp.watched p) s.now }

/-- The table updated to the layout in effect (R63). -/
def State.updateRecords (s : State) : State :=
  let gone := s.fu.records.filter fun r => !s.cp.sources.contains r.station
  (gone.foldl State.removeRecord s).fillRecords

/-! ### The desk snapshot queue (R66) -/

/-- A snapshot handed on by II (R66). -/
def State.offerSnapshot (s : State) (k : Snapshot) : State :=
  match s.focusRecord with
  | none => s
  | some r =>
    if r.state ≠ .holding then s
    else if k = (match s.fu.queue.getLast? with
        | some t => t
        | none => r.noted.snapshot) then s
    else if s.fu.queue.length < Config.deskQueueMax then s.setFU { s.fu with queue := s.fu.queue ++ [k] }
    else s.setFU { s.fu with queue := s.fu.queue.dropLast ++ [k] }

/-! ### Paced INPUT (R67, R68) -/

/-- Whether a paced INPUT is due for the focus record (R67). -/
def State.inputDue (s : State) (r : SrcRec) : Bool :=
  r.state = .holding && r.leave.isNone && s.fu.leaveOrder.isEmpty && s.roomInClass1 && s.fu.interval.isNone
    && (s.fu.fresh || !s.fu.queue.isEmpty || s.cp.field ≠ r.noted.field || s.cp.buttons ≠ r.noted.buttons
      || s.cp.wheel ≠ 0)

/-- The snapshot a paced INPUT carries (R68). -/
def State.inputSnapshot (s : State) : Snapshot := if s.fu.fresh then s.ii.passed else s.fu.queue.headD s.ii.passed

/-- A paced INPUT built and handed to class 1 (R68): the wheel share is taken from the sum, and a fresh INPUT empties
the queue and clears the flag. -/
def State.buildInput (s : State) (r : SrcRec) : State :=
  let w := wheelShare s.cp.wheel
  let k := s.inputSnapshot
  let s := s.sendInput r k s.cp.buttons s.cp.field w
  (s.setFU { s.fu with queue := if s.fu.fresh then [] else s.fu.queue.tail, fresh := false }).setCP
    { s.cp with wheel := s.cp.wheel - w }

/-- The pending leaves run in the order in which they were set, one for each free entry of class 1 (R61). -/
def State.runLeaves : List Nat → State → State
  | [], s => s
  | p :: rest, s =>
    if s.roomInClass1 then
      match s.fu.record p with
      | none => State.runLeaves rest s
      | some r =>
        match r.leave with
        | none => State.runLeaves rest s
        | some k => State.runLeaves rest (s.runLeave r k)
    else s

/-- FU judges the conditions of R61 and R67: pending leaves first, then a paced INPUT when one is due. -/
def State.judgeInput (s : State) : State :=
  let s := State.runLeaves s.fu.leaveOrder s
  match s.focusRecord with
  | none => s
  | some r => if s.inputDue r then s.buildInput r else s

/-! ### Reconciliation (R64) -/

/-- A record, its absence timer restarted and its absent flag cleared, compared with what a PRESENCE lists: the id under
which this desk holds, and whether it waits (R64). -/
def State.reconcile (s : State) (r : SrcRec) (held : Option Byte) (waits : Bool) : State :=
  match r.state, held with
  | .idle, some _ => s.sendRelease r
  | .idle, none => if waits then s.sendRelease r else s
  | .asking, some i => s.moveRecord { r with id := i } .holding
  | .asking, none => s
  | .queued, some i => s.moveRecord { r with id := i } .holding
  | .queued, none => if waits then s else s.moveRecord r .idle
  | .holding, some i => s.putRecord { r with id := i }
  | .holding, none => s.moveRecord r (if waits then .queued else .idle)

/-- The id under which a PRESENCE lists a desk as holder (R64). -/
def listedHolder (own : Nat) (p : List Byte) : Option Byte :=
  match presenceHolder p with
  | none => none
  | some (d, i) => if d = own then some i else none

/-- PRESENCE_TAKEN_BY_FU (R64). -/
def execPresenceTakenByFu (s : State) : Host.Outcome State Fault Refusal :=
  if s.servingAs .desk then
    match s.take .fu .presence with
    | none => .next s
    | some (m, s) =>
      match s.fu.record m.sender with
      | none => .next s
      | some r =>
        let r := { r with absence := some s.now, absent := false }
        let s := s.putRecord r
        if r.holdOff.isSome then .next s
        else .next (s.reconcile r (listedHolder s.fp.own m.payload)
          ((presenceWaiting m.payload).contains s.fp.own)).judgeInput
  else .next s

/-! ### Verdicts and withdrawals (R55 to R59) -/

/-- A record with the refused indication set (R59). -/
def SrcRec.markRefused (r : SrcRec) (now : Time) : SrcRec := { r with refused := true, refusedTimer := some now }

/-- A verdict that bears the record's id taken by the record's state (R55, R56, R57). -/
def State.takeVerdict (s : State) (r : SrcRec) (v : Verdict) : State :=
  match r.state, v with
  | .asking, .granted | .queued, .granted => s.moveRecord r .holding
  | .asking, .queued _ => s.moveRecord r .queued
  | .asking, .noPermit | .asking, .listFull | .queued, .noPermit | .queued, .listFull =>
    s.moveRecord (r.markRefused s.now) .idle
  | .queued, .queued _ => s
  | .idle, _ | .holding, _ => s

/-- CONTROL_VERDICT_TAKEN (R55, R56, R57; content check R190). -/
def execControlVerdictTaken (s : State) : Host.Outcome State Fault Refusal :=
  if s.servingAs .desk then
    match s.take .fu .controlVerdict with
    | none => .next s
    | some (m, s) =>
      match readVerdict m.payload with
      | none => .next (s.latch .malformed)
      | some v =>
        match s.fu.record m.sender with
        | none => .next s
        | some r => if m.payload.getD 1 0 = r.id then .next (s.takeVerdict r v).judgeInput else .next s
  else .next s

/-- The state a matching withdrawal moves a record to; none when it is ignored (R58). -/
def withdrawalState (reason : Reason) (st : RecState) : Option RecState :=
  match st, reason with
  | .holding, .preempted | .holding, .idleTaken | .holding, .expired | .holding, .notHolder => some .idle
  | .holding, .preemptedQueued => some .queued
  | .queued, .expired | .queued, .displaced => some .idle
  | _, _ => none

/-- CONTROL_WITHDRAWN_TAKEN (R58; content check R190). -/
def execControlWithdrawnTaken (s : State) : Host.Outcome State Fault Refusal :=
  if s.servingAs .desk then
    match s.take .fu .controlWithdrawn with
    | none => .next s
    | some (m, s) =>
      match reasonOf (byteAt m.payload 0) with
      | none => .next (s.latch .malformed)
      | some reason =>
        match s.fu.record m.sender with
        | none => .next s
        | some r =>
          if m.payload.getD 1 0 = r.id then
            match withdrawalState reason r.state with
            | none => .next s
            | some st => .next (s.moveRecord r st).judgeInput
          else .next s
  else .next s

/-- LAMPS_TAKEN (R69): the lamp set is stored whatever the record's state, and the shown value recomputed (R49). -/
def execLampsTaken (s : State) : Host.Outcome State Fault Refusal :=
  if s.servingAs .desk then
    match s.take .fu .lamps with
    | none => .next s
    | some (m, s) =>
      match s.fu.record m.sender with
      | none => .next s
      | some r => .next (s.putRecord { r with lamps := (m.payload.getD 0 0).setWidth 5 }).showLamps
  else .next s

/-! ### Timers -/

/-- ASK_TIMER_EXPIRY (R55): the request is sent again under its id, or ends after its third send with SOURCE-SILENT. -/
def execAskTimerExpiry (p : Nat) (s : State) : Host.Outcome State Fault Refusal :=
  match s.fu.record p with
  | none => .next s
  | some r =>
    if timerDue s.now r.ask Config.askUs then
      if r.sends < 3 then
        .next ((s.hand0 (.controlRequest p r.id r.watched)).putRecord
          { r with sends := r.sends + 1, ask := some s.now })
      else .next ((s.moveRecord r .idle).latch .sourceSilent)
    else .next s

/-- REFUSED_TIMER_EXPIRY (R59). -/
def execRefusedTimerExpiry (p : Nat) (s : State) : Host.Outcome State Fault Refusal :=
  match s.fu.record p with
  | none => .next s
  | some r =>
    if timerDue s.now r.refusedTimer Config.refusedUs then
      .next (s.putRecord { r with refused := false, refusedTimer := none })
    else .next s

/-- ABSENCE_TIMER_EXPIRY (R65): the absent flag is set and the record goes to IDLE; no message is sent. -/
def execAbsenceTimerExpiry (p : Nat) (s : State) : Host.Outcome State Fault Refusal :=
  match s.fu.record p with
  | none => .next s
  | some r =>
    if timerDue s.now r.absence Config.absenceUs then
      .next (s.moveRecord { r with absent := true, absence := none } .idle).judgeInput
    else .next s

/-- HOLD_OFF_TIMER_EXPIRY (R64). -/
def execHoldOffTimerExpiry (p : Nat) (s : State) : Host.Outcome State Fault Refusal :=
  match s.fu.record p with
  | none => .next s
  | some r =>
    if timerDue s.now r.holdOff Config.holdOffUs then .next (s.putRecord { r with holdOff := none }) else .next s

/-- INPUT_INTERVAL_EXPIRY (R67): the interval has passed, and FU judges whether an INPUT is due. -/
def execInputIntervalExpiry (s : State) : Host.Outcome State Fault Refusal :=
  if timerDue s.now s.fu.interval (Config.ms s.fu.intervalMs) then
    .next (s.setFU { s.fu with interval := none }).judgeInput
  else .next s

end Sys2Proof.Machine
end

