-- ==== Sys2Proof/Machine/Heads.lean ====
section
/-!
DEFINITION. The heads (10): timing, line starts, blanking and wake, the composition of a line's pixels, and the levels
a head drives.
-/

namespace Sys2Proof.Machine

/-! ### Timing (R151) -/

/-- Pixels of a line (R151). -/
def ModeEntry.hTotal (m : ModeEntry) : Nat := m.aw + m.hfp + m.hsw + m.hbp

/-- Lines of a frame (R151). -/
def ModeEntry.vTotal (m : ModeEntry) : Nat := m.ah + m.vfp + m.vsw + m.vbp

/-- A mode entry before the image gives one. -/
def ModeEntry.reset : ModeEntry := ⟨0, 0, 0, 0, 0, 0, 0, 0, 0, 0, 0, 0⟩

/-- The mode entry a head names. -/
def CP.modeOf (c : CP) (h : Fin 4) : ModeEntry := c.modes.getD (c.heads.get h).mode ModeEntry.reset

/-- The profile of a head state; OFF has none and shows nothing (R155). -/
def HU.profile (u : HU) (st : HeadState) : Profile :=
  match st with
  | .off => .reset
  | .noStream => u.noStream
  | .active => u.active
  | .stale => u.stale
  | .blank => u.blankProfile

/-! ### Line starts (R157) -/

/-- What HU reads of the focus record (R157). -/
def SrcRec.view (r : SrcRec) : FocusView := ⟨r.state, r.refused, r.absent⟩

/-- What HU reads at a line start of a head and holds for the line (R157). -/
def State.readLine (s : State) (h : Fin 4) (o : HeadOut) : LineLatch :=
  let here := s.cp.head = some h
  { line := o.line
    state := o.state
    place := s.sr.places.get h
    pointer := if here then some (s.cp.x - (s.cp.heads.get h).cx, s.cp.y - (s.cp.heads.get h).cy) else none
    focus := if here then s.focusRecord.map SrcRec.view else none }

/-- HEAD_LINE_START (R157): HU reads what the line is composed from, at a frame start the sync setting of the head's
profile takes force (R154, R155), and the generator counts on (R151). -/
def execHeadLineStart (h : Fin 4) (s : State) : Host.Outcome State Fault Refusal :=
  let o := s.hu.heads.get h
  if o.running then
    .next (s.setHU { s.hu with
      heads := s.hu.heads.set h { o with
        latch := some (s.readLine h o)
        syncOn := if o.line = 0 then (s.hu.profile o.state).sync else o.syncOn
        line := (o.line + 1) % (s.cp.modeOf h).vTotal } })
  else .next s

/-! ### Blanking (R163, R164) -/

/-- MINUTE_TIMER_EXPIRY (R163): the count rises, and at T_blank the flag is set and the timer stops. -/
def execMinuteTimerExpiry (s : State) : Host.Outcome State Fault Refusal :=
  if timerDue s.now s.hu.minute Config.minuteUs then
    let n := s.hu.count + 1
    if n = s.hu.tBlank then
      .next (s.setHU { s.hu with count := n, minute := none, blank := true }).recomputeHeads
    else .next (s.setHU { s.hu with count := n, minute := some s.now })
  else .next s

/-- An activity report told to HU: it wakes a blanked desk, or restarts the blank timer where there is one (R163,
R164). -/
def State.activity (s : State) : State :=
  if s.hu.blank then (s.setHU { s.hu with blank := false, count := 0, minute := some s.now }).recomputeHeads
  else if s.hu.tBlank = 0 then s
  else s.setHU { s.hu with count := 0, minute := some s.now }

/-! ### Composition (R157 to R162) -/

/-- The base layer of a pixel: the region pixel where the profile shows the image, else the border (R157, R14). -/
def State.basePixel (s : State) (l : LineLatch) (u : Nat) : Colour :=
  let f := s.hu.profile l.state
  match l.place with
  | none => f.border
  | some p =>
    if f.image && p.ox ≤ u && u < p.ox + p.dw && p.oy ≤ l.line && l.line < p.oy + p.dh then
      s.sr.store.pixel p.region.val (p.k * (u - p.ox)) (p.k * (l.line - p.oy))
    else f.border

/-- Whether the overlay layers are drawn (R158). -/
def HeadState.overlaid : HeadState → Bool
  | .noStream | .active | .stale => true
  | .off | .blank => false

/-- The colour of the focus frame (R160). -/
def HU.frameColour (u : HU) (f : FocusView) : Colour :=
  if f.refused then u.colours.refused
  else
    match f.state with
    | .holding => u.colours.holding
    | .asking => u.colours.asking
    | .queued => u.colours.queued
    | .idle => if f.absent then u.colours.absent else u.colours.idle

/-- Whether a pixel of a w × h head lies in a frame of width `b` (R160). -/
def inFrame (b w h u v : Nat) : Bool := u < b || w ≤ u + b || v < b || h ≤ v + b

/-- The frame layer over a pixel (R160). -/
def State.framePixel (s : State) (h : Fin 4) (l : LineLatch) (u : Nat) (c : Colour) : Colour :=
  match l.focus with
  | none => c
  | some f =>
    let r := s.cp.heads.get h
    if l.state.overlaid && inFrame s.hu.frameWidth r.w r.h u l.line then s.hu.frameColour f else c

/-- Whether the glyph is drawn: always, or while the focus record is not HOLDING or there is none (R162). -/
def Glyph.drawn (g : Glyph) (f : Option FocusView) : Bool :=
  g.always || (match f with
    | none => true
    | some v => v.state ≠ .holding)

/-- The glyph's code on a head pixel, with the pointer at head coordinates (pu, pv); 0 outside the glyph (R161). -/
def Glyph.code (g : Glyph) (pu pv u v : Nat) : BitVec 2 :=
  if pu ≤ u + g.hx && u + g.hx < pu + 16 && pv ≤ v + g.hy && v + g.hy < pv + 16 then
    g.codes.getD (16 * (v + g.hy - pv) + (u + g.hx - pu)) 0
  else 0

/-- A glyph code's effect on a pixel (R161). -/
def Glyph.paint (g : Glyph) (code : BitVec 2) (c : Colour) : Colour :=
  match code.toNat with
  | 0 => c
  | 1 => g.a
  | 2 => g.b
  | _ => ⟨255 - c.r, 255 - c.g, 255 - c.b⟩

/-- The glyph layer over a pixel (R161, R162). -/
def State.glyphPixel (s : State) (l : LineLatch) (u : Nat) (c : Colour) : Colour :=
  match l.pointer with
  | none => c
  | some (pu, pv) =>
    if l.state.overlaid && s.hu.glyph.drawn l.focus then s.hu.glyph.paint (s.hu.glyph.code pu pv u l.line) c else c

/-- Active pixel `u` of the line a head composes: base, focus frame, glyph (R157). -/
def State.composePixel (s : State) (h : Fin 4) (l : LineLatch) (u : Nat) : Colour :=
  s.glyphPixel l u (s.framePixel h l u (s.basePixel l u))

/-! ### The outputs of a head (R151, R155, R156) -/

/-- What a head drives at one pixel of a line. -/
structure HeadPins where
  /-- PCLK runs; while it does not it is low -/
  pclk : Bool
  /-- HSYNC, high is `true` -/
  hsync : Bool
  /-- VSYNC, high is `true` -/
  vsync : Bool
  /-- DE, high is `true` -/
  de : Bool
  /-- D[23:0] as red, green, blue -/
  d : Colour
  deriving DecidableEq, Repr

/-- The level of a sync output: a polarity of 0 makes the pulse high, any other low (R151). -/
def syncLevel (polarity : Nat) (inPulse : Bool) : Bool := if polarity = 0 then inPulse else !inPulse

/-- What a head drives at pixel `p` of its line, counted from the line start: all low while OFF (R156); with sync off
the inactive levels and no data (R155); else the four intervals of R151 (log 26). -/
def State.headPins (s : State) (h : Fin 4) (p : Nat) : HeadPins :=
  let m := s.cp.modeOf h
  let o := s.hu.heads.get h
  match o.latch with
  | none => ⟨false, false, false, false, ⟨0, 0, 0⟩⟩
  | some l =>
    let hPulse := o.syncOn && m.aw + m.hfp ≤ p && p < m.aw + m.hfp + m.hsw
    let vPulse := o.syncOn && m.ah + m.vfp ≤ l.line && l.line < m.ah + m.vfp + m.vsw
    let de := o.syncOn && p < m.aw && l.line < m.ah
    { pclk := true, hsync := syncLevel m.hpol hPulse, vsync := syncLevel m.vpol vPulse, de := de,
      d := if de then s.composePixel h l p else ⟨0, 0, 0⟩ }

end Sys2Proof.Machine
end

