-- ==== Sys2Proof/Machine/Pointer.lean ====
section
/-!
DEFINITION. The pointer path (02): gain, carry, the move with its pushes and crossings, and a mouse report taken whole.
-/

namespace Sys2Proof.Machine

/-! ### Gain and carry (R21, R22) -/

/-- The gain chosen for a report's larger motion (R21). -/
def Gains.choose (g : Gains) (m : Nat) : Nat :=
  if m ≤ g.t1 then g.g0 else if m ≤ g.t2 then g.g1 else if m ≤ g.t3 then g.g2 else g.g3

/-- Whole pixels of a sum of sixteenths, truncated toward zero (R22). -/
def wholePixels (v : Int) : Int := Int.tdiv v 16

/-- The carry left of a sum of sixteenths (R22). -/
def carryLeft (v : Int) : Int := v - 16 * wholePixels v

/-! ### Axes and edges -/

/-- The two axes of the canvas. -/
inductive Axis where
  | x | y
  deriving DecidableEq, Repr

/-- The edge of an axis: the right or bottom one when `high`, else the left or top one (R25). -/
def Axis.edge (a : Axis) (high : Bool) : Edge :=
  match a, high with
  | .x, true => .right
  | .x, false => .left
  | .y, true => .bottom
  | .y, false => .top

/-- Whether an edge belongs to an axis (R24). -/
def Axis.owns (a : Axis) (e : Edge) : Bool := e = a.edge true || e = a.edge false

/-- A head's first coordinate on an axis. -/
def HeadRec.first (r : HeadRec) : Axis → Nat
  | .x => r.cx
  | .y => r.cy

/-- A head's last coordinate on an axis. -/
def HeadRec.last (r : HeadRec) : Axis → Nat
  | .x => r.cx + r.w - 1
  | .y => r.cy + r.h - 1

/-- The pointer's coordinate on an axis. -/
def CP.coord (c : CP) : Axis → Nat
  | .x => c.x
  | .y => c.y

/-- The pointer's coordinate on the other axis, at which a neighbour is looked for (R25). -/
def CP.other (c : CP) : Axis → Nat
  | .x => c.y
  | .y => c.x

/-- The pointer's coordinate on an axis set. -/
def CP.setCoord (c : CP) (a : Axis) (v : Nat) : CP :=
  match a with
  | .x => { c with x := v }
  | .y => { c with y := v }

/-! ### The move (R23 to R28) -/

/-- A push count and edge set, NONE with a count of 0 (R16). -/
def CP.setPush (c : CP) (n : Nat) (e : Option Edge) : CP := { c with push := n, edge := e }

/-- The neighbour to cross to, when crossing at an edge is open (R25). -/
def CP.openTo (c : CP) (h : Fin 4) (e : Edge) (v : Nat) : Option (Fin 4) :=
  if c.confine || c.buttons ≠ 0 then none else c.neighbour h e v

/-- The pointer crosses to head `b` (R26). -/
def CP.cross (c : CP) (b : Fin 4) (a : Axis) (high : Bool) : CP :=
  let r := c.heads.get b
  { (c.setCoord a (if high then r.first a else r.last a)).setPush 0 none with head := some b, carryX := 0, carryY := 0 }

/-- An excess `n` beyond an edge of head `h` (R25, R28), and whether the pointer crossed. -/
def CP.pushAgainst (c : CP) (h : Fin 4) (a : Axis) (high : Bool) (n : Nat) : CP × Bool :=
  let e := a.edge high
  let r := c.heads.get h
  let held := c.setCoord a (if high then r.last a else r.first a)
  match c.openTo h e (c.other a) with
  | none => (held.setPush 0 none, false)
  | some b =>
    let p := (if c.edge = some e then c.push else 0) + n
    if c.resist < p then (c.cross b a high, true) else (held.setPush p (some e), false)

/-- One axis moved by a whole-pixel motion with `h` the pointer head (R23, R24, R25), and whether the pointer crossed. -/
def CP.moveAxis (c : CP) (h : Fin 4) (a : Axis) (whole : Int) : CP × Bool :=
  let r := c.heads.get h
  let v : Int := c.coord a + whole
  if whole = 0 then (c, false)
  else if (r.last a : Int) < v then c.pushAgainst h a true (v - r.last a).toNat
  else if v < r.first a then c.pushAgainst h a false (r.first a - v).toNat
  else
    let moved := c.setCoord a v.toNat
    match c.edge with
    | none => (moved, false)
    | some e => (if a.owns e then moved.setPush 0 none else moved, false)

/-- Gain, carry and move of a report's motion (R21, R22, R23): x first, and y unless x crossed. -/
def CP.move (c : CP) (h : Fin 4) (dx dy : Int) : CP :=
  let g := c.gains.choose (max dx.natAbs dy.natAbs)
  let sx := dx * g + c.carryX
  let sy := dy * g + c.carryY
  let c := { c with carryX := carryLeft sx, carryY := carryLeft sy }
  match c.moveAxis h .x (wholePixels sx) with
  | (c, true) => c
  | (c, false) => (c.moveAxis h .y (wholePixels sy)).1

/-! ### A report taken whole (R17, R18, R19) -/

/-- A port's button state replaced (R18). -/
def CP.setButtons (c : CP) (port : Fin 2) (b : Buttons) : CP := { c with portButtons := c.portButtons.set port b }

/-- The buttons and wheel of a report taken (R18, R19). -/
def State.takeButtons (s : State) (port : Fin 2) (m : MouseMotion) : State :=
  let w := if s.focusHolding then saturate16 (s.cp.wheel + m.wheel) else s.cp.wheel
  s.setCP { s.cp.setButtons port m.buttons with wheel := w }

/-- A report that reaches CP: buttons, wheel, gain, carry and move, the pointer field, and FU's part (R17, R27, R33). -/
def State.takeMotion (s : State) (port : Fin 2) (m : MouseMotion) : State :=
  match s.cp.head with
  | none => s
  | some h =>
    let before := s.cp.focusSource
    let s := s.takeButtons port m
    ((s.setCP (s.cp.move h m.dx m.dy)).recomputeField.focusFrom before).judgeInput

/-- Whether a mouse report is activity (R42). -/
def MouseMotion.isActivity (m : MouseMotion) (previous : Buttons) : Bool :=
  m.dx ≠ 0 || m.dy ≠ 0 || m.wheel ≠ 0 || m.buttons ≠ previous

/-- A port's error count set back to 0 by a successful transfer (R38). -/
def HostPort.answered (p : HostPort) : HostPort := { p with errors := 0 }

/-- A port record replaced. -/
def State.putPort (s : State) (i : Fin 2) (p : HostPort) : State := s.setII { s.ii with ports := s.ii.ports.set i p }

/-- MOUSE_REPORT (R17): a report of a served mouse. A short one is discarded; one that wakes a blanked desk is consumed
(R42). -/
def execMouseReport (port : Fin 2) (report : List Byte) (s : State) : Host.Outcome State Fault Refusal :=
  let p := s.ii.ports.get port
  if p.state = .polling && p.mouse.isSome then
    let s := s.putPort port p.answered
    match mouseMotion report with
    | none => .next s
    | some m =>
      if m.isActivity (s.cp.portButtons.get port) then
        if s.hu.blank then .next s.activity else .next (s.activity.takeMotion port m)
      else .next (s.takeMotion port m)
  else .next s

end Sys2Proof.Machine
end

