-- ==== Sys2Proof/Machine/Reception.lean ====
section
/-!
DEFINITION. Stream reception (09): stream contexts and their regions, sequence checks, repair, FRAME-CLOSE and epochs,
TILE, and liveness.
-/

namespace Sys2Proof.Machine

/-! ### Contexts (R137, R138, R139) -/

/-- A context replaced. -/
def SR.put (r : SR) (c : Ctx) : SR := { r with ctxs := r.ctxs.map fun d => if d.stream = c.stream then c else d }

/-- A context replaced in the part's state. -/
def State.putCtx (s : State) (c : Ctx) : State := s.setSR (s.sr.put c)

/-- The lowest free region (R138). -/
def SR.freeRegion (r : SR) : Option (Fin 4) := headNumbers.find? fun n => !r.ctxs.any fun c => c.region = n

/-- A region of the desk frame store cleared to black (R138). -/
def SR.clear (r : SR) (n : Fin 4) : SR := { r with store := r.store.clearRegion n.val }

/-- A new context (R137). DESIGN CHOICE: R137 gives the item "last FRAME-CLOSE" no value before the first FRAME-CLOSE; it
holds none until then, and no rule reads it before (log 40). -/
def newCtx (x : Stream) (n : Fin 4) : Ctx :=
  { stream := x, region := n, state := .waiting, epoch := none, mode := none, lastSeq := none, lastClose := none,
    stale := none, lost := none, repair := none, owed := false }

/-- A context made: the lowest free region, cleared, and the group subscribed (R138, R139). Four regions serve at most
four streams, so one is free. -/
def State.makeCtx (s : State) (x : Stream) : State :=
  match s.sr.freeRegion with
  | none => s
  | some n =>
    let r := s.sr.clear n
    (s.setSR { r with ctxs := r.ctxs ++ [newCtx x n] }).setFP { s.fp with subs := s.fp.subs ++ [x] }

/-- A context removed: its group unsubscribed, its timers and owed repair gone with it, its region freed (R139). -/
def State.removeCtx (s : State) (x : Stream) : State :=
  (s.setSR { s.sr with ctxs := s.sr.ctxs.filter fun c => c.stream ≠ x }).setFP
    { s.fp with subs := s.fp.subs.filter fun y => y ≠ x }

/-- STREAM-LOST's current bit recomputed (R148). -/
def State.recomputeLost (s : State) : State := s.setCurrent .streamLost (s.sr.ctxs.any fun c => c.state = .lost)

/-- CP and HU told of changed contexts and placement records (R33, R150, R154), and STREAM-LOST recomputed (R148). -/
def State.streamsChanged (s : State) : State := s.recomputeLost.recomputeField.recomputeHeads

/-! ### Repair (R143) -/

/-- A REPAIR-REQUEST handed to class 0 and the repair timer started (R143). -/
def State.requestRepair (s : State) (c : Ctx) : State :=
  (s.hand0 (.repairRequest c.stream.station c.stream.channel)).putCtx { c with repair := some s.now, owed := false }

/-- A repair need in a stream's context (R143). -/
def State.needRepair (s : State) (x : Stream) : State :=
  match s.sr.ctx x with
  | none => s
  | some c =>
    match c.repair with
    | none => s.requestRepair c
    | some _ => s.putCtx { c with owed := true }

/-! ### Sequence (R141, R142) -/

/-- What the sequence check finds: none for an old message, else whether a repair need arises (R141, R142). -/
def Ctx.checkSeq (c : Ctx) (seq : BitVec 16) : Option Bool :=
  match c.lastSeq with
  | none => some false
  | some l =>
    if forward l seq = 1 then some false
    else if newer l seq then some true
    else
      match c.state with
      | .live => none
      | .waiting => some false
      | .stale | .lost => some true

/-- Steps 1 and 2 of R140: none when the message is discarded as old, or its stream has no context. -/
def State.takeSeq (s : State) (x : Stream) (seq : BitVec 16) : Option State :=
  match s.sr.ctx x with
  | none => none
  | some c =>
    match c.checkSeq seq with
    | none => none
    | some need =>
      let s := s.putCtx { c with lastSeq := some seq }
      some (if need then s.needRepair x else s)

/-! ### FRAME-CLOSE (R144, R145, R147) -/

/-- A FRAME-CLOSE's content. -/
structure CloseContent where
  /-- epoch -/
  epoch : Byte
  /-- mode -/
  mode : Size
  /-- dirty count -/
  dirty : Nat
  deriving DecidableEq, Repr

/-- A FRAME-CLOSE read from its payload (13). -/
def readClose (p : List Byte) : CloseContent := ⟨p.getD 4 0, ⟨word16 p 5, word16 p 7⟩, word16 p 9⟩

/-- The check of a FRAME-CLOSE against itself (R144). -/
def CloseContent.ok (f : CloseContent) : Bool :=
  640 ≤ f.mode.w && f.mode.w ≤ 2560 && 480 ≤ f.mode.h && f.mode.h ≤ 1600
    && f.dirty ≤ tilesAlong f.mode.w * tilesAlong f.mode.h

/-- The context takes a new epoch: its mode, a region cleared to black, its heads' placement records, and a repair need
(R145). -/
def State.takeEpoch (s : State) (c : Ctx) (f : CloseContent) : State :=
  let s := s.putCtx { c with epoch := some f.epoch, mode := some f.mode }
  ((s.setSR (s.sr.clear c.region)).placeStream c.stream).needRepair c.stream

/-- A FRAME-CLOSE taken for liveness: LIVE, its timers started again; a return from LOST needs repair (R147). -/
def State.closeLive (s : State) (x : Stream) : State :=
  match s.sr.ctx x with
  | none => s
  | some c =>
    let s := s.putCtx { c with
      state := .live, lastClose := some s.now, stale := some s.now, lost := some s.now }
    if c.state = .lost then s.needRepair x else s

/-- A FRAME-CLOSE whose sequence has been taken (R144, R145, R147). -/
def State.takeClose (s : State) (x : Stream) (f : CloseContent) : State :=
  if f.ok then
    match s.sr.ctx x with
    | none => s
    | some c =>
      let s := if c.epoch = some f.epoch && c.mode = some f.mode then s else s.takeEpoch c f
      (s.closeLive x).streamsChanged
  else s.latch .malformed

/-! ### TILE (R146) -/

/-- `n` colours from a list of bytes. -/
def readColours (l : List Byte) (n : Nat) : List Colour := (List.range n).map fun i => colourAt l (3 * i)

/-- The pixels of a tile of `n` pixels in scan order; none when a FEW index names no entry of its palette (R146). -/
def decodePixels (c : Coding) (payload : List Byte) (n : Nat) : Option (List Colour) :=
  match c with
  | .fill => some (List.replicate n (colourAt payload 0))
  | .raw => some (readColours payload n)
  | .few k =>
    let pal := readColours payload k
    let idx := (unpack2 (payload.drop (3 * k))).take n
    if idx.all (fun i => i.toNat < k) then some (idx.map fun i => pal.getD i.toNat ⟨0, 0, 0⟩) else none

/-- A TILE of the current epoch decoded: its pixels, none when it is malformed (R146, step 3). -/
def decodeTile (z : Size) (p : List Byte) : Option (List Colour) :=
  let t : Tile := ⟨byteAt p 2, byteAt p 3⟩
  let d := tileSize z t
  if t.col < tilesAlong z.w && t.row < tilesAlong z.h then
    match codingOf (p.getD 1 0) with
    | none => none
    | some c => if p.length - 8 = c.payloadLength d.w d.h then decodePixels c (p.drop 8) (d.w * d.h) else none
  else none

/-- A tile's pixels written row by row into a region, `w` pixels a row (R146, step 4). -/
def Memory.setTile (m : Memory) (region : Nat) (t : Tile) (w h : Nat) (px : List Colour) : Memory :=
  (List.range h).foldl
    (fun m i => m.setRow region (16 * t.col) (16 * t.row + i) ((px.drop (i * w)).take w)) m

/-- A TILE whose sequence has been taken (R146). -/
def State.takeTile (s : State) (x : Stream) (p : List Byte) : State :=
  match s.sr.ctx x with
  | none => s
  | some c =>
    match c.mode with
    | none => s
    | some z =>
      if c.epoch = some (p.getD 0 0) then
        match decodeTile z p with
        | none => (s.latch .malformed).needRepair x
        | some px =>
          let t : Tile := ⟨byteAt p 2, byteAt p 3⟩
          s.setSR { s.sr with
            store := s.sr.store.setTile c.region.val t (tileSize z t).w (tileSize z t).h px }
      else s

/-! ### Taking a message (R140) -/

/-- The stream of a TILE or FRAME-CLOSE. -/
def RxMsg.stream (m : RxMsg) : Stream := ⟨m.sender, m.channel⟩

/-- A TILE taken whole (R140). -/
def State.tile (s : State) (m : RxMsg) : State :=
  match s.takeSeq m.stream m.seq with
  | none => s
  | some s => s.takeTile m.stream m.payload

/-- A FRAME-CLOSE taken whole (R140). -/
def State.close (s : State) (m : RxMsg) : State :=
  match s.takeSeq m.stream m.seq with
  | none => s
  | some s => s.takeClose m.stream (readClose m.payload)

/-- TILE_TAKEN (R146). -/
def execTileTaken (s : State) : Host.Outcome State Fault Refusal :=
  if s.servingAs .desk then
    match s.take .sr .tile with
    | none => .next s
    | some (m, s) => .next (s.tile m)
  else .next s

/-- FRAME_CLOSE_TAKEN (R147). -/
def execFrameCloseTaken (s : State) : Host.Outcome State Fault Refusal :=
  if s.servingAs .desk then
    match s.take .sr .frameClose with
    | none => .next s
    | some (m, s) => .next (s.close m).judgeInput
  else .next s

/-! ### Liveness (R147, R148, R149) -/

/-- A context as a PRESENCE of its source leaves it: LIVE becomes STALE when its channel is reported in a state other
than LOCKED (R149). -/
def Ctx.heard (c : Ctx) (sender : Nat) (p : List Byte) : Ctx :=
  if c.stream.station = sender && c.state = .live && presenceChannelState p c.stream.channel ≠ 2 then
    { c with state := .stale }
  else c

/-- A PRESENCE of a source taken against the contexts of its streams (R149). -/
def State.hearSource (s : State) (m : RxMsg) : State :=
  (s.setSR { s.sr with ctxs := s.sr.ctxs.map fun c => c.heard m.sender m.payload }).streamsChanged

/-- PRESENCE_TAKEN_BY_SR (R149). -/
def execPresenceTakenBySr (s : State) : Host.Outcome State Fault Refusal :=
  if s.servingAs .desk then
    match s.take .sr .presence with
    | none => .next s
    | some (m, s) => .next (s.hearSource m).judgeInput
  else .next s

/-- STALE_TIMER_EXPIRY (R147): a LIVE context enters STALE. -/
def execStaleTimerExpiry (x : Stream) (s : State) : Host.Outcome State Fault Refusal :=
  match s.sr.ctx x with
  | none => .next s
  | some c =>
    if timerDue s.now c.stale Config.staleUs then
      .next (s.putCtx { c with
        stale := none, state := if c.state = .live then .stale else c.state }).streamsChanged.judgeInput
    else .next s

/-- LOST_TIMER_EXPIRY (R147, R148): a STALE context enters LOST, its region is cleared and STREAM-LOST is set. -/
def execLostTimerExpiry (x : Stream) (s : State) : Host.Outcome State Fault Refusal :=
  match s.sr.ctx x with
  | none => .next s
  | some c =>
    if timerDue s.now c.lost Config.lostUs && c.state = .stale then
      let s := s.putCtx { c with lost := none, state := .lost }
      .next ((s.setSR (s.sr.clear c.region)).raise .streamLost).streamsChanged.judgeInput
    else .next s

/-- REPAIR_TIMER_EXPIRY (R143): an owed repair is asked for and the timer starts again; else it stops. -/
def execRepairTimerExpiry (x : Stream) (s : State) : Host.Outcome State Fault Refusal :=
  match s.sr.ctx x with
  | none => .next s
  | some c =>
    if timerDue s.now c.repair Config.repairUs then
      if c.owed then .next (s.requestRepair c) else .next (s.putCtx { c with repair := none })
    else .next s

/-! ### Layout changes (R10, R11, R139) -/

/-- A message taken by SR (R140, R149). -/
def State.takeBySr (s : State) (m : RxMsg) : State :=
  match m.kind with
  | .tile => s.tile m
  | .frameClose => s.close m
  | .presence => s.hearSource m
  | _ => s

/-- Whether an entry of the buffer is a TILE or FRAME-CLOSE of one of some streams. -/
def RxEntry.isOf (e : RxEntry) (l : List Stream) : Bool :=
  (e.msg.kind = .tile || e.msg.kind = .frameClose) && l.contains e.msg.stream

/-- The entries of a buffer up to and with the last one of some streams. -/
def upToLastOf (l : List Stream) : List RxEntry → List RxEntry
  | [] => []
  | e :: r => if e.isOf l || r.any (fun d => d.isOf l) then e :: upToLastOf l r else []

/-- The entries of a buffer behind the last one of some streams. -/
def behindLastOf (l : List Stream) : List RxEntry → List RxEntry
  | [] => []
  | e :: r => if e.isOf l || r.any (fun d => d.isOf l) then behindLastOf l r else e :: r

/-- The messages of removed streams that passed the filter are taken first by the contexts they were meant for (R139).
SR takes its messages in the order in which FP accepted them (R171), so it takes every message it has yet to take up to
the last one of a removed stream (log 19). -/
def State.drainStreams (s : State) (l : List Stream) : State :=
  let first := upToLastOf l s.fp.rx
  let s := s.setFP { s.fp with rx := first.filterMap (fun e => e.without .sr) ++ behindLastOf l s.fp.rx }
  (first.filter fun e => e.takers.contains .sr).foldl (fun s e => s.takeBySr e.msg) s

/-- SR's part of a layout change, the new layout being in effect: contexts of removed streams go, new streams get
contexts in the layout's order, and every placement record is recomputed (R10, R15). -/
def State.updateCtxs (s : State) (removed : List Stream) : State :=
  let s := removed.foldl State.removeCtx s
  let new := s.cp.streams.filter fun x => (s.sr.ctx x).isNone
  (new.foldl State.makeCtx s).placeAll.recomputeLost

end Sys2Proof.Machine
end

