-- ==== Sys2Proof/Machine/Keys.lean ====
section
/-!
DEFINITION. Keys, lamps and hotkeys (03): the host ports, keyboard reports, the raw and passed snapshots, the hotkey
machine and its commands, layout selection (R9, R10), and lamp reports.
-/

namespace Sys2Proof.Machine

/-! ### Layout selection (R9, R10) -/

/-- A layout change (R10): streams, records and placement for the new layout, then a focus change where the focus
source differs, the pointer field, the head states, and a PRESENCE out of cycle. -/
def State.changeLayout (s : State) (n : Nat) : State :=
  let before := s.cp.focusSource
  let target := { s.cp with layout := n }
  let removed := (s.sr.ctxs.map Ctx.stream).filter fun x => !target.streams.contains x
  let s := s.drainStreams removed
  let s := ((s.setCP { s.cp with layout := n }).updateCtxs removed).updateRecords
  ((s.focusFrom before).recomputeField.recomputeHeads).askPresence

/-- A selection of a layout: the current one is no change (R9). -/
def State.selectLayout (s : State) (n : Nat) : State := if n = s.cp.layout then s else s.changeLayout n

/-! ### Commands (R47, R48) -/

/-- The hotkey commands (R47). -/
inductive Command where
  | select (layout : Nat)
  | request
  | release
  | acknowledge
  | confine
  /-- Escape, or any other key -/
  | leave
  deriving DecidableEq, Repr

/-- The command of a key code (R47). -/
def commandOf (k : Byte) : Command :=
  let n := k.toNat
  if 0x1E ≤ n && n ≤ 0x25 then .select (n - 0x1D)
  else if 0x59 ≤ n && n ≤ 0x60 then .select (n - 0x58)
  else if n = 0x09 then .request
  else if n = 0x15 then .release
  else if n = 0x04 then .acknowledge
  else if n = 0x06 then .confine
  else .leave

/-- ATTN-CLEAR to the focus source, when its record is HOLDING (R48). -/
def State.sendAttnClear (s : State) : State :=
  match s.focusRecord with
  | none => s
  | some r => if r.state = .holding then s.hand0 (.attnClear r.station) else s

/-- A command carried out (R48). An A command acknowledges before its ATTN-CLEAR is handed on, so a TX-DROP latched by
that ATTN-CLEAR at a full class 0 stays latched: R48 and R188 leave the order open (log 39). -/
def State.command (s : State) (c : Command) : State :=
  match c with
  | .select n => s.selectLayout n
  | .request =>
    match s.cp.focusSource with
    | none => s
    | some p => s.requestSource p
  | .release =>
    match s.cp.focusSource with
    | none => s
    | some p => s.releaseSource p
  | .acknowledge => (s.setSA s.sa.acknowledge).sendAttnClear
  | .confine => s.setCP { s.cp with confine := !s.cp.confine }
  | .leave => s

/-! ### The hotkey machine (R43 to R47) -/

/-- A change of the raw snapshot as the hotkey machine sees it. -/
structure RawChange where
  /-- the previous raw snapshot -/
  old : Snapshot
  /-- the new one, without the presses of a report consumed on blanking wake (R43; log 18) -/
  new : Snapshot
  deriving DecidableEq, Repr

/-- What a change newly presses (R41). -/
def RawChange.pressed (c : RawChange) : Snapshot := c.new.minus c.old

/-- A lead tap completes (R43). -/
def RawChange.completesTap (c : RawChange) (tap : Bool) : Bool := c.new = .released && tap

/-- The tap flag after a change (R43). -/
def RawChange.tapAfter (c : RawChange) (lead : Lead) (tap : Bool) : Bool :=
  if c.completesTap tap then false
  else if c.new.minus lead.alone ≠ .released then false
  else tap || (c.old = .released && c.new = lead.alone)

/-- The lowest key code newly pressed, when there is one (R47). -/
def RawChange.commandKey (c : RawChange) : Option Byte := c.pressed.keys.head?

/-- The hotkey machine after a change, its tap flag and timers set (R44, R45, R46, R47). -/
def II.hotkeyAfter (i : II) (c : RawChange) (now : Time) : II :=
  let j := { i with tap := c.tapAfter i.lead i.tap }
  match i.hotkey with
  | .normal => if c.completesTap i.tap then { j with hotkey := .leadSeen, leadSeen := some now } else j
  | .leadSeen =>
    if c.completesTap i.tap then { j with hotkey := .command, leadSeen := none, command := some now }
    else if c.pressed.minus i.lead.alone ≠ .released then { j with hotkey := .normal, leadSeen := none }
    else j
  | .command =>
    match c.commandKey with
    | none => j
    | some _ => { j with hotkey := .normal, command := none }

/-- The command a change takes in COMMAND (R47). -/
def II.commandTaken (i : II) (c : RawChange) : Option Command :=
  if i.hotkey = .command then c.commandKey.map commandOf else none

/-- Whether a change enters COMMAND (R46). -/
def II.entersCommand (i : II) (c : RawChange) : Bool := i.hotkey = .leadSeen && c.completesTap i.tap

/-! ### The raw and passed snapshots (R40, R41) -/

/-- The union of the ports' keyboard states (R40). -/
def II.unionKeys (i : II) : Snapshot := i.ports.zero.keys.union i.ports.one.keys

/-- II with the raw snapshot recomputed and the suppressed set brought up to date: in COMMAND, or with a report consumed
on blanking wake, newly pressed items join it, and released ones leave (R41, R42). -/
def II.takeRaw (i : II) (new : Snapshot) (consumed : Bool) : II :=
  let joined := if i.hotkey = .command || consumed then i.suppressed.union (new.minus i.raw) else i.suppressed
  { i with raw := new, suppressed := joined.inter new }

/-- The passed form (R41). -/
def II.passedForm (i : II) : Snapshot := i.raw.minus i.suppressed

/-- In NORMAL and LEAD-SEEN a changed passed form is handed to FU (R41). -/
def State.handPassed (s : State) : State :=
  if s.ii.hotkey ≠ .command && s.ii.passedForm ≠ s.ii.passed then
    (s.setII { s.ii with passed := s.ii.passedForm }).offerSnapshot s.ii.passedForm
  else s

/-- The raw snapshot recomputed after a port's keyboard state changed (R40): the passed form is handed on, the hotkey
machine takes the change, and a command it names is carried out. -/
def State.rawChanged (s : State) (consumed : Bool) : State :=
  let new := s.ii.unionKeys
  if new = s.ii.raw then s
  else
    let c : RawChange := ⟨s.ii.raw, if consumed then new.inter s.ii.raw else new⟩
    let s := (s.setII (s.ii.takeRaw new consumed)).handPassed
    let i := s.ii
    let s := s.setII (i.hotkeyAfter c s.now)
    let s := if i.entersCommand c then s.offerSnapshot .released else s
    match i.commandTaken c with
    | none => s
    | some k => s.command k

/-! ### Keyboard reports (R39, R40, R42) -/

/-- Whether a report is taken as a rollover report: it is one (R39), or the union would hold 7 or more codes (R40). -/
def II.rollsOver (i : II) (port : Fin 2) (b : List Byte) : Bool :=
  isRollover b
    || Config.snapshotKeysMax < ((reportSnapshot b).union (i.ports.get (1 - port)).keys).keys.length

/-- A report of eight bytes taken into its port: kept as the last report, and, unless a rollover report, its state
(R39). -/
def State.takeKeys (s : State) (port : Fin 2) (b : List Byte) : State :=
  let p := s.ii.ports.get port
  s.putPort port { p with
    lastReport := some b
    keys := if s.ii.rollsOver port b then p.keys else reportSnapshot b }

/-- KEYBOARD_REPORT (R39): a report of a served keyboard; a short one changes nothing but the error count (R38). -/
def execKeyboardReport (port : Fin 2) (report : List Byte) (s : State) : Host.Outcome State Fault Refusal :=
  let p := s.ii.ports.get port
  if p.state = .polling && p.keyboard.isSome then
    let s := s.putPort port p.answered
    match keyboardBytes report with
    | none => .next s
    | some b =>
      if p.lastReport = some b then .next ((s.takeKeys port b).rawChanged false).judgeInput
      else .next ((s.activity.takeKeys port b).rawChanged s.hu.blank).judgeInput
  else .next s

/-- LEAD_SEEN_TIMER_EXPIRY (R45): the machine returns to NORMAL, and the tap flag is kept. -/
def execLeadSeenTimerExpiry (s : State) : Host.Outcome State Fault Refusal :=
  if timerDue s.now s.ii.leadSeen Config.leadSeenUs then
    .next (s.setII { s.ii with hotkey := .normal, leadSeen := none })
  else .next s

/-- COMMAND_TIMER_EXPIRY (R46): the machine returns to NORMAL, and no command is taken. -/
def execCommandTimerExpiry (s : State) : Host.Outcome State Fault Refusal :=
  if timerDue s.now s.ii.command Config.commandUs then
    .next (s.setII { s.ii with hotkey := .normal, command := none })
  else .next s

/-! ### Host ports (R35 to R38) -/

/-- DEVICE-UNSUPPORTED's current bit recomputed (R37). -/
def State.recomputeDevices (s : State) : State :=
  s.setCurrent .deviceUnsupported (s.ii.ports.zero.state = .unsupported || s.ii.ports.one.state = .unsupported)

/-- What a disconnection and a port reset both do to a port's record (R35, R38). -/
def HostPort.cleared (p : HostPort) (st : HostState) : HostPort :=
  { p with
    state := st, keys := .released, lastReport := none, lampsSent := none, lampFlight := none, lampRetry := none,
    errors := 0, attempts := 0 }

/-- A port's record cleared: its keys are released (R40, R41), its mouse's buttons emptied and the pointer field
recomputed (R18, R33). -/
def State.clearPort (s : State) (port : Fin 2) (p : HostPort) : State :=
  let s := (s.putPort port p).setCP (s.cp.setButtons port 0)
  (s.recomputeField.rawChanged false).recomputeDevices.judgeInput

/-- HOST_DEVICE_CONNECT (R35). -/
def execHostDeviceConnect (port : Fin 2) (s : State) : Host.Outcome State Fault Refusal :=
  let p := s.ii.ports.get port
  if p.state = .detached then .next (s.putPort port { p with state := .enumerating }) else .next s

/-- HOST_DEVICE_DISCONNECT (R35). -/
def execHostDeviceDisconnect (port : Fin 2) (s : State) : Host.Outcome State Fault Refusal :=
  let p := s.ii.ports.get port
  if p.state = .off || p.state = .detached then .next s
  else .next (s.clearPort port { p.cleared .detached with keyboard := none, mouse := none })

/-- A port enters UNSUPPORTED (R37). -/
def State.unsupportedPort (s : State) (port : Fin 2) (p : HostPort) : State :=
  (s.putPort port { p with state := .unsupported }).raise .deviceUnsupported

/-- The first interface of a kind in a device's description, with its place and poll interval (R36). -/
def servedOf (k : IfaceKind) (place : Nat) : List Interface → Option Served
  | [] => none
  | i :: r => if i.kind = k then some ⟨place, i.interval⟩ else servedOf k (place + 1) r

/-- ENUMERATION_COMPLETE (R36, R37): POLLING with the interfaces found served, or UNSUPPORTED when there is none. -/
def execEnumerationComplete (port : Fin 2) (l : List Interface) (s : State) : Host.Outcome State Fault Refusal :=
  let p := s.ii.ports.get port
  if p.state = .enumerating then
    let p := { p with keyboard := servedOf .bootKeyboard 0 l, mouse := servedOf .bootMouse 0 l }
    if p.keyboard.isNone && p.mouse.isNone then .next (s.unsupportedPort port p)
    else .next (s.putPort port (HostPort.offerLamps { p with state := .polling, lampsSent := none } s.ii.shown))
  else .next s

/-- A failed enumeration: a third one moves the port to UNSUPPORTED (R36). -/
def State.enumerationFails (s : State) (port : Fin 2) : State :=
  let p := s.ii.ports.get port
  let p := { p with attempts := p.attempts + 1 }
  if 3 ≤ p.attempts then s.unsupportedPort port p else s.putPort port p

/-- ENUMERATION_FAILURE (R36). -/
def execEnumerationFailure (port : Fin 2) (s : State) : Host.Outcome State Fault Refusal :=
  if (s.ii.ports.get port).state = .enumerating then .next (s.enumerationFails port) else .next s

/-- Whether II makes a transfer on a port: a poll of an interface served, or the lamp report in flight (R36, R50). -/
def HostPort.makes (p : HostPort) (t : Transfer) : Bool :=
  p.state = .polling && (match t with
    | .keyboardPoll => p.keyboard.isSome
    | .mousePoll => p.mouse.isSome
    | .lampReport => p.lampFlight.isSome)

/-- A port after a failed transfer: the error count rises, and a failed lamp report waits to be sent again (R38, R50). -/
def HostPort.failed (p : HostPort) (t : Transfer) (now : Time) : HostPort :=
  let p := { p with errors := p.errors + 1 }
  if t = .lampReport then { p with lampFlight := none, lampRetry := some now } else p

/-- A failed transfer of a POLLING port: at the third in a row II resets the port (R38; log 29). -/
def State.transferFails (s : State) (port : Fin 2) (t : Transfer) : State :=
  let p := (s.ii.ports.get port).failed t s.now
  if 3 ≤ p.errors then s.clearPort port (p.cleared .enumerating) else s.putPort port p

/-- TRANSFER_UNANSWERED (R36): a failed enumeration, or a failed transfer (R38). -/
def execTransferUnanswered (port : Fin 2) (t : Transfer) (s : State) : Host.Outcome State Fault Refusal :=
  let p := s.ii.ports.get port
  if p.state = .enumerating then .next (s.enumerationFails port)
  else if p.makes t then .next (s.transferFails port t)
  else .next s

/-- POLL_TRANSFER_FAILURE (R38). -/
def execPollTransferFailure (port : Fin 2) (t : Transfer) (s : State) : Host.Outcome State Fault Refusal :=
  if (s.ii.ports.get port).makes t then .next (s.transferFails port t) else .next s

/-- POLL_ANSWERED_WITH_NO_DATA (R38): a successful transfer. -/
def execPollAnsweredWithNoData (port : Fin 2) (t : Transfer) (s : State) : Host.Outcome State Fault Refusal :=
  let p := s.ii.ports.get port
  if p.makes t && t ≠ .lampReport then .next (s.putPort port p.answered) else .next s

/-! ### Lamp reports (R50) -/

/-- LAMP_REPORT_COMPLETE (R50): lamps sent takes the value sent, and the shown value is compared again. -/
def execLampReportComplete (port : Fin 2) (s : State) : Host.Outcome State Fault Refusal :=
  let p := s.ii.ports.get port
  match p.lampFlight with
  | none => .next s
  | some v =>
    .next (s.putPort port
      (HostPort.offerLamps { p.answered with lampsSent := some v, lampFlight := none } s.ii.shown))

/-- LAMP_RETRY_EXPIRY (R50): the report is sent again with the shown value as it stands, while the port is POLLING. -/
def execLampRetryExpiry (port : Fin 2) (s : State) : Host.Outcome State Fault Refusal :=
  let p := s.ii.ports.get port
  if timerDue s.now p.lampRetry Config.lampRetryUs then
    if p.state = .polling && p.keyboard.isSome then
      .next (s.putPort port { p with lampRetry := none, lampFlight := some s.ii.shown })
    else .next (s.putPort port { p with lampRetry := none })
  else .next s

end Sys2Proof.Machine
end

