-- ==== Sys2Proof/Machine/Fabric.lean ====
section
/-!
DEFINITION. The room fabric (11): frames received, checked and routed to their owners, the transmit arbiter, and
PRESENCE.
-/

namespace Sys2Proof.Machine

/-! ### Receiving (R168 to R172) -/

/-- The blocks a PRESENCE from another station is handed to (R171). -/
def State.presenceTakers (s : State) (m : RxMsg) : List Taker :=
  match s.role, m.role with
  | .source, .desk => [.ca]
  | .desk, .source =>
    (if s.fu.records.any fun r => r.station = m.sender then [.fu] else [])
      ++ (if s.sr.ctxs.any fun c => c.stream.station = m.sender then [.sr] else [])
  | _, _ => []

/-- The blocks a message is handed to (R167, R171). -/
def State.takersOf (s : State) (m : RxMsg) : List Taker :=
  match m.kind with
  | .presence => s.presenceTakers m
  | k => k.takers s.role

/-- A message that passed R169 and fits is clash-checked, and from SERVING on handed to its owners: it is held until
they take it, or discarded when it has none (R166, R170, R171). PU checks a PRESENCE's content first (R190; log 12). -/
def State.accept (s : State) (m : RxMsg) : State :=
  if m.kind = .presence && m.sender = s.fp.own then
    let s := s.latch .stationClash
    if s.sa.start = .listening then s.enterHalted else s
  else if s.sa.start ≠ .serving then s
  else if m.kind = .presence && !presenceOk m.role m.payload then s.latch .malformed
  else
    let t := s.takersOf m
    if t.isEmpty then s else s.setFP { s.fp with rx := s.fp.rx ++ [⟨m, t⟩] }

/-- FRAME_RECEIVED (R168): checked as a frame, then as a room message (R169), then against the room in the receive
buffer (R172; log 13). -/
def execFrameReceived (fcsRight : Bool) (frame : List Byte) (s : State) : Host.Outcome State Fault Refusal :=
  if s.fp.started && s.fp.linkUp && framePasses s.fp.own s.fp.typeCode s.fp.subs fcsRight frame then
    match readEnvelope s.fp.own frame with
    | none => .next (s.latch .malformed)
    | some m =>
      if s.fp.rxHeld + m.size ≤ Config.rxBytes then .next (s.accept m) else .next (s.latch .rxOverflow)
  else .next s

/-! ### PRESENCE (R175, R176) -/

/-- PRESENCE_TIMER_EXPIRY (R175). -/
def execPresenceTimerExpiry (s : State) : Host.Outcome State Fault Refusal :=
  if timerDue s.now s.pu.timer Config.presenceUs then .next s.askPresence else .next s

/-- The stage byte (13). -/
def SA.stageByte (a : SA) : Byte :=
  byteOf ((if a.imageOk then 1 else 0) + (if a.fabricUp then 2 else 0) + (if a.serving then 4 else 0))

/-- A stream's three bytes in a PRESENCE (13). -/
def streamPlace (x : Stream) : List Byte := bytes16 x.station ++ [byteOf x.channel.val]

/-- The streams of the contexts in region order (R176). -/
def SR.inRegionOrder (r : SR) : List Stream :=
  headNumbers.flatMap fun n => (r.ctxs.filter fun c => c.region = n).map Ctx.stream

/-- The code of a channel's state (13). -/
def ChannelState.code : ChannelState → Nat
  | .noSignal => 0
  | .measuring => 1
  | .locked => 2
  | .unsupported => 3

/-- A channel's five bytes in a PRESENCE: its state, and the locked mode's size when LOCKED, the reference's when
UNSUPPORTED (R109, 13). -/
def Channel.presenceBytes (c : Channel) : List Byte :=
  let m := match c.state with
    | .locked => c.mode
    | .unsupported => c.ref
    | _ => none
  byteOf c.state.code :: (match m with
    | none => zeros 4
    | some m => bytes16 m.w ++ bytes16 m.h)

/-- The holder's three bytes in a PRESENCE (13). -/
def CA.holderBytes (c : CA) : List Byte :=
  match c.slot with
  | none => zeros 3
  | some h => bytes16 h.desk ++ [h.id]

/-- A PRESENCE's payload from the state its owners hold (R176, R90). -/
def State.presencePayload (s : State) : List Byte :=
  bytes16 s.sa.current.toNat ++ bytes16 s.sa.latched.toNat ++ [s.sa.stageByte] ++
    (match s.role with
      | .desk =>
        let l := s.sr.inRegionOrder
        [byteOf s.cp.layout, byteOf l.length] ++ padTo 12 (l.flatMap streamPlace)
      | .source =>
        s.cu.ch.zero.presenceBytes ++ s.cu.ch.one.presenceBytes ++ s.ca.holderBytes
          ++ [byteOf s.ca.wait.length] ++ padTo 8 (s.ca.wait.flatMap fun e => bytes16 e.desk)
          ++ [byteOf s.ca.viewers.length])

/-! ### The transmit arbiter (R174) -/

/-- The kind, target, channel and payload of a message of class 0 (R167, 13). -/
def Out0.parts : Out0 → Kind × Nat × Fin 2 × List Byte
  | .repairRequest t c => (.repairRequest, t, c, [])
  | .controlRequest t i w => (.controlRequest, t, 0, [i, w.setWidth 8])
  | .controlVerdict t v i => (.controlVerdict, t, 0, verdictBytes v i)
  | .controlRelease t i => (.controlRelease, t, 0, [i])
  | .controlWithdrawn t r i => (.controlWithdrawn, t, 0, [byteOf r.code, i])
  | .lamps t l => (.lamps, t, 0, [l.setWidth 8])
  | .attnClear t => (.attnClear, t, 0, [])

/-- The frame on the port set: a message to a destination (R167, 13). -/
def State.sendFrame (s : State) (dest : List Byte) (k : Kind) (target : Nat) (c : Fin 2) (seq : Nat)
    (payload : List Byte) : State :=
  s.setFP { s.fp with
    sending := some (buildFrame s.fp.own s.fp.typeCode s.role dest k target c seq payload) }

/-- A message of class 0 put on the port, addressed to its station. -/
def State.send0 (s : State) (m : Out0) : State :=
  match m.parts with
  | (k, t, c, p) => s.sendFrame (endpointAddress t) k t c 0 p

/-- An INPUT put on the port with its record's sequence (R167, R68). -/
def State.send1 (s : State) (m : OutInput) : State :=
  s.sendFrame (endpointAddress m.target) .input m.target 0 m.seq.toNat (inputBytes m)

/-- The message sequence of a channel's stream increased by 1 (R133). -/
def State.nextSeq (s : State) (c : Fin 2) : State :=
  s.setTsChannel c { s.ts.ch.get c with seq := (s.ts.ch.get c).seq + 1 }

/-- A message of a stream put on the port with the stream's next sequence (R133, R174). -/
def State.sendStream (s : State) (c : Fin 2) (k : Kind) (payload : List Byte) : State :=
  let s := s.nextSeq c
  s.sendFrame (streamAddress ⟨s.fp.own, c⟩) k 0 c (s.ts.ch.get c).seq.toNat payload

/-- An entry of class 2 put on the port: a PRESENCE is built as the state stands, and SA then clears the pulse
conditions it carried (R174, R176, R186). -/
def State.send2 (s : State) (m : Out2) : State :=
  match m with
  | .presence =>
    let s := s.sendFrame allAddress .presence 0 0 0 s.presencePayload
    s.setSA s.sa.clearPulses
  | .frameClose c f e z d => s.sendStream c .frameClose (frameCloseBytes f e z d)

/-- The oldest entry of the lowest-numbered class that is not empty, out of its class and on the port (R174). -/
def State.arbiterTake (s : State) : State :=
  match s.fp.class0, s.fp.class1, s.fp.class2, s.fp.class3 with
  | m :: r, _, _, _ => (s.setFP { s.fp with class0 := r }).send0 m
  | [], m :: r, _, _ => (s.setFP { s.fp with class1 := r }).send1 m
  | [], [], m :: r, _ => (s.setFP { s.fp with class2 := r }).send2 m
  | [], [], [], some t => (s.setFP { s.fp with class3 := none }).sendStream t.channel .tile (tileBytes t)
  | [], [], [], none => s

/-- At a desk, FU judges its INPUT anew (R61, R67). -/
def State.judgeAtDesk (s : State) : State := if s.servingAs .desk then s.judgeInput else s

/-- TRANSMIT_ARBITER_TAKE (R174): while the link is UP; the port is free when the command is given (log 23). Room that
appears in class 1 is met by FU (R61, R67). -/
def execTransmitArbiterTake (s : State) : Host.Outcome State Fault Refusal :=
  if s.fp.linkUp then .next s.arbiterTake.judgeAtDesk else .next s

end Sys2Proof.Machine
end

