-- ==== Sys2Proof/Machine/Start.lean ====
section
/-!
DEFINITION. Start-up (12): reset, reading and checking the configuration image (13, R191), acceptance and refusal, the
link, the listen, and what each role begins at SERVING.
-/

namespace Sys2Proof.Machine

/-- RESET (R179): every block in its reset state, and the role of the strap; the level of VBUS_SENSE is outside the part
and stays (log 10), and so does the queue of commands. -/
def execReset (strap : Role) (s : State) : Host.Outcome State Fault Refusal :=
  .next { State.reset with
    pending := s.pending, role := strap, wp := { WP.reset with vbus := s.wp.vbus } }

/-! ### Reading the flash (R180) -/

/-- The first `n` bytes of the flash; beyond what was read it reads as all ones (R180). -/
def flashBytes (flash : List Byte) (n : Nat) : List Byte :=
  flash.take n ++ List.replicate (n - flash.length) 0xFF

/-- A role's code in the image header (13). -/
def roleCode : Role → Nat
  | .desk => 0
  | .source => 1

/-- The length of a role's image body (13). -/
def bodyBytes : Role → Nat
  | .desk => Config.deskBodyBytes
  | .source => Config.sourceBodyBytes

/-- The image body of a flash that passes the header and CRC checks for a role; none when one of them fails (R180). -/
def imageBody (r : Role) (flash : List Byte) : Option (List Byte) :=
  let f := flashBytes flash (12 + bodyBytes r)
  let body := f.drop 12
  if word32 f 0 = Config.imageMagic && byteAt f 4 = roleCode r && word16 f 6 = bodyBytes r
    && (crc32 body).toNat = word32 f 8
  then some body else none

/-! ### Fields of both roles (R166, R186) -/

/-- The own station number and fabric type code are in range (R166). -/
def commonOk (b : List Byte) : Bool := 1 ≤ word16 b 0 && word16 b 0 ≤ 1023 && 0x0600 ≤ word16 b 2

/-! ### Mode entries and heads (R2, R3) -/

/-- Mode entry `i` of a desk's body (R191). -/
def readMode (b : List Byte) (i : Nat) : ModeEntry :=
  let o := 8 + 20 * i
  { aw := word16 b o, ah := word16 b (o + 2), hfp := word16 b (o + 4), hsw := word16 b (o + 6),
    hbp := word16 b (o + 8), vfp := word16 b (o + 10), vsw := word16 b (o + 12), vbp := word16 b (o + 14),
    hpol := byteAt b (o + 16), vpol := byteAt b (o + 17), m := byteAt b (o + 18), n := byteAt b (o + 19) }

/-- The mode table of a desk's body. -/
def readModes (b : List Byte) : List ModeEntry := (List.range 8).map (readMode b)

/-- A mode entry is usable (R2). -/
def ModeEntry.usable (m : ModeEntry) : Bool :=
  640 ≤ m.aw && m.aw ≤ 2560 && 480 ≤ m.ah && m.ah ≤ 1600
    && 1 ≤ m.hfp && 1 ≤ m.hsw && 1 ≤ m.hbp && 1 ≤ m.vfp && 1 ≤ m.vsw && 1 ≤ m.vbp
    && m.hTotal ≤ 4096 && m.vTotal ≤ 2048 && 1 ≤ m.m && m.m ≤ 255 && 1 ≤ m.n && m.n ≤ 63
    && 25 * m.n ≤ 27 * m.m && 27 * m.m ≤ 300 * m.n

/-- Two heads' rectangles share at least one pixel (R3). -/
def HeadRec.overlaps (a b : HeadRec) : Bool :=
  a.cx < b.cx + b.w && b.cx < a.cx + a.w && a.cy < b.cy + b.h && b.cy < a.cy + a.h

/-- A head judged against the heads of lower index (R3). Its size is the active size of the mode entry it names (R1); a
mode index of 8..255 names none, and the size is then 0 × 0, a value of the model's (log 38). -/
def judgeHead (modes : List ModeEntry) (lower : List HeadRec) (mode cx cy : Nat) : HeadRec :=
  let e := modes.getD mode ModeEntry.reset
  let r : HeadRec := { mode := mode, cx := cx, cy := cy, w := e.aw, h := e.ah, validity := .invalid }
  if mode = 255 then { r with validity := .unused }
  else if mode < 8 && e.usable && cx + e.aw - 1 ≤ 8191 && cy + e.ah - 1 ≤ 8191
    && !lower.any (fun p => p.validity = .valid && r.overlaps p)
  then { r with validity := .valid }
  else r

/-- Head `i` of a desk's body judged (R191, R3). -/
def readHead (b : List Byte) (lower : List HeadRec) (i : Nat) : HeadRec :=
  let o := 168 + 5 * i
  judgeHead (readModes b) lower (byteAt b o) (word16 b (o + 1)) (word16 b (o + 3))

/-- The four heads judged in ascending order (R3). -/
def readHeads (b : List Byte) : Quad HeadRec :=
  let h0 := readHead b [] 0
  let h1 := readHead b [h0] 1
  let h2 := readHead b [h0, h1] 2
  let h3 := readHead b [h0, h1, h2] 3
  ⟨h0, h1, h2, h3⟩

/-- The lowest-index VALID head (R3). -/
def lowestValid (q : Quad HeadRec) : Option (Fin 4) := headNumbers.find? fun h => (q.get h).validity = .valid

/-- Whether any head is INVALID (R3). -/
def anyInvalid (q : Quad HeadRec) : Bool := headNumbers.any fun h => (q.get h).validity = .invalid

/-! ### The other desk fields -/

/-- The station of an assignment of layout `l`, counted from 0, to head `h` (R191). -/
def assignedStation (b : List Byte) (l h : Nat) : Nat := word16 b (188 + 12 * l + 3 * h)

/-- The channel byte of an assignment (R191). -/
def assignedChannel (b : List Byte) (l h : Nat) : Nat := byteAt b (190 + 12 * l + 3 * h)

/-- An assignment passes R6. -/
def assignmentOk (b : List Byte) (l h : Nat) : Bool :=
  assignedStation b l h = 0
    || (assignedStation b l h ≤ 1023 && assignedChannel b l h ≤ 1 && assignedStation b l h ≠ word16 b 0)

/-- All 32 assignments and the start layout index pass R6. -/
def layoutsOk (b : List Byte) : Bool :=
  ((List.range 8).all fun l => (List.range 4).all fun h => assignmentOk b l h)
    && 1 ≤ byteAt b 284 && byteAt b 284 ≤ 8

/-- An assignment: a stream, or none (R6). -/
def readAssignment (b : List Byte) (l h : Nat) : Option Stream :=
  if assignedStation b l h = 0 then none else some ⟨assignedStation b l h, channelOf (assignedChannel b l h)⟩

/-- The layout table (R6). -/
def readLayouts (b : List Byte) : List Layout :=
  (List.range 8).map fun l =>
    ⟨readAssignment b l 0, readAssignment b l 1, readAssignment b l 2, readAssignment b l 3⟩

/-- The thresholds pass R20. -/
def thresholdsOk (b : List Byte) : Bool :=
  1 ≤ byteAt b 285 && byteAt b 285 < byteAt b 286 && byteAt b 286 < byteAt b 287 && byteAt b 287 ≤ 127

/-- The gain table, gains of 0 clamped to 1 (R20). -/
def readGains (b : List Byte) : Gains :=
  { t1 := byteAt b 285, t2 := byteAt b 286, t3 := byteAt b 287, g0 := max 1 (byteAt b 288),
    g1 := max 1 (byteAt b 289), g2 := max 1 (byteAt b 290), g3 := max 1 (byteAt b 291) }

/-- The lead; none when its kind or value is out of range (R43). -/
def readLead (b : List Byte) : Option Lead :=
  let v := byteAt b 294
  match byteAt b 293 with
  | 0 => if 0x04 ≤ v && v ≤ 0xA4 then some (.key (b.getD 294 0)) else none
  | 1 => if v ≤ 7 then some (.modifier v) else none
  | _ => none

/-- The profile at an offset (R155, R191). -/
def readProfile (b : List Byte) (o : Nat) : Profile :=
  { image := byteAt b o = 1, border := colourAt b (o + 1), sync := byteAt b (o + 4) = 1 }

/-- The image and sync fields of the four profiles are 0 or 1 (R155). -/
def profilesOk (b : List Byte) : Bool :=
  (List.range 4).all fun i => byteAt b (298 + 5 * i) ≤ 1 && byteAt b (302 + 5 * i) ≤ 1

/-- The frame colours (R159, R191). -/
def readColourTable (b : List Byte) : FrameColours :=
  { holding := colourAt b 319, asking := colourAt b 322, queued := colourAt b 325, idle := colourAt b 328,
    refused := colourAt b 331, absent := colourAt b 334 }

/-- The glyph, a hotspot coordinate above 15 clamped (R161, R191). -/
def readGlyph (b : List Byte) : Glyph :=
  { codes := unpack2 (slice b 337 64), hx := min 15 (byteAt b 401), hy := min 15 (byteAt b 402), a := colourAt b 403,
    b := colourAt b 406, always := byteAt b 409 = 1 }

/-- Every refusing field of a desk's body is in range (R181). -/
def deskOk (b : List Byte) : Bool :=
  commonOk b && (lowestValid (readHeads b)).isSome && layoutsOk b && thresholdsOk b && (readLead b).isSome
    && byteAt b 295 ≤ 1 && byteAt b 296 ≤ 1 && profilesOk b && byteAt b 409 ≤ 1

/-! ### Source fields (R70, R101, R123) -/

/-- Permit entry `i` of a source's body: station and rank (R191). -/
def permitEntry (b : List Byte) (i : Nat) : Permit := ⟨word16 b (8 + 3 * i), byteAt b (10 + 3 * i)⟩

/-- The used permit entries (R70). -/
def readPermits (b : List Byte) : List Permit :=
  ((List.range 16).map (permitEntry b)).filter fun p => p.desk ≠ 0

/-- No station appears in two entries (R70). -/
def permitsDistinct : List Permit → Bool
  | [] => true
  | p :: r => !r.any (fun q => q.desk = p.desk) && permitsDistinct r

/-- The permit table passes R70. -/
def permitsOk (b : List Byte) : Bool :=
  (readPermits b).all (fun p => p.desk ≤ 1023 && 1 ≤ p.rank && p.rank ≤ 3 && p.desk ≠ word16 b 0)
    && permitsDistinct (readPermits b)

/-- Every refusing field of a source's body is in range (R181). -/
def sourceOk (b : List Byte) : Bool :=
  commonOk b && permitsOk b && word16 b 58 ≤ 8191 && word16 b 60 ≤ 8191 && word16 b 62 ≤ 8191 && word16 b 64 ≤ 8191

/-- The rate used: rounded down to a multiple of 100, then clamped (R123). -/
def rateUsed (n : Nat) : Nat := clampNat (n / 100 * 100) 100 4000

/-- The depth used (R123). -/
def depthUsed (n : Nat) : Nat := clampNat n 792 65536

/-! ### Acceptance and refusal (R181, R182) -/

/-- A refused image (R182). -/
def State.refuse (s : State) : State := (s.latch .imageFault).enterHalted

/-- What acceptance does in both roles: the sets are loaded, IMAGE-OK is set, LISTENING begins, and FP takes its fields
and starts the port (R166, R181). -/
def State.acceptCommon (s : State) (b : List Byte) : State :=
  (s.setSA (SA.drive { s.sa with
    start := .listening, imageOk := true, mask := some (BitVec.ofNat 16 (word16 b 4)),
    pulse := some (BitVec.ofNat 16 (word16 b 6)) })).setFP
    { s.fp with own := word16 b 0, typeCode := word16 b 2, started := true }

/-- CP at acceptance: its fields, and the pointer at the centre of head `h` (R8, R16, R20, R25). -/
def CP.accept (c : CP) (b : List Byte) (h : Fin 4) : CP :=
  let r := c.heads.get h
  { c with
    modes := readModes b, layouts := readLayouts b, layout := byteAt b 284, gains := readGains b,
    resist := min 63 (byteAt b 292), head := some h, x := r.cx + r.w / 2, y := r.cy + r.h / 2, carryX := 0,
    carryY := 0, push := 0, edge := none, confine := false, portButtons := ⟨0, 0⟩, wheel := 0, field := none }

/-- HU at acceptance: its fields, and the synthesisers of the VALID heads set (R152). -/
def HU.accept (u : HU) (b : List Byte) (q : Quad HeadRec) : HU :=
  { u with
    heads := Quad.ofFn fun h =>
      let r := q.get h
      let e := (readModes b).getD r.mode ModeEntry.reset
      { u.heads.get h with synth := if r.validity = .valid then some (e.m, e.n) else none }
    noStream := readProfile b 298, active := readProfile b 303, stale := readProfile b 308,
    blankProfile := readProfile b 313, frameWidth := clampNat (byteAt b 318) 1 8, colours := readColourTable b,
    glyph := readGlyph b, tBlank := byteAt b 410 }

/-- A desk's accepted image (R181). -/
def State.acceptDesk (s : State) (b : List Byte) (h : Fin 4) (lead : Lead) : State :=
  let s := s.acceptCommon b
  let s := (s.setCP (s.cp.accept b h)).setHU (s.hu.accept b s.cp.heads)
  (s.setII { s.ii with lead := lead }).setFU { s.fu with
    autoRequest := byteAt b 295 = 1, onLeave := if byteAt b 296 = 1 then .clear else .release,
    intervalMs := clampNat (byteAt b 297) 1 8 }

/-- A source's accepted image (R181): TS's token count is filled to the depth (R123). -/
def State.acceptSource (s : State) (b : List Byte) : State :=
  let s := s.acceptCommon b
  let d := depthUsed (word32 b 68)
  let s := s.setTS { s.ts with rate := rateUsed (word16 b 66), depth := d, tokens := 8 * d, k := byteAt b 72 }
  (s.setCA { s.ca with
    permits := readPermits b, grace := min 60 (byteAt b 56), waitLife := clampNat (byteAt b 57) 1 60 }).setWP
    { s.wp with places := ⟨{ s.wp.places.zero with px := word16 b 58, py := word16 b 60 },
      { s.wp.places.one with px := word16 b 62, py := word16 b 64 }⟩ }

/-- A desk's body checked (R181): the head records are filled and HEAD-INVALID set when one fails, whatever the other
fields give (R1, R3; log 14). -/
def State.checkDesk (s : State) (b : List Byte) : State :=
  let q := readHeads b
  let s := s.setCP { s.cp with heads := q }
  let s := if anyInvalid q then s.raise .headInvalid else s
  match lowestValid q, readLead b with
  | some h, some lead => if deskOk b then s.acceptDesk b h lead else s.refuse
  | _, _ => s.refuse

/-- A source's body checked (R181). -/
def State.checkSource (s : State) (b : List Byte) : State := if sourceOk b then s.acceptSource b else s.refuse

/-- IMAGE_READ_COMPLETE (R180 to R182): in READING, the image is checked whole and accepted or refused. -/
def execImageReadComplete (flash : List Byte) (s : State) : Host.Outcome State Fault Refusal :=
  if s.sa.start = .reading then
    match imageBody s.role flash with
    | none => .next s.refuse
    | some b =>
      match s.role with
      | .desk => .next (s.checkDesk b)
      | .source => .next (s.checkSource b)
  else .next s

/-! ### The link (R166, R177, R178, R183) -/

/-- LINK_UP (R166): on a started port the link is UP; the first UP in LISTENING starts the listen timer (R183), and
from SERVING on PU asks for a PRESENCE (R178). -/
def execLinkUp (s : State) : Host.Outcome State Fault Refusal :=
  if s.fp.started && !s.fp.linkUp then
    let s := s.setFP { s.fp with linkUp := true }
    match s.sa.start with
    | .listening => .next (s.setSA { s.sa with listen := some (s.sa.listen.getD s.now) })
    | .serving => .next s.askPresence
    | .reading | .halted => .next s
  else .next s

/-- LINK_DOWN (R177): the frame on the port is lost and every class is emptied; class 1 then has room (R61, R67). -/
def execLinkDown (s : State) : Host.Outcome State Fault Refusal :=
  if s.fp.linkUp then .next (s.setFP { s.fp.emptied with linkUp := false }).judgeAtDesk else .next s

/-! ### SERVING (R183, R184) -/

/-- A host port powered (R35). -/
def HostPort.power (p : HostPort) : HostPort := { p with vbusEn := true, state := .detached }

/-- HU at SERVING: the VALID heads' generators start at a frame start, and the blank timer starts where T_blank is not 0
(R152, R163). -/
def HU.begin (u : HU) (q : Quad HeadRec) (now : Time) : HU :=
  { u with
    heads := Quad.ofFn fun h => { u.heads.get h with running := (q.get h).validity = .valid, line := 0 }
    count := 0
    minute := if u.tBlank = 0 then none else some now }

/-- The desk's blocks at SERVING (R184): the contexts and records of the start layout, then the focus change from none,
the host ports, and the heads. -/
def State.beginDesk (s : State) : State :=
  let s := (s.cp.streams.foldl State.makeCtx s).placeAll.fillRecords.focusFrom none
  let s := s.setII { s.ii with ports := ⟨s.ii.ports.zero.power, s.ii.ports.one.power⟩ }
  (s.setHU (s.hu.begin s.cp.heads s.now)).recomputeHeads.recomputeField

/-- LISTEN_TIMER_EXPIRY (R183, R184): FABRIC-UP and SERVING are set, each role block begins, and PU asks for its first
PRESENCE. -/
def execListenTimerExpiry (s : State) : Host.Outcome State Fault Refusal :=
  if s.sa.start = .listening && timerDue s.now s.sa.listen Config.listenUs then
    let s := s.setSA { s.sa with start := .serving, fabricUp := true, serving := true, listen := none }
    match s.role with
    | .desk => .next s.beginDesk.askPresence
    | .source => .next s.wpBegin.askPresence
  else .next s

end Sys2Proof.Machine
end

