-- ==== Sys2Proof/Machine/Dispatch.lean ====
section
/-!
DEFINITION. The meaning of every command: one arm for each constructor of `Instr`, in the order of
spec/opcode_table.json. A meaning acts on everything but the queue of commands.
-/

namespace Sys2Proof.Machine

/-- What a command does to a state. -/
def exec (i : Instr) (s : State) : Host.Outcome State Fault Refusal :=
  match i with
  | .reset strap => Sys2Proof.Machine.execReset strap s
  | .imageReadComplete flash => Sys2Proof.Machine.execImageReadComplete flash s
  | .linkUp => Sys2Proof.Machine.execLinkUp s
  | .linkDown => Sys2Proof.Machine.execLinkDown s
  | .listenTimerExpiry => Sys2Proof.Machine.execListenTimerExpiry s
  | .frameReceived fcsRight frame => Sys2Proof.Machine.execFrameReceived fcsRight frame s
  | .presenceTakenByCa => Sys2Proof.Machine.execPresenceTakenByCa s
  | .presenceTakenByFu => Sys2Proof.Machine.execPresenceTakenByFu s
  | .presenceTakenBySr => Sys2Proof.Machine.execPresenceTakenBySr s
  | .tileTaken => Sys2Proof.Machine.execTileTaken s
  | .frameCloseTaken => Sys2Proof.Machine.execFrameCloseTaken s
  | .repairRequestTaken => Sys2Proof.Machine.execRepairRequestTaken s
  | .refreshWindowExpiry => Sys2Proof.Machine.execRefreshWindowExpiry s
  | .controlRequestTaken => Sys2Proof.Machine.execControlRequestTaken s
  | .controlReleaseTaken => Sys2Proof.Machine.execControlReleaseTaken s
  | .inputTaken => Sys2Proof.Machine.execInputTaken s
  | .attnClearTaken => Sys2Proof.Machine.execAttnClearTaken s
  | .controlVerdictTaken => Sys2Proof.Machine.execControlVerdictTaken s
  | .controlWithdrawnTaken => Sys2Proof.Machine.execControlWithdrawnTaken s
  | .lampsTaken => Sys2Proof.Machine.execLampsTaken s
  | .transmitArbiterTake => Sys2Proof.Machine.execTransmitArbiterTake s
  | .presenceTimerExpiry => Sys2Proof.Machine.execPresenceTimerExpiry s
  | .hostDeviceConnect port => Sys2Proof.Machine.execHostDeviceConnect port s
  | .hostDeviceDisconnect port => Sys2Proof.Machine.execHostDeviceDisconnect port s
  | .enumerationComplete port interfaces => Sys2Proof.Machine.execEnumerationComplete port interfaces s
  | .enumerationFailure port => Sys2Proof.Machine.execEnumerationFailure port s
  | .transferUnanswered port transfer => Sys2Proof.Machine.execTransferUnanswered port transfer s
  | .pollTransferFailure port transfer => Sys2Proof.Machine.execPollTransferFailure port transfer s
  | .keyboardReport port report => Sys2Proof.Machine.execKeyboardReport port report s
  | .leadSeenTimerExpiry => Sys2Proof.Machine.execLeadSeenTimerExpiry s
  | .commandTimerExpiry => Sys2Proof.Machine.execCommandTimerExpiry s
  | .mouseReport port report => Sys2Proof.Machine.execMouseReport port report s
  | .inputIntervalExpiry => Sys2Proof.Machine.execInputIntervalExpiry s
  | .askTimerExpiry station => Sys2Proof.Machine.execAskTimerExpiry station s
  | .refusedTimerExpiry station => Sys2Proof.Machine.execRefusedTimerExpiry station s
  | .absenceTimerExpiry station => Sys2Proof.Machine.execAbsenceTimerExpiry station s
  | .holdOffTimerExpiry station => Sys2Proof.Machine.execHoldOffTimerExpiry station s
  | .lampReportComplete port => Sys2Proof.Machine.execLampReportComplete port s
  | .lampRetryExpiry port => Sys2Proof.Machine.execLampRetryExpiry port s
  | .staleTimerExpiry stream => Sys2Proof.Machine.execStaleTimerExpiry stream s
  | .lostTimerExpiry stream => Sys2Proof.Machine.execLostTimerExpiry stream s
  | .repairTimerExpiry stream => Sys2Proof.Machine.execRepairTimerExpiry stream s
  | .minuteTimerExpiry => Sys2Proof.Machine.execMinuteTimerExpiry s
  | .frameSync channel counts => Sys2Proof.Machine.execFrameSync channel counts s
  | .validLineEnd channel pixels => Sys2Proof.Machine.execValidLineEnd channel pixels s
  | .tileRowBegin channel row => Sys2Proof.Machine.execTileRowBegin channel row s
  | .tileRowComplete channel => Sys2Proof.Machine.execTileRowComplete channel s
  | .syncTimerExpiry channel => Sys2Proof.Machine.execSyncTimerExpiry channel s
  | .tileChoice => Sys2Proof.Machine.execTileChoice s
  | .viewerEntryExpiry desk => Sys2Proof.Machine.execViewerEntryExpiry desk s
  | .waitEntryExpiry desk => Sys2Proof.Machine.execWaitEntryExpiry desk s
  | .idleTimerExpiry => Sys2Proof.Machine.execIdleTimerExpiry s
  | .notHolderNoteExpiry desk => Sys2Proof.Machine.execNotHolderNoteExpiry desk s
  | .busPowerAppears => Sys2Proof.Machine.execBusPowerAppears s
  | .busPowerLost => Sys2Proof.Machine.execBusPowerLost s
  | .busReset => Sys2Proof.Machine.execBusReset s
  | .setAddress address => Sys2Proof.Machine.execSetAddress address s
  | .setConfiguration configuration => Sys2Proof.Machine.execSetConfiguration configuration s
  | .setFeatureRemoteWake => Sys2Proof.Machine.execSetFeatureRemoteWake s
  | .clearFeatureRemoteWake => Sys2Proof.Machine.execClearFeatureRemoteWake s
  | .getDescriptor => Sys2Proof.Machine.execGetDescriptor s
  | .getReport interface => Sys2Proof.Machine.execGetReport interface s
  | .setIdleOrProtocol => Sys2Proof.Machine.execSetIdleOrProtocol s
  | .unsupportedStandardRequest => Sys2Proof.Machine.execUnsupportedStandardRequest s
  | .keyboardOutputReport report => Sys2Proof.Machine.execKeyboardOutputReport report s
  | .keyboardPoll acknowledged => Sys2Proof.Machine.execKeyboardPoll acknowledged s
  | .pointerPoll acknowledged => Sys2Proof.Machine.execPointerPoll acknowledged s
  | .queueAgeOverrun => Sys2Proof.Machine.execQueueAgeOverrun s
  | .busIdleSuspend => Sys2Proof.Machine.execBusIdleSuspend s
  | .busResume => Sys2Proof.Machine.execBusResume s
  | .resumeSignallingEnd => Sys2Proof.Machine.execResumeSignallingEnd s
  | .pollAnsweredWithNoData port poll => Sys2Proof.Machine.execPollAnsweredWithNoData port poll s
  | .headLineStart head => Sys2Proof.Machine.execHeadLineStart head s
  | .syncPeriodEnd channel signal high low => Sys2Proof.Machine.execSyncPeriodEnd channel signal high low s

end Sys2Proof.Machine
end

