-- ==== Sys2Proof/Machine/Tick.lean ====
section
/-!
DEFINITION. The passing of one microsecond (00_scope.md, TIME): the counter counts, tokens accrue (R124), and the
expiry of every timer that is due, and a tile choice that can be carried out, join the queue of commands (log 2).
-/

namespace Sys2Proof.Machine

/-- A timer's expiry, when it is due. -/
def ifDue (now : Time) (t : Timer) (us : Nat) (c : Instr) : List Instr := if timerDue now t us then [c] else []

/-- The expiries due of a source context record (R55, R59, R64, R65). -/
def SrcRec.due (now : Time) (r : SrcRec) : List Instr :=
  ifDue now r.holdOff Config.holdOffUs (.holdOffTimerExpiry r.station)
    ++ ifDue now r.ask Config.askUs (.askTimerExpiry r.station)
    ++ ifDue now r.absence Config.absenceUs (.absenceTimerExpiry r.station)
    ++ ifDue now r.refusedTimer Config.refusedUs (.refusedTimerExpiry r.station)

/-- The expiries due of a stream context (R143, R147). -/
def Ctx.due (now : Time) (c : Ctx) : List Instr :=
  ifDue now c.repair Config.repairUs (.repairTimerExpiry c.stream)
    ++ ifDue now c.stale Config.staleUs (.staleTimerExpiry c.stream)
    ++ ifDue now c.lost Config.lostUs (.lostTimerExpiry c.stream)

/-- The expiries due at a desk. -/
def State.deskDue (s : State) : List Instr :=
  ifDue s.now s.fu.interval (Config.ms s.fu.intervalMs) .inputIntervalExpiry
    ++ ifDue s.now s.ii.leadSeen Config.leadSeenUs .leadSeenTimerExpiry
    ++ ifDue s.now s.ii.command Config.commandUs .commandTimerExpiry
    ++ ifDue s.now s.ii.ports.zero.lampRetry Config.lampRetryUs (.lampRetryExpiry 0)
    ++ ifDue s.now s.ii.ports.one.lampRetry Config.lampRetryUs (.lampRetryExpiry 1)
    ++ s.fu.records.flatMap (SrcRec.due s.now)
    ++ s.sr.ctxs.flatMap (Ctx.due s.now)
    ++ ifDue s.now s.hu.minute Config.minuteUs .minuteTimerExpiry

/-- The expiries due at a source; and TS makes its choice when it is ready with a tile whose price the tokens reach: any
earlier choice would change nothing (R129). -/
def State.sourceDue (s : State) : List Instr :=
  ifDue s.now s.cu.ch.zero.sync Config.syncUs (.syncTimerExpiry 0)
    ++ ifDue s.now s.cu.ch.one.sync Config.syncUs (.syncTimerExpiry 1)
    ++ ifDue s.now s.ts.window Config.refreshUs .refreshWindowExpiry
    ++ ifDue s.now s.ca.idle s.ca.graceUs .idleTimerExpiry
    ++ s.ca.viewers.flatMap (fun v => ifDue s.now (some v.heard) Config.viewerUs (.viewerEntryExpiry v.desk))
    ++ s.ca.wait.flatMap (fun e => ifDue s.now (some e.entered) s.ca.waitUs (.waitEntryExpiry e.desk))
    ++ s.ca.notes.flatMap (fun n => ifDue s.now n.timer Config.noteUs (.notHolderNoteExpiry n.desk))
    ++ (if s.wp.tooOld s.now then [.queueAgeOverrun] else [])
    ++ ifDue s.now s.wp.resuming Config.resumeUs .resumeSignallingEnd
    ++ (if s.tileToSend.isSome then [.tileChoice] else [])

/-- Every command that is due of itself, in the order in which they join the queue (log 2). -/
def State.dueCommands (s : State) : List Instr :=
  ifDue s.now s.sa.listen Config.listenUs .listenTimerExpiry
    ++ ifDue s.now s.pu.timer Config.presenceUs .presenceTimerExpiry
    ++ s.deskDue ++ s.sourceDue

/-- WP without the time of its last resume, once that is 100 ms ago (R105). -/
def WP.forgetResume (w : WP) (now : Time) : WP :=
  if timerDue now w.resumeGap Config.resumeGapUs then { w with resumeGap := none } else w

/-- One microsecond: the counter, the tokens (R124), and the commands that are due of themselves (log 2). -/
def State.tick (s : State) : State :=
  let t := s.now + 1
  let s := { s with now := t, ts := s.ts.accrue, wp := s.wp.forgetResume t }
  { s with pending := s.dueCommands }

end Sys2Proof.Machine
end

