-- ==== Sys2Proof/Safety.lean ====
section
/-!
DEFINITION. What claims are stated in: the invariants of the PE-42 that the spec's rules name, and what a family of
commands leaves alone.
-/

namespace Sys2Proof.Machine

/-! ### Times (00_scope.md, TIME) -/

/-- A timer runs, and the difference from its start has reached `us` microseconds. -/
def ranFor (now : Time) (t : Timer) (us : Nat) : Prop := ∃ u, t = some u ∧ us ≤ (now - u).toNat

/-- The commands that come of themselves: the expiries, the age limit of the workstation queue and TS's choice. -/
def ofItself : Instr → Bool
  | .listenTimerExpiry | .presenceTimerExpiry | .refreshWindowExpiry | .leadSeenTimerExpiry | .commandTimerExpiry
  | .inputIntervalExpiry | .askTimerExpiry _ | .refusedTimerExpiry _ | .absenceTimerExpiry _ | .holdOffTimerExpiry _
  | .lampRetryExpiry _ | .staleTimerExpiry _ | .lostTimerExpiry _ | .repairTimerExpiry _ | .minuteTimerExpiry
  | .syncTimerExpiry _ | .tileChoice | .viewerEntryExpiry _ | .waitEntryExpiry _ | .idleTimerExpiry
  | .notHolderNoteExpiry _ | .queueAgeOverrun | .resumeSignallingEnd => true
  | _ => false

/-- Whether such a command is due: its timer has run its own time, or, for TS's choice, a tile can be handed on. -/
def State.isDue (s : State) : Instr → Prop
  | .listenTimerExpiry => ranFor s.now s.sa.listen 1000000
  | .presenceTimerExpiry => ranFor s.now s.pu.timer 250000
  | .refreshWindowExpiry => ranFor s.now s.ts.window 500000
  | .leadSeenTimerExpiry => ranFor s.now s.ii.leadSeen 500000
  | .commandTimerExpiry => ranFor s.now s.ii.command 2000000
  | .inputIntervalExpiry => ranFor s.now s.fu.interval (1000 * s.fu.intervalMs)
  | .askTimerExpiry p => ∃ r ∈ s.fu.records, r.station = p ∧ ranFor s.now r.ask 200000
  | .refusedTimerExpiry p => ∃ r ∈ s.fu.records, r.station = p ∧ ranFor s.now r.refusedTimer 2000000
  | .absenceTimerExpiry p => ∃ r ∈ s.fu.records, r.station = p ∧ ranFor s.now r.absence 1000000
  | .holdOffTimerExpiry p => ∃ r ∈ s.fu.records, r.station = p ∧ ranFor s.now r.holdOff 100000
  | .lampRetryExpiry i => ranFor s.now (s.ii.ports.get i).lampRetry 100000
  | .staleTimerExpiry x => ∃ c ∈ s.sr.ctxs, c.stream = x ∧ ranFor s.now c.stale 1000000
  | .lostTimerExpiry x => ∃ c ∈ s.sr.ctxs, c.stream = x ∧ ranFor s.now c.lost 5000000
  | .repairTimerExpiry x => ∃ c ∈ s.sr.ctxs, c.stream = x ∧ ranFor s.now c.repair 500000
  | .minuteTimerExpiry => ranFor s.now s.hu.minute 60000000
  | .syncTimerExpiry i => ranFor s.now (s.cu.ch.get i).sync 100000
  | .tileChoice => s.tileToSend.isSome = true
  | .viewerEntryExpiry d => ∃ v ∈ s.ca.viewers, v.desk = d ∧ 1000000 ≤ (s.now - v.heard).toNat
  | .waitEntryExpiry d => ∃ e ∈ s.ca.wait, e.desk = d ∧ 1000000 * s.ca.waitLife ≤ (s.now - e.entered).toNat
  | .idleTimerExpiry => ranFor s.now s.ca.idle (1000000 * s.ca.grace)
  | .notHolderNoteExpiry d => ∃ n ∈ s.ca.notes, n.desk = d ∧ ranFor s.now n.timer 100000
  | .queueAgeOverrun => ∃ l e r, s.wp.queue = l ++ e :: r ∧ (∀ d ∈ l, d.recovery = true) ∧ e.recovery = false
      ∧ 250000 < (s.now - e.entered).toNat
  | .resumeSignallingEnd => ranFor s.now s.wp.resuming 10000
  | _ => False

/-! ### SA (R183, R187) -/

/-- The attention rule (R187): ATTN_N is low exactly in HALTED, and, once the mask set is loaded, while a latched
condition is not masked; in READING no mask is loaded. -/
def State.AttnRule (s : State) : Prop :=
  (s.sa.attnN = false ↔
    (s.sa.start = .halted ∨ ∃ m, s.sa.mask = some m ∧ s.sa.latched &&& ~~~m ≠ 0))
    ∧ (s.sa.start = .reading → s.sa.mask = none)

/-- The stages that go with a start state (R179, R183). -/
def SA.stagesMatch (a : SA) : Bool :=
  match a.start with
  | .reading => !a.imageOk && !a.fabricUp && !a.serving
  | .listening => a.imageOk && !a.fabricUp && !a.serving
  | .serving => a.imageOk && a.fabricUp && a.serving
  | .halted => !a.fabricUp && !a.serving

/-! ### FP (R172, R173) -/

/-- The transmit classes and the receive buffer keep their sizes, and class 2 holds at most one PRESENCE entry. -/
def FP.bounded (f : FP) : Bool :=
  f.class0.length ≤ 16 && f.class1.length ≤ 4 && f.class2.length ≤ 4 && f.class2.count .presence ≤ 1
    && f.rxHeld ≤ 262144

/-! ### Frame stores -/

/-- Both frame stores are in canonical form. -/
def State.storesWf (s : State) : Bool := s.cu.store.wf && s.sr.store.wf

/-! ### TS (R123) -/

/-- The token count lies within the depth (R123). -/
def TS.withinDepth (t : TS) : Bool := t.tokens ≤ 8 * t.depth

/-- The row in progress of a LOCKED channel of height `h` goes with its lines (R118): the next line is no later than
the height; a row whose lines are written in part is in progress; a row in progress is one of the grid, begun and not
passed by, or, between frames, the grid's last. -/
def Channel.rowsOk (c : Channel) (h : Nat) : Prop :=
  c.line ≤ h
    ∧ (c.line % 16 ≠ 0 → c.line < h → c.row = some (c.line / 16))
    ∧ (∀ r, c.row = some r → r < tilesAlong h
        ∧ ((16 * r ≤ c.line ∧ c.line ≤ 16 * (r + 1)) ∨ (c.line = 0 ∧ r + 1 = tilesAlong h)))

/-- What TS keeps for a channel goes with the channel (R114, R118, R120, R121, R130): a LOCKED one has a mode within
limits, a row in progress that goes with its lines, a signature table of the grid's length, a dirty set of tiles of the
grid, each at most once and in raster order within one age, and a cursor within the grid; any other has no mode, an
empty dirty set and no allowance. -/
def tilesOk (c : Channel) (k : TsChannel) : Prop :=
  (c.state = .locked → ∃ m, c.mode = some m ∧ m.withinLimits = true
      ∧ c.rowsOk m.h
      ∧ k.sigs.length = tilesAlong m.w * tilesAlong m.h
      ∧ (k.dirty.map DirtyTile.tile).Nodup ∧ (∀ d ∈ k.dirty, d.tile ∈ gridTiles ⟨m.w, m.h⟩)
      ∧ k.dirty.Pairwise (fun a b => a.age = b.age → a.tile.before b.tile = true)
      ∧ k.cursor ∈ gridTiles ⟨m.w, m.h⟩)
    ∧ (c.state ≠ .locked → c.mode = none ∧ k.dirty = [] ∧ k.allowance = 0)

/-- Both channels' parts go with their channels. -/
def State.TilesRule (s : State) : Prop := ∀ i, tilesOk (s.cu.ch.get i) (s.ts.ch.get i)

/-- A dirty set stands in order of age: the waits do not rise from the head on (R121, R128). -/
def agesInOrder (f : BitVec 32) (l : List DirtyTile) : Prop := l.Pairwise fun a b => b.wait f ≤ a.wait f

/-! ### WP (R96, R102, R103) -/

/-- No two neighbours of a list are equal. -/
def noRepeats : List Snapshot → Bool
  | [] => true
  | [_] => true
  | a :: b :: r => a ≠ b && noRepeats (b :: r)

/-- The workstation port's values keep their ranges, and its queue holds no snapshot twice in a row. -/
def WP.inRange (w : WP) : Bool :=
  w.queue.length ≤ 32 && noRepeats (w.queue.map QueueEntry.snapshot) && w.x ≤ 32767 && w.y ≤ 32767
    && -32768 ≤ w.wheel && w.wheel ≤ 32767

/-! ### CA (R71, R72, R73, R88) -/

/-- The ranks of a wait list do not rise from its head on (R72). -/
def ranksFall : List WaitEntry → Bool
  | [] => true
  | [_] => true
  | a :: b :: r => b.rank ≤ a.rank && ranksFall (b :: r)

/-- The arbiter's tables: at most 4 waiting desks, each once, the holder not among them, ranks falling, and none while
the slot is empty; at most 32 viewers, each desk once; at most 8 notes (R71, R72, R73, R88). -/
def CA.tablesOk (c : CA) : Prop :=
  c.wait.length ≤ 4 ∧ (c.wait.map WaitEntry.desk).Nodup ∧ ranksFall c.wait = true
    ∧ (∀ h, c.slot = some h → h.desk ∉ c.wait.map WaitEntry.desk) ∧ (c.slot = none → c.wait = [])
    ∧ c.viewers.length ≤ 32 ∧ (c.viewers.map Viewer.desk).Nodup ∧ c.notes.length ≤ 8

/-! ### CP (R16) -/

/-- A canvas point lies within a head's rectangle. -/
def HeadRec.contains (r : HeadRec) (x y : Nat) : Bool :=
  r.cx ≤ x && x < r.cx + r.w && r.cy ≤ y && y < r.cy + r.h

/-- The ranges of the carries, the push and the wheel sum (R16): a push count is stored exactly with a push edge. -/
def CP.inRange (c : CP) : Bool :=
  -15 ≤ c.carryX && c.carryX ≤ 15 && -15 ≤ c.carryY && c.carryY ≤ 15 && c.push ≤ c.resist
    && (c.push = 0 ↔ c.edge = none) && -32768 ≤ c.wheel && c.wheel ≤ 32767

/-- Where the pointer is (R2, R3, R16): before the image is accepted there is none, a desk that listens or serves has
one, it stands in its head, that head is VALID, a VALID head has a size that R2 allows, and no two VALID heads share a
pixel. -/
def State.PointerRule (s : State) : Prop :=
  (s.sa.start = .reading → s.cp.head = none)
    ∧ (s.role = .desk → s.sa.start = .listening ∨ s.sa.start = .serving → s.cp.head.isSome = true)
    ∧ (∀ h, s.cp.head = some h →
        (s.cp.heads.get h).validity = .valid ∧ (s.cp.heads.get h).contains s.cp.x s.cp.y = true)
    ∧ (∀ a : Fin 4, (s.cp.heads.get a).validity = .valid →
        640 ≤ (s.cp.heads.get a).w ∧ (s.cp.heads.get a).w ≤ 2560 ∧ 480 ≤ (s.cp.heads.get a).h
          ∧ (s.cp.heads.get a).h ≤ 1600)
    ∧ (∀ a b : Fin 4, (s.cp.heads.get a).validity = .valid → (s.cp.heads.get b).validity = .valid →
        (s.cp.heads.get a).overlaps (s.cp.heads.get b) = true → a = b)

/-! ### The desk's tables (R7, R52, R137, R138, R168) -/

/-- What the tables of a serving desk hold: one context for each stream of the current layout, in distinct regions, its
group subscribed; one record for each source of the current layout. -/
def State.TablesOfLayout (s : State) : Prop :=
  (s.sr.ctxs.map Ctx.stream).Nodup ∧ (∀ x, x ∈ s.sr.ctxs.map Ctx.stream ↔ x ∈ s.cp.streams)
    ∧ (s.sr.ctxs.map Ctx.region).Nodup ∧ s.fp.subs = s.sr.ctxs.map Ctx.stream
    ∧ (s.fu.records.map SrcRec.station).Nodup ∧ (∀ p, p ∈ s.fu.records.map SrcRec.station ↔ p ∈ s.cp.sources)

/-- What the tables of an endpoint that is no serving desk hold: nothing, with the host ports OFF and their keys
released; and a source has no VALID head. -/
def State.NoTables (s : State) : Prop :=
  s.sr.ctxs = [] ∧ s.fp.subs = [] ∧ s.fu.records = [] ∧ s.ii.ports.zero.state = .off
    ∧ s.ii.ports.one.state = .off ∧ (s.role = .source → ∀ h, (s.cp.heads.get h).validity ≠ .valid)

/-- The desk's tables hold what the current layout names while it serves, and nothing before (R7, R52, R137). -/
def State.TablesRule (s : State) : Prop :=
  if s.servingAs .desk = true then s.TablesOfLayout else s.NoTables

/-- What the desk's blocks derive is up to date: the placement records (R12, R15), the pointer field (R33), the shown
lamp value (R49) and the heads' states (R154). -/
def State.DerivedRule (s : State) : Prop :=
  s.sr.places = Quad.ofFn s.placementOf ∧ s.cp.field = s.mapPointer ∧ s.ii.shown = s.lampsShown
    ∧ ∀ h, (s.hu.heads.get h).state = s.headState h

/-! ### SR (R141, R142, R143) -/

/-- What taking the sequence of a message leaves of its context and of the state (R141, R142, R143): the context notes
the sequence; a loss, or a resynchronisation in STALE or LOST, is a repair need, which asks at once when the repair
timer is stopped and is owed when it runs. -/
def SeqTaken (u v : State) (m : RxMsg) (c q : Ctx) : Prop :=
  ((c.lastSeq = none
      ∨ ∃ l, c.lastSeq = some l ∧ ((m.seq - l).toNat = 1
        ∨ (c.state = .waiting ∧ ((m.seq - l).toNat = 0 ∨ 32768 ≤ (m.seq - l).toNat))))
    ∧ q = { c with lastSeq := some m.seq } ∧ v = u.putCtx q)
  ∨ ((∃ l, c.lastSeq = some l ∧ ((2 ≤ (m.seq - l).toNat ∧ (m.seq - l).toNat ≤ 32767)
        ∨ ((c.state = .stale ∨ c.state = .lost) ∧ ((m.seq - l).toNat = 0 ∨ 32768 ≤ (m.seq - l).toNat))))
    ∧ ((c.repair = none ∧ q = { c with lastSeq := some m.seq, repair := some u.now, owed := false }
          ∧ v = (u.hand0 (.repairRequest m.sender m.channel)).putCtx q)
      ∨ (c.repair.isSome = true ∧ q = { c with lastSeq := some m.seq, owed := true } ∧ v = u.putCtx q)))

/-! ### FU (R52, R57, R59, R61) -/

/-- One record: its ask timer runs in ASKING alone, its send count is 1..3, a leave is pending only in HOLDING, the
refused flag is set only in IDLE. -/
def SrcRec.ok (r : SrcRec) : Prop :=
  (r.ask.isSome = true ↔ r.state = .asking) ∧ 1 ≤ r.sends ∧ r.sends ≤ 3
    ∧ (r.leave.isSome = true → r.state = .holding) ∧ (r.refused = true → r.state = .idle)

/-- The records are each in order, and the order of leaves lists exactly the stations with a pending leave (R61). -/
def FU.recordsOk (f : FU) : Prop :=
  (∀ r ∈ f.records, r.ok ∧ (r.leave.isSome = true ↔ r.station ∈ f.leaveOrder))
    ∧ (∀ p ∈ f.leaveOrder, ∃ r ∈ f.records, r.station = p) ∧ f.queue.length ≤ 16

/-! ### II (R40, R41, R43) -/

/-- Key codes strictly ascending, at most 6. -/
def keysOk : List Byte → Bool := fun l => l.length ≤ 6 && (l.zip l.tail).all fun p => p.1 < p.2

/-- The snapshots of the desk: the raw snapshot is the union of the ports' keyboard states and holds at most 6 codes in
ascending order (R40); the suppressed set lies within it, and the last passed snapshot is what is left of it without
the suppressed set, nothing in COMMAND (R41, R46). -/
def II.snapshotsOk (i : II) : Prop :=
  i.raw = i.unionKeys ∧ keysOk i.raw.keys = true ∧ keysOk i.ports.zero.keys.keys = true
    ∧ keysOk i.ports.one.keys.keys = true
    ∧ i.suppressed.minus i.raw = .released ∧ i.passed = i.raw.minus i.suppressed
    ∧ (i.hotkey = .command → i.passed = .released)

/-- The hotkey machine's timers run in their states alone (R43). -/
def II.timersOk (i : II) : Prop :=
  (i.leadSeen.isSome = true ↔ i.hotkey = .leadSeen) ∧ (i.command.isSome = true ↔ i.hotkey = .command)

/-! ### HU (R163) -/

/-- The blank timer: at an endpoint that is no serving desk, and with T_blank 0, nothing runs and nothing is blank; a
blanked desk's timer is stopped with the count at T_blank; a running timer's count lies below T_blank (R163). -/
def State.BlankRule (s : State) : Prop :=
  (s.servingAs .desk = false ∨ s.hu.tBlank = 0 → s.hu.minute = none ∧ s.hu.blank = false)
    ∧ (s.hu.blank = true → s.hu.minute = none ∧ s.hu.count = s.hu.tBlank)
    ∧ (s.hu.minute.isSome = true → s.hu.count < s.hu.tBlank)

/-! ### Frames -/

/-- The blocks of the source role are alike in two states. -/
def State.sameSource (s t : State) : Prop := t.cu = s.cu ∧ t.ts = s.ts ∧ t.ca = s.ca ∧ t.wp = s.wp

/-- The blocks of the desk role are alike in two states. -/
def State.sameDesk (s t : State) : Prop :=
  t.ii = s.ii ∧ t.cp = s.cp ∧ t.fu = s.fu ∧ t.sr = s.sr ∧ t.hu = s.hu

/-- The commands that only a source's blocks take. -/
def ofSource : Instr → Bool
  | .presenceTakenByCa | .repairRequestTaken | .refreshWindowExpiry | .controlRequestTaken | .controlReleaseTaken
  | .inputTaken | .attnClearTaken | .frameSync _ _ | .validLineEnd _ _ | .tileRowBegin _ _ | .tileRowComplete _
  | .syncTimerExpiry _ | .tileChoice | .viewerEntryExpiry _ | .waitEntryExpiry _ | .idleTimerExpiry
  | .notHolderNoteExpiry _ | .busPowerAppears | .busPowerLost | .busReset | .setAddress _ | .setConfiguration _
  | .setFeatureRemoteWake | .clearFeatureRemoteWake | .getDescriptor | .getReport _ | .setIdleOrProtocol
  | .unsupportedStandardRequest | .keyboardOutputReport _ | .keyboardPoll _ | .pointerPoll _ | .queueAgeOverrun
  | .busIdleSuspend | .busResume | .resumeSignallingEnd | .syncPeriodEnd _ _ _ _ => true
  | .reset _ | .imageReadComplete _ | .linkUp | .linkDown | .listenTimerExpiry | .frameReceived _ _
  | .presenceTakenByFu | .presenceTakenBySr | .tileTaken | .frameCloseTaken | .controlVerdictTaken
  | .controlWithdrawnTaken | .lampsTaken | .transmitArbiterTake | .presenceTimerExpiry | .hostDeviceConnect _
  | .hostDeviceDisconnect _ | .enumerationComplete _ _ | .enumerationFailure _ | .transferUnanswered _ _
  | .pollTransferFailure _ _ | .keyboardReport _ _ | .leadSeenTimerExpiry | .commandTimerExpiry | .mouseReport _ _
  | .inputIntervalExpiry | .askTimerExpiry _ | .refusedTimerExpiry _ | .absenceTimerExpiry _ | .holdOffTimerExpiry _
  | .lampReportComplete _ | .lampRetryExpiry _ | .staleTimerExpiry _ | .lostTimerExpiry _ | .repairTimerExpiry _
  | .minuteTimerExpiry | .pollAnsweredWithNoData _ _ | .headLineStart _ => false

/-- The commands that both roles take: the start, the link, frames, the arbiter and the presence timer. -/
def ofBoth : Instr → Bool
  | .reset _ | .imageReadComplete _ | .linkUp | .linkDown | .listenTimerExpiry | .frameReceived _ _
  | .transmitArbiterTake | .presenceTimerExpiry => true
  | _ => false

/-- The commands that only a desk's blocks take. -/
def ofDesk (c : Instr) : Bool := !ofSource c && !ofBoth c

end Sys2Proof.Machine
end

