-- ==== Sys2Proof/Certificates/Slice0/Obligations.lean ====
section
/-!
DEFINITION. The statements for the provers: what one step does, what each command does, what it leaves alone, and the
invariants that every step keeps. Each result says that the command answers a next state, and which.
-/

open Sys2Proof Sys2Proof.Machine

/-! ### Steps and whole-machine rules -/

/-- One step takes the command at the front of the queue and is its meaning on the state with the queue's rest. -/
def Obligations.StepTakesFront : Prop :=
  ∀ (c : Instr) (s : State), step { s with pending := c :: s.pending } = exec c s

/-- On an empty queue one microsecond passes (00_scope.md, TIME; the model's choice, log 2): the counter counts, tokens
accrue up to the depth (R124), the queue holds exactly the commands that are then due of themselves, each after its own
time, and of all else only WP's record of a resume 100 ms old goes (R105). Such a command changes nothing when it is not
due (the model's choice, log 1). -/
def Obligations.StepIdles : Prop :=
  (∀ s : State, s.pending = [] → ∃ t, step s = .next t ∧ t.now = s.now + 1
    ∧ t.ts = { s.ts with tokens := min (8 * s.ts.depth) (s.ts.tokens + s.ts.rate) }
    ∧ (∀ c : Instr, c ∈ t.pending ↔ t.isDue c) ∧ t.pending = t.dueCommands
    ∧ t.role = s.role ∧ t.sa = s.sa ∧ t.pu = s.pu ∧ t.fp = s.fp ∧ t.cu = s.cu
    ∧ t.ca = s.ca ∧ t.wp = s.wp.forgetResume (s.now + 1) ∧ s.sameDesk t)
  ∧ (∀ (c : Instr) (s : State), ofItself c = true → ¬ s.isDue c → exec c s = .next s)

/-- No command stops the part, in any state: each answers a next state. That is the model's choice (log 1: a command
with nothing to act on changes nothing); so is it that a command leaves the queue of commands alone (log 34), and that
every command but RESET leaves the counter alone (log 2), with the role, which only a reset reads (R179). -/
def Obligations.EveryCommandCompletes : Prop :=
  ∀ (c : Instr) (s : State), ∃ t, exec c s = .next t ∧ t.pending = s.pending
    ∧ ((∀ r, c ≠ .reset r) → t.now = s.now ∧ t.role = s.role)

/-- The commands of one role leave the other role's blocks alone (00_scope.md, ROLE). -/
def Obligations.RolesApart : Prop :=
  ∀ (c : Instr) (s t : State), exec c s = .next t →
    (ofSource c = true → s.sameDesk t) ∧ (ofDesk c = true → s.sameSource t)

/-- Only RESET leaves HALTED or SERVING and clears a stage, and from acceptance on the mask and pulse sets, the own
station number and the fabric type code are fixed (R166, R179, R183, R186). -/
def Obligations.OnlyResetUndoesTheStart : Prop :=
  ∀ (c : Instr) (s t : State), (∀ r, c ≠ .reset r) → exec c s = .next t →
    (s.sa.start = .halted → t.sa.start = .halted) ∧ (s.sa.start = .serving → t.sa.start = .serving)
      ∧ (s.sa.imageOk = true → t.sa.imageOk = true) ∧ (s.sa.fabricUp = true → t.sa.fabricUp = true)
      ∧ (s.sa.serving = true → t.sa.serving = true)
      ∧ (s.sa.start ≠ .reading →
          t.sa.mask = s.sa.mask ∧ t.sa.pulse = s.sa.pulse ∧ t.fp.own = s.fp.own ∧ t.fp.typeCode = s.fp.typeCode)

/-- A latched bit stays until an acknowledgement or its pulse clears it (R185): every command but RESET,
ATTN_CLEAR_TAKEN, KEYBOARD_REPORT (the A command) and TRANSMIT_ARBITER_TAKE (pulses) keeps every latched bit. -/
def Obligations.LatchedBitsStay : Prop :=
  ∀ (c : Instr) (s t : State), s.ii.snapshotsOk → (∀ r, c ≠ .reset r) → c ≠ .attnClearTaken →
    (∀ p l, c ≠ .keyboardReport p l) → c ≠ .transmitArbiterTake → exec c s = .next t →
    s.sa.latched &&& ~~~t.sa.latched = 0

/-- An INPUT from a desk that does not hold reaches neither the workstation port nor the slot (R86, R88). -/
def Obligations.OnlyTheHolderReachesTheWorkstation : Prop :=
  ∀ (s u : State) (m : RxMsg), s.servingAs .source = true → s.take .ca .input = some (m, u) →
    (∀ h, s.ca.slot = some h → h.desk ≠ m.sender) →
    ∃ t, exec .inputTaken s = .next t ∧ t.wp = s.wp ∧ t.ca.slot = s.ca.slot ∧ t.ca.wait = s.ca.wait
      ∧ t.ca.idle = s.ca.idle ∧ t.cu = s.cu ∧ t.ts = s.ts

/-- An INPUT that a command puts into class 1 goes to a source whose record was HOLDING before the command, or is
HOLDING after it (R60, R67). -/
def Obligations.InputGoesToHeldSources : Prop :=
  ∀ (c : Instr) (s t : State), s.fu.recordsOk → exec c s = .next t →
    ∀ m ∈ t.fp.class1, m ∉ s.fp.class1 →
      (∃ r ∈ s.fu.records, r.station = m.target ∧ r.state = .holding)
        ∨ (∃ r ∈ t.fu.records, r.station = m.target ∧ r.state = .holding)

/-! ### Invariants that every step keeps -/

/-- The attention rule (R187). -/
def Obligations.AttentionKept : Prop :=
  ∀ s t : State, s.AttnRule → step s = .next t → t.AttnRule

/-- The stages that go with each start state (R179, R183), the sizes of the transmit classes and of the receive buffer
with class 2's one PRESENCE entry (R172, R173), the canonical form of both frame stores, and the token count within the
depth (R123): each is kept by itself. -/
def Obligations.BoundsKept : Prop :=
  (∀ s t : State, s.sa.stagesMatch = true → step s = .next t → t.sa.stagesMatch = true)
    ∧ (∀ s t : State, s.fp.bounded = true → step s = .next t → t.fp.bounded = true)
    ∧ (∀ s t : State, s.storesWf = true → step s = .next t → t.storesWf = true)
    ∧ (∀ s t : State, s.ts.withinDepth = true → step s = .next t → t.ts.withinDepth = true)

/-- The workstation queue's size and its rule of no repeat, the logical position and the accumulator (R96, R102, R103).
-/
def Obligations.WorkstationKept : Prop :=
  ∀ s t : State, s.wp.inRange = true → step s = .next t → t.wp.inRange = true

/-- The arbiter's tables (R71, R72, R73, R88); with them that the slot is empty only while the wait list is, once CA has
finished an event (R72). -/
def Obligations.ArbiterTablesKept : Prop :=
  ∀ s t : State, s.ca.tablesOk → step s = .next t → t.ca.tablesOk

/-- The pointer's ranges, its place in its head, and that no two VALID heads overlap; so a serving desk's pointer lies
in exactly one VALID head (R3, R16). -/
def Obligations.PointerKept : Prop :=
  (∀ s t : State, s.PointerRule → s.cp.inRange = true → step s = .next t → t.PointerRule ∧ t.cp.inRange = true)
    ∧ (∀ s : State, s.PointerRule → s.servingAs .desk = true →
        ∃! h, (s.cp.heads.get h).validity = .valid ∧ (s.cp.heads.get h).contains s.cp.x s.cp.y = true)

/-- The desk's contexts, subscriptions and records are those of the current layout (R7, R52, R63, R137, R139). -/
def Obligations.DeskTablesKept : Prop :=
  ∀ s t : State, s.TablesRule → step s = .next t → t.TablesRule

/-- Placement records, pointer field, shown lamps and head states are up to date after every step (R15, R33, R49, R154).
-/
def Obligations.DerivedKept : Prop :=
  ∀ s t : State, s.TablesRule → s.DerivedRule → step s = .next t → t.DerivedRule

/-- The source context records and the order of pending leaves (R52, R57, R59, R61). -/
def Obligations.RecordsKept : Prop :=
  ∀ s t : State, s.fu.recordsOk → step s = .next t → t.fu.recordsOk

/-- The raw, suppressed and passed snapshots, and the hotkey machine's timers (R40, R41, R43, R46). -/
def Obligations.SnapshotsKept : Prop :=
  ∀ s t : State, s.ii.snapshotsOk → s.ii.timersOk → step s = .next t → t.ii.snapshotsOk ∧ t.ii.timersOk

/-- The blank timer (R163, R164). -/
def Obligations.BlankKept : Prop :=
  ∀ s t : State, s.TablesRule → s.BlankRule → step s = .next t → t.BlankRule

/-- What TS keeps for a channel goes with the channel (R114, R115, R118, R120, R121, R130): a LOCKED one has a mode
within limits, a row in progress that goes with the lines taken, so that a row written in part is in progress, a cursor
within the grid, a signature table of the grid's length, and a dirty set with each tile at most once, none outside the
grid, and raster order within one age; any other has no mode, no dirty tile and no allowance. The ages stand from the
oldest on. They are told apart modulo 2^32, so that is kept while no tile has waited 2^32 − 1 frames. A dirty set holds
at most 16,000 tiles. That a line's pixels are written as one step at its end is the model's choice (log 9), as is that
a LOCKED frame's valid lines are those its line ends gave (log 8). -/
def Obligations.TileSetsKept : Prop :=
  (∀ s t : State, s.TilesRule → step s = .next t → t.TilesRule)
  ∧ (∀ s t : State, s.TilesRule →
      (∀ i, agesInOrder (s.cu.ch.get i).frame (s.ts.ch.get i).dirty) →
      (∀ i, ∀ d ∈ (s.ts.ch.get i).dirty, d.wait (s.cu.ch.get i).frame ≠ 4294967295) → step s = .next t →
      ∀ i, agesInOrder (t.cu.ch.get i).frame (t.ts.ch.get i).dirty)
  ∧ (∀ (c : Channel) (k : TsChannel), tilesOk c k → k.dirty.length ≤ 16000)

/-! ### Start -/

/-- RESET (R179): every block in its reset state and the strap's role. The state after reset meets every invariant.
State.reset holds values that the spec does not give, and the equality states them too. These are the model's choices:
the microsecond counter at 0 (log 3), what registers hold that no image has loaded yet, with the carries, push count,
buttons, wheel sum and token count that acceptance sets, and the other items of log 5, frame stores of which no byte is
listed (log 6), and the last answer on the workstation's bus silent (log 16); that no pointer report counts as delivered
is its reading (log 20). State.reset itself is a desk without bus power by its choice (logs 4 and 10). What a RESET
keeps is its choice too: the queue of commands, which is the model's own (log 34), and the level of VBUS_SENSE, which is
outside the part (log 10). -/
def Obligations.ResetResult : Prop :=
  (∀ (r : Role) (s : State), exec (.reset r) s = .next { State.reset with
    pending := s.pending, role := r, wp := { WP.reset with vbus := s.wp.vbus } })
  ∧ State.reset.AttnRule ∧ State.reset.sa.stagesMatch = true ∧ State.reset.fp.bounded = true
    ∧ State.reset.storesWf = true ∧ State.reset.ts.withinDepth = true ∧ State.reset.wp.inRange = true
    ∧ State.reset.ca.tablesOk ∧ State.reset.PointerRule ∧ State.reset.cp.inRange = true
    ∧ State.reset.TablesRule ∧ State.reset.DerivedRule ∧ State.reset.fu.recordsOk ∧ State.reset.ii.snapshotsOk
    ∧ State.reset.ii.timersOk ∧ State.reset.BlankRule ∧ State.reset.TilesRule

/-- IMAGE_READ_COMPLETE, refused (R180, R181, R182, R166, R168, R172, R175): a flash that fails the header or CRC
checks, or a body with a refusing field, latches IMAGE-FAULT and halts the part with ATTN_N low and the port stopped;
no stage is set. With HALTED the subscription list and the receive buffer are empty (R168, R172) and the presence timer
is stopped (R175). That the link of a HALTED endpoint is held DOWN is the model's reading (log 24). -/
def Obligations.ImageRefused : Prop :=
  ∀ (flash : List Byte) (s : State), s.sa.start = .reading →
    (imageBody s.role flash = none
      ∨ ∃ b, imageBody s.role flash = some b
        ∧ (s.role = .desk → deskOk b = false) ∧ (s.role = .source → sourceOk b = false)) →
    ∃ t, exec (.imageReadComplete flash) s = .next t ∧ t.sa.start = .halted
      ∧ t.sa.latched.has .imageFault = true ∧ t.sa.attnN = false ∧ t.sa.imageOk = s.sa.imageOk
      ∧ t.sa.fabricUp = s.sa.fabricUp ∧ t.sa.serving = s.sa.serving ∧ t.sa.mask = s.sa.mask
      ∧ t.fp.started = false ∧ t.fp.linkUp = false ∧ t.fp.subs = [] ∧ t.fp.rx = [] ∧ t.pu.timer = none
      ∧ s.sameSource t ∧ t.ii = s.ii ∧ t.fu = s.fu ∧ t.sr = s.sr ∧ t.hu = s.hu

/-- IMAGE_READ_COMPLETE, accepted by a desk (R1, R3, R6, R8, R16, R20, R25, R43, R51, R67, R152, R155, R159, R161, R163,
R166, R181, R191): the stage and sets, the port, the head records with HEAD-INVALID where one fails, the pointer at the
centre of the lowest-index VALID head, every field of the body in its place with its clamp, and the synthesisers of the
VALID heads at the multiplier and divider of the entries they name. The head records are readHeads of the body, whose
width and height are 0 for a head whose mode index names no entry: R1 gives none there, and 0 x 0 is the model's choice
(log 38). -/
def Obligations.DeskImageAccepted : Prop :=
  ∀ (flash b : List Byte) (h : Fin 4) (s : State), s.sa.start = .reading → s.role = .desk →
    imageBody .desk flash = some b → deskOk b = true → lowestValid (readHeads b) = some h →
    ∃ t, exec (.imageReadComplete flash) s = .next t ∧ t.sa.start = .listening ∧ t.sa.imageOk = true
      ∧ t.sa.fabricUp = s.sa.fabricUp ∧ t.sa.serving = s.sa.serving
      ∧ t.sa.mask = some (BitVec.ofNat 16 (word16 b 4)) ∧ t.sa.pulse = some (BitVec.ofNat 16 (word16 b 6))
      ∧ (anyInvalid (readHeads b) = true →
          t.sa.current.has .headInvalid = true ∧ t.sa.latched.has .headInvalid = true)
      ∧ (anyInvalid (readHeads b) = false → t.sa.current = s.sa.current ∧ t.sa.latched = s.sa.latched)
      ∧ t.fp = { s.fp with own := word16 b 0, typeCode := word16 b 2, started := true }
      -- the mode table and the heads
      ∧ t.cp.modes.length = 8
      ∧ (∀ i, i < 8 → t.cp.modes[i]? = some {
          aw := word16 b (8 + 20 * i), ah := word16 b (10 + 20 * i), hfp := word16 b (12 + 20 * i)
          hsw := word16 b (14 + 20 * i), hbp := word16 b (16 + 20 * i), vfp := word16 b (18 + 20 * i)
          vsw := word16 b (20 + 20 * i), vbp := word16 b (22 + 20 * i), hpol := byteAt b (24 + 20 * i)
          vpol := byteAt b (25 + 20 * i), m := byteAt b (26 + 20 * i), n := byteAt b (27 + 20 * i) })
      ∧ t.cp.heads = readHeads b ∧ t.cp.head = some h
      ∧ (∀ k : Fin 4, ((readHeads b).get k).mode = byteAt b (168 + 5 * k)
          ∧ ((readHeads b).get k).cx = word16 b (169 + 5 * k) ∧ ((readHeads b).get k).cy = word16 b (171 + 5 * k)
          ∧ (((readHeads b).get k).validity = .unused ↔ byteAt b (168 + 5 * k) = 255))
      -- the pointer
      ∧ t.cp.x = ((readHeads b).get h).cx + ((readHeads b).get h).w / 2
      ∧ t.cp.y = ((readHeads b).get h).cy + ((readHeads b).get h).h / 2
      ∧ t.cp.carryX = 0 ∧ t.cp.carryY = 0 ∧ t.cp.push = 0 ∧ t.cp.edge = none ∧ t.cp.confine = false
      ∧ t.cp.buttons = 0 ∧ t.cp.wheel = 0 ∧ t.cp.field = none
      -- layouts, gains, edge resistance, lead
      ∧ t.cp.layouts.length = 8
      ∧ (∀ (l : Nat) (k : Fin 4), l < 8 → ∃ y : Layout, t.cp.layouts[l]? = some y
          ∧ (word16 b (188 + 12 * l + 3 * k) = 0 → y.get k = none)
          ∧ (word16 b (188 + 12 * l + 3 * k) ≠ 0 → ∃ x : Stream, y.get k = some x
              ∧ x.station = word16 b (188 + 12 * l + 3 * k) ∧ x.channel.val = byteAt b (190 + 12 * l + 3 * k)))
      ∧ t.cp.layout = byteAt b 284
      ∧ t.cp.gains = {
          t1 := byteAt b 285, t2 := byteAt b 286, t3 := byteAt b 287, g0 := max 1 (byteAt b 288)
          g1 := max 1 (byteAt b 289), g2 := max 1 (byteAt b 290), g3 := max 1 (byteAt b 291) }
      ∧ t.cp.resist = min 63 (byteAt b 292)
      ∧ (byteAt b 293 = 0 → t.ii.lead = .key (b.getD 294 0)) ∧ (byteAt b 293 = 1 → t.ii.lead = .modifier (byteAt b 294))
      -- focus
      ∧ t.fu = { s.fu with
          autoRequest := decide (byteAt b 295 = 1), onLeave := if byteAt b 296 = 1 then .clear else .release
          intervalMs := max 1 (min 8 (byteAt b 297)) }
      -- the heads' profiles, frame and glyph, T_blank, and the synthesisers
      ∧ t.hu.noStream = ⟨decide (byteAt b 298 = 1), colourAt b 299, decide (byteAt b 302 = 1)⟩
      ∧ t.hu.active = ⟨decide (byteAt b 303 = 1), colourAt b 304, decide (byteAt b 307 = 1)⟩
      ∧ t.hu.stale = ⟨decide (byteAt b 308 = 1), colourAt b 309, decide (byteAt b 312 = 1)⟩
      ∧ t.hu.blankProfile = ⟨decide (byteAt b 313 = 1), colourAt b 314, decide (byteAt b 317 = 1)⟩
      ∧ t.hu.frameWidth = max 1 (min 8 (byteAt b 318))
      ∧ t.hu.colours = ⟨colourAt b 319, colourAt b 322, colourAt b 325, colourAt b 328, colourAt b 331, colourAt b 334⟩
      ∧ t.hu.glyph.codes.length = 256
      ∧ (∀ i j, i < 64 → j < 4 →
          t.hu.glyph.codes[4 * i + j]? = some ((b.getD (337 + i) 0).extractLsb' (6 - 2 * j) 2))
      ∧ t.hu.glyph.hx = min 15 (byteAt b 401) ∧ t.hu.glyph.hy = min 15 (byteAt b 402)
      ∧ t.hu.glyph.a = colourAt b 403 ∧ t.hu.glyph.b = colourAt b 406
      ∧ t.hu.glyph.always = decide (byteAt b 409 = 1) ∧ t.hu.tBlank = byteAt b 410
      ∧ (∀ k : Fin 4, (((readHeads b).get k).validity = .valid → t.hu.heads.get k = { s.hu.heads.get k with
            synth := some (byteAt b (26 + 20 * byteAt b (168 + 5 * k)), byteAt b (27 + 20 * byteAt b (168 + 5 * k))) })
          ∧ (((readHeads b).get k).validity ≠ .valid → t.hu.heads.get k = { s.hu.heads.get k with synth := none }))
      ∧ t.ii.ports = s.ii.ports ∧ t.sr = s.sr ∧ t.pu = s.pu ∧ s.sameSource t

/-- IMAGE_READ_COMPLETE, accepted by a source (R70, R101, R123, R166, R181): the stage and sets, the port, the permit
table and times, the origins, and rate and depth with their clamps, the token count at the depth. -/
def Obligations.SourceImageAccepted : Prop :=
  ∀ (flash b : List Byte) (s : State), s.sa.start = .reading → s.role = .source →
    imageBody .source flash = some b → sourceOk b = true →
    ∃ t, exec (.imageReadComplete flash) s = .next t ∧ t.sa.start = .listening ∧ t.sa.imageOk = true
      ∧ t.sa.mask = some (BitVec.ofNat 16 (word16 b 4)) ∧ t.sa.pulse = some (BitVec.ofNat 16 (word16 b 6))
      ∧ t.sa.current = s.sa.current ∧ t.sa.latched = s.sa.latched
      ∧ t.fp = { s.fp with own := word16 b 0, typeCode := word16 b 2, started := true }
      ∧ t.ts = { s.ts with
          rate := min 4000 (max 100 (word16 b 66 / 100 * 100)), depth := min 65536 (max 792 (word32 b 68))
          tokens := 8 * min 65536 (max 792 (word32 b 68)), k := byteAt b 72 }
      ∧ (∀ p : Permit, p ∈ t.ca.permits ↔
          p.desk ≠ 0 ∧ ∃ i, i < 16 ∧ p.desk = word16 b (8 + 3 * i) ∧ p.rank = byteAt b (10 + 3 * i))
      ∧ t.ca = { s.ca with
          permits := t.ca.permits, grace := min 60 (byteAt b 56), waitLife := min 60 (max 1 (byteAt b 57)) }
      ∧ t.wp.places.zero = { s.wp.places.zero with px := word16 b 58, py := word16 b 60 }
      ∧ t.wp.places.one = { s.wp.places.one with px := word16 b 62, py := word16 b 64 }
      ∧ t.wp.port = s.wp.port ∧ t.cu = s.cu ∧ t.pu = s.pu ∧ s.sameDesk t

/-- LINK_UP, LINK_DOWN, PRESENCE_TIMER_EXPIRY, and what the classes take (R166, R173, R175, R177, R178, R183): the
first UP in LISTENING starts the listen timer and a later one leaves it, an UP in SERVING asks for a PRESENCE; DOWN
empties every class and keeps the buffer and the subscriptions; the presence timer's expiry asks for a PRESENCE and
starts the timer again. While the link is DOWN what is handed on is lost; a full class 0 and a FRAME-CLOSE at a full
class 2 latch TX-DROP; a PRESENCE at a full class 2 takes the place of the newest FRAME-CLOSE, with TX-DROP. That
LINK_UP on a stopped port changes nothing is the model's reading (log 24); that LINK_UP with the link already UP, and
LINK_DOWN with it already DOWN, change nothing is its choice (log 1). -/
def Obligations.LinkAndPresenceTimer : Prop :=
  (∀ s : State, s.fp.started = true → s.fp.linkUp = false → s.sa.start = .listening →
    (s.sa.listen = none → exec .linkUp s
      = .next ((s.setFP { s.fp with linkUp := true }).setSA { s.sa with listen := some s.now }))
    ∧ (∀ u, s.sa.listen = some u → exec .linkUp s = .next (s.setFP { s.fp with linkUp := true })))
  ∧ (∀ s : State, s.fp.started = true → s.fp.linkUp = false → s.sa.start = .serving →
    exec .linkUp s = .next (s.setFP { s.fp with linkUp := true }).askPresence)
  ∧ (∀ s : State, s.fp.started = false ∨ s.fp.linkUp = true → exec .linkUp s = .next s)
  ∧ (∀ s : State, s.fp.linkUp = true → ∃ t, exec .linkDown s = .next t ∧ t.fp.linkUp = false
      ∧ t.fp.class0 = [] ∧ t.fp.class1 = [] ∧ t.fp.class2 = [] ∧ t.fp.class3 = none ∧ t.fp.sending = none
      ∧ t.fp.rx = s.fp.rx ∧ t.fp.subs = s.fp.subs ∧ t.sa = s.sa ∧ t.pu = s.pu ∧ s.sameSource t
      ∧ t.sr = s.sr ∧ t.hu = s.hu)
  ∧ (∀ s : State, s.fp.linkUp = false → exec .linkDown s = .next s)
  ∧ (∀ (s : State) (u : Time), s.pu.timer = some u → 250000 ≤ (s.now - u).toNat →
      exec .presenceTimerExpiry s = .next s.askPresence)
  -- a PRESENCE asked for
  ∧ (∀ s : State,
    (s.fp.linkUp = false ∨ Out2.presence ∈ s.fp.class2 → s.askPresence = s.setPU ⟨some s.now⟩)
    ∧ (s.fp.linkUp = true → Out2.presence ∉ s.fp.class2 → s.fp.class2.length < 4 →
      s.askPresence = (s.setFP { s.fp with class2 := s.fp.class2 ++ [.presence] }).setPU ⟨some s.now⟩)
    ∧ (∀ (l : List Out2) (m : Out2), s.fp.linkUp = true → Out2.presence ∉ s.fp.class2 → s.fp.class2 = l ++ [m] →
      4 ≤ s.fp.class2.length → s.askPresence
        = ((s.setFP { s.fp with class2 := l ++ [.presence] }).latch .txDrop).setPU ⟨some s.now⟩))
  -- messages handed to class 0, and a FRAME-CLOSE
  ∧ (∀ (s : State) (m : Out0),
    (s.fp.linkUp = false → s.hand0 m = s)
    ∧ (s.fp.linkUp = true → s.fp.class0.length < 16 →
      s.hand0 m = s.setFP { s.fp with class0 := s.fp.class0 ++ [m] })
    ∧ (s.fp.linkUp = true → 16 ≤ s.fp.class0.length → s.hand0 m = s.latch .txDrop))
  ∧ (∀ (s : State) (m : Out2),
    (s.fp.linkUp = false → s.handFrameClose m = s)
    ∧ (s.fp.linkUp = true → s.fp.class2.length < 4 →
      s.handFrameClose m = s.setFP { s.fp with class2 := s.fp.class2 ++ [m] })
    ∧ (s.fp.linkUp = true → 4 ≤ s.fp.class2.length → s.handFrameClose m = s.latch .txDrop))

/-- LISTEN_TIMER_EXPIRY (R35, R91, R137, R152, R163, R183, R184): FABRIC-UP and SERVING are set and each role begins: a
desk makes the contexts, subscriptions and records of its start layout, powers its ports and runs the VALID heads'
generators; a source connects to a powered bus or reports WORKSTATION-DETACHED; both ask for a PRESENCE. R52 says that
the records stand in no order: that the list holds them in the order in which the layout names their sources is the
model's choice (log 20). That the effects of a bus reset take with them the time of the last resume is its reading (log
25). -/
def Obligations.ServingBegins : Prop :=
  (∀ (s : State) (u : Time), s.sa.start = .listening → s.sa.listen = some u → 1000000 ≤ (s.now - u).toNat →
    s.role = .desk → s.NoTables →
    s.fp.linkUp = true → s.fp.class2 = [] →
    ∃ t, exec .listenTimerExpiry s = .next t ∧ t.sa.start = .serving ∧ t.sa.fabricUp = true ∧ t.sa.serving = true
      ∧ t.sa.listen = none ∧ t.sr.ctxs.map Ctx.stream = s.cp.streams
      ∧ (∀ c ∈ t.sr.ctxs, c.state = .waiting ∧ c.epoch = none ∧ c.mode = none)
      ∧ t.fp.subs = s.cp.streams ∧ t.fu.records.map SrcRec.station = s.cp.sources
      ∧ (s.fu.autoRequest = false → ∀ r ∈ t.fu.records, r.state = .idle)
      ∧ (t.ii.ports.get 0).state = .detached ∧ (t.ii.ports.get 0).vbusEn = true
      ∧ (t.ii.ports.get 1).state = .detached ∧ (t.ii.ports.get 1).vbusEn = true
      ∧ (∀ h, (t.hu.heads.get h).running = true ↔ (s.cp.heads.get h).validity = .valid)
      ∧ t.hu.minute = (if s.hu.tBlank = 0 then none else some s.now) ∧ t.hu.count = 0
      ∧ t.fp.class2 = [.presence] ∧ t.pu.timer = some s.now ∧ s.sameSource t)
  ∧ (∀ (s : State) (u : Time), s.sa.start = .listening → s.sa.listen = some u → 1000000 ≤ (s.now - u).toNat →
    s.role = .source →
    s.fp.linkUp = true → s.fp.class2 = [] →
    ∃ t, exec .listenTimerExpiry s = .next t ∧ t.sa.start = .serving ∧ t.sa.fabricUp = true ∧ t.sa.serving = true
      ∧ t.sa.listen = none ∧ t.fp.class2 = [.presence] ∧ t.pu.timer = some s.now
      ∧ (s.wp.vbus = true → t.wp = s.wp.busReset ∧ t.sa.current = s.sa.current ∧
          t.wp.port = .connected .default ∧ t.wp.address = 0 ∧ t.wp.queue = [] ∧ t.wp.lamps = 0)
      ∧ (s.wp.vbus = false → t.wp = s.wp ∧ t.sa.current.has .workstationDetached = true
          ∧ t.sa.latched.has .workstationDetached = true)
      ∧ t.cu = s.cu ∧ t.ts = s.ts ∧ t.ca = s.ca ∧ s.sameDesk t)

/-! ### Frames in and out -/

/-- FRAME_RECEIVED (R166, R168 to R172, R175, R190): dropped silently, MALFORMED, RX-OVERFLOW, a clash, discarded, or
put into the buffer for its takers. That the verdict on the check sequence comes with the frame is the model's choice
(log 7); that a PRESENCE is checked by PU here (log 12), that the fit check comes before the clash check (log 13), and
that entering HALTED takes the link DOWN (log 24) are its readings. -/
def Obligations.FrameReceivedResult : Prop :=
  ∀ (fcs : Bool) (f : List Byte) (s : State),
    ((s.fp.started = false ∨ s.fp.linkUp = false ∨ framePasses s.fp.own s.fp.typeCode s.fp.subs fcs f = false) →
      exec (.frameReceived fcs f) s = .next s)
    ∧ (s.fp.started = true → s.fp.linkUp = true → framePasses s.fp.own s.fp.typeCode s.fp.subs fcs f = true →
      (readEnvelope s.fp.own f = none → exec (.frameReceived fcs f) s = .next (s.latch .malformed))
      ∧ ∀ m, readEnvelope s.fp.own f = some m →
        (262144 < s.fp.rxHeld + m.size → exec (.frameReceived fcs f) s = .next (s.latch .rxOverflow))
        ∧ (s.fp.rxHeld + m.size ≤ 262144 →
          (m.kind = .presence → m.sender = s.fp.own → s.sa.start = .listening →
            ∃ t, exec (.frameReceived fcs f) s = .next t ∧ t.sa.start = .halted
              ∧ t.sa.latched.has .stationClash = true ∧ t.sa.attnN = false ∧ t.fp.started = false
              ∧ t.fp.linkUp = false ∧ t.pu.timer = none ∧ s.sameSource t ∧ s.sameDesk t)
          ∧ (m.kind = .presence → m.sender = s.fp.own → s.sa.start ≠ .listening →
            exec (.frameReceived fcs f) s = .next (s.latch .stationClash))
          ∧ (¬ (m.kind = .presence ∧ m.sender = s.fp.own) → s.sa.start ≠ .serving →
            exec (.frameReceived fcs f) s = .next s)
          ∧ (¬ (m.kind = .presence ∧ m.sender = s.fp.own) → s.sa.start = .serving →
            (m.kind = .presence ∧ presenceOk m.role m.payload = false →
              exec (.frameReceived fcs f) s = .next (s.latch .malformed))
            ∧ (¬ (m.kind = .presence ∧ presenceOk m.role m.payload = false) →
              (s.takersOf m = [] → exec (.frameReceived fcs f) s = .next s)
              ∧ (s.takersOf m ≠ [] → exec (.frameReceived fcs f) s
                  = .next (s.setFP { s.fp with rx := s.fp.rx ++ [⟨m, s.takersOf m⟩] }))))))

/-- TRANSMIT_ARBITER_TAKE (R174, R167, R133, R176, R186): the oldest entry of the lowest-numbered class that is not
empty leaves its class and its frame is put on the port; a stream's message takes the next sequence; a PRESENCE is
built from the state as it stands and the pulses are cleared. At a desk FU then judges its INPUT. While the link is
DOWN nothing is taken. That the port is free when the command is given (log 23), and that the frame on the port is held
without its check sequence (log 7), are the model's choices. -/
def Obligations.ArbiterTakesLowestClass : Prop :=
  ∀ s : State,
    (s.fp.linkUp = false → exec .transmitArbiterTake s = .next s)
    ∧ (s.servingAs .desk = false → s.judgeAtDesk = s)
    ∧ (s.fp.linkUp = true →
      (∀ (m : Out0) (r : List Out0), s.fp.class0 = m :: r →
        exec .transmitArbiterTake s = .next (s.setFP { s.fp with
          class0 := r
          sending := some (buildFrame s.fp.own s.fp.typeCode s.role (endpointAddress m.parts.2.1) m.parts.1
            m.parts.2.1 m.parts.2.2.1 0 m.parts.2.2.2) }).judgeAtDesk)
      ∧ (∀ (m : OutInput) (r : List OutInput), s.fp.class0 = [] → s.fp.class1 = m :: r →
        exec .transmitArbiterTake s = .next (s.setFP { s.fp with
          class1 := r
          sending := some (buildFrame s.fp.own s.fp.typeCode s.role (endpointAddress m.target) .input m.target 0
            m.seq.toNat (inputBytes m)) }).judgeAtDesk)
      ∧ (∀ r : List Out2, s.fp.class0 = [] → s.fp.class1 = [] → s.fp.class2 = .presence :: r →
        exec .transmitArbiterTake s = .next ((s.setFP { s.fp with
          class2 := r
          sending := some (buildFrame s.fp.own s.fp.typeCode s.role allAddress .presence 0 0 0
            s.presencePayload) }).setSA (SA.drive { s.sa with
              latched := s.sa.latched &&& ~~~(s.sa.pulse.getD 0) })).judgeAtDesk)
      ∧ (∀ (c : Fin 2) (f : BitVec 32) (e : Byte) (z : Size) (d : Nat) (r : List Out2),
        s.fp.class0 = [] → s.fp.class1 = [] → s.fp.class2 = .frameClose c f e z d :: r →
        exec .transmitArbiterTake s = .next ((s.setFP { s.fp with
          class2 := r
          sending := some (buildFrame s.fp.own s.fp.typeCode s.role (streamAddress ⟨s.fp.own, c⟩) .frameClose 0 c
            ((s.ts.ch.get c).seq + 1).toNat (frameCloseBytes f e z d)) }).setTS { s.ts with
              ch := s.ts.ch.set c { s.ts.ch.get c with seq := (s.ts.ch.get c).seq + 1 } }).judgeAtDesk)
      ∧ (∀ m : OutTile, s.fp.class0 = [] → s.fp.class1 = [] → s.fp.class2 = [] → s.fp.class3 = some m →
        exec .transmitArbiterTake s = .next ((s.setFP { s.fp with
          class3 := none
          sending := some (buildFrame s.fp.own s.fp.typeCode s.role (streamAddress ⟨s.fp.own, m.channel⟩) .tile 0
            m.channel ((s.ts.ch.get m.channel).seq + 1).toNat (tileBytes m)) }).setTS { s.ts with
              ch := s.ts.ch.set m.channel { s.ts.ch.get m.channel with
                seq := (s.ts.ch.get m.channel).seq + 1 } }).judgeAtDesk))

/-! ### Control arbitration at the source -/

/-- PRESENCE_TAKEN_BY_CA (R73): a PRESENCE that lists streams of this source hears the desk's viewer entry with the set
of the channels listed; a new entry, or one that gains a channel, is a trigger for a full refresh; a full table latches
VIEWERS-FULL; a PRESENCE that lists none changes nothing. -/
def Obligations.ViewerHeard : Prop :=
  ∀ (s u : State) (m : RxMsg) (w : Channels), s.servingAs .source = true → s.take .ca .presence = some (m, u) →
    (∀ c : Fin 2, w.getLsbD c.val = true ↔ (⟨s.fp.own, c⟩ : Stream) ∈ presenceStreams m.payload) →
    (w = 0 → exec .presenceTakenByCa s = .next u)
    ∧ (w ≠ 0 →
      (∀ v, s.ca.viewers.find? (fun v => v.desk = m.sender) = some v →
        (w &&& ~~~v.watched = 0 → exec .presenceTakenByCa s = .next (u.setCA { s.ca with
          viewers := s.ca.viewers.map fun q =>
            if q.desk = m.sender then { q with watched := w, heard := s.now } else q }))
        ∧ (w &&& ~~~v.watched ≠ 0 → exec .presenceTakenByCa s = .next (u.setCA { s.ca with
          viewers := s.ca.viewers.map fun q =>
            if q.desk = m.sender then { q with watched := w, heard := s.now } else q }).refreshTrigger))
      ∧ ((∀ v ∈ s.ca.viewers, v.desk ≠ m.sender) →
        (s.ca.viewers.length < 32 → exec .presenceTakenByCa s
          = .next (u.setCA { s.ca with viewers := s.ca.viewers ++ [⟨m.sender, w, s.now⟩] }).refreshTrigger)
        ∧ (32 ≤ s.ca.viewers.length → exec .presenceTakenByCa s = .next (u.latch .viewersFull))))

/-- CONTROL_REQUEST_TAKEN, cases 1 to 4 of R76: after the viewer entry is heard (state v), no permit, re-affirmation, a
desk that waits, and a grant of the empty slot; a watched set above 3 is malformed (R190). The grant itself (R77, R85,
R100): the slot, the idle timer, GRANTED then LAMPS, every button released, and WP offered the all-released snapshot,
which is then its queue's reference unless the port is DETACHED. That an idle timer of T_grace 0 counts as expired at
its start is the model's reading (log 35). -/
def Obligations.RequestAnswered : Prop :=
  (∀ (s u v : State) (m : RxMsg) (i : Byte), s.servingAs .source = true → s.take .ca .controlRequest = some (m, u) →
    i = m.payload.getD 0 0 → v = u.hear m.sender ((m.payload.getD 1 0).setWidth 2) →
    (3 < byteAt m.payload 1 → exec .controlRequestTaken s = .next (u.latch .malformed))
    ∧ (byteAt m.payload 1 ≤ 3 →
      (s.ca.rank m.sender = 0 →
        exec .controlRequestTaken s = .next (v.hand0 (.controlVerdict m.sender .noPermit i)))
      ∧ (s.ca.rank m.sender ≠ 0 →
        (∀ h, s.ca.slot = some h → h.desk = m.sender → exec .controlRequestTaken s
          = .next (((v.setCA { v.ca with slot := some { h with id := i, accepted := none } }).hand0
              (.controlVerdict m.sender .granted i)).hand0 (.lamps m.sender s.wp.lamps)))
        ∧ (s.ca.holds m.sender = false → s.ca.waits m.sender = true → exec .controlRequestTaken s
          = .next ((v.setCA { v.ca with
              wait := s.ca.wait.map fun e => if e.desk = m.sender then { e with id := i } else e }).hand0
              (.controlVerdict m.sender
                (.queued ((s.ca.wait.map WaitEntry.desk).idxOf m.sender + 1)) i)))
        ∧ (s.ca.slot = none → s.ca.waits m.sender = false →
          exec .controlRequestTaken s = .next (v.grant m.sender (s.ca.rank m.sender) i)))))
  ∧ (∀ (s : State) (d r : Nat) (i : Byte), s.fp.linkUp = true → s.fp.class0.length ≤ 14 →
      (s.grant d r i).ca = { s.ca with
        slot := some { desk := d, rank := r, id := i, lastChange := s.now, accepted := none,
                       prevSnapshot := .released, prevButtons := 0, prevField := none }
        idle := some s.now, idleExpired := s.ca.grace = 0 }
      ∧ (s.grant d r i).fp
          = { s.fp with class0 := s.fp.class0 ++ [.controlVerdict d .granted i, .lamps d s.wp.lamps] }
      ∧ (s.grant d r i).wp = { s.wp.offerUnlessDetached .released s.now with buttons := 0 }
      ∧ (s.grant d r i).wp = { s.wp with queue := (s.grant d r i).wp.queue, buttons := 0 }
      ∧ (s.wp.port ≠ .detached → (s.grant d r i).wp.reference = .released)
      ∧ (s.wp.port = .detached → (s.grant d r i).wp.queue = s.wp.queue)
      ∧ (s.grant d r i).sa = s.sa ∧ (s.grant d r i).cu = s.cu ∧ (s.grant d r i).ts = s.ts
      ∧ (s.grant d r i).pu = s.pu ∧ s.sameDesk (s.grant d r i))

/-- CONTROL_REQUEST_TAKEN, cases 5 to 7 of R76 (R78, R79, R80): with state v after the viewer entry is heard, a
preemption with the old holder put behind the higher ranks, or ahead of nothing when the list is full; a takeover of an
idle holder, whose idle timer has expired or has run T_grace since its last start (log 35: R71 and R79 give the same
moment); and joining the wait list behind the last entry of the same or a higher rank, displacing a lower-ranked tail,
or refused LIST-FULL. -/
def Obligations.RequestTakesOver : Prop :=
  ∀ (s u v : State) (m : RxMsg) (i : Byte) (h : Slot) (d r : Nat),
    s.servingAs .source = true → s.take .ca .controlRequest = some (m, u) →
    byteAt m.payload 1 ≤ 3 → i = m.payload.getD 0 0 → v = u.hear m.sender ((m.payload.getD 1 0).setWidth 2) →
    d = m.sender → r = s.ca.rank d → r ≠ 0 → s.ca.slot = some h → h.desk ≠ d → s.ca.waits d = false →
    (h.rank < r →
      (s.ca.wait.length < 4 → exec .controlRequestTaken s
        = .next (((v.setCA { v.ca with
            wait := s.ca.wait.takeWhile (fun e => h.rank < e.rank) ++ ⟨h.desk, h.rank, h.id, s.now⟩
              :: s.ca.wait.dropWhile (fun e => h.rank < e.rank) }).hand0
            (.controlWithdrawn h.desk .preemptedQueued h.id)).grant d r i))
      ∧ (∀ (l : List WaitEntry) (e : WaitEntry), s.ca.wait = l ++ [e] → 4 ≤ s.ca.wait.length →
        (e.rank < h.rank → exec .controlRequestTaken s
          = .next ((((v.hand0 (.controlWithdrawn e.desk .displaced e.id)).setCA { v.ca with
              wait := l.takeWhile (fun e => h.rank < e.rank) ++ ⟨h.desk, h.rank, h.id, s.now⟩
                :: l.dropWhile (fun e => h.rank < e.rank) }).hand0
              (.controlWithdrawn h.desk .preemptedQueued h.id)).grant d r i))
        ∧ (h.rank ≤ e.rank → exec .controlRequestTaken s
          = .next ((v.hand0 (.controlWithdrawn h.desk .preempted h.id)).grant d r i))))
    ∧ (h.rank = r → s.ca.idleExpired = true ∨ ranFor s.now s.ca.idle (1000000 * s.ca.grace) →
        exec .controlRequestTaken s
          = .next ((v.hand0 (.controlWithdrawn h.desk .idleTaken h.id)).grant d r i))
    ∧ (r < h.rank ∨ (h.rank = r ∧ s.ca.idleExpired = false ∧ ¬ ranFor s.now s.ca.idle (1000000 * s.ca.grace)) →
      (s.ca.wait.length < 4 → exec .controlRequestTaken s
        = .next ((v.setCA { v.ca with
            wait := s.ca.wait.takeWhile (fun e => r ≤ e.rank) ++ ⟨d, r, i, s.now⟩
              :: s.ca.wait.dropWhile (fun e => r ≤ e.rank) }).hand0
            (.controlVerdict d (.queued ((s.ca.wait.takeWhile (fun e => r ≤ e.rank)).length + 1)) i)))
      ∧ (∀ (l : List WaitEntry) (e : WaitEntry), s.ca.wait = l ++ [e] → 4 ≤ s.ca.wait.length →
        (e.rank < r → exec .controlRequestTaken s
          = .next (((v.hand0 (.controlWithdrawn e.desk .displaced e.id)).setCA { v.ca with
              wait := l.takeWhile (fun e => r ≤ e.rank) ++ ⟨d, r, i, s.now⟩
                :: l.dropWhile (fun e => r ≤ e.rank) }).hand0
              (.controlVerdict d (.queued ((l.takeWhile (fun e => r ≤ e.rank)).length + 1)) i)))
        ∧ (r ≤ e.rank →
          exec .controlRequestTaken s = .next (v.hand0 (.controlVerdict d .listFull i)))))

/-- CONTROL_RELEASE_TAKEN and VIEWER_ENTRY_EXPIRY (R71, R74, R82, R83): the holder's slot is emptied: waiters without a
viewer entry go, the head of what is left is granted with its own rank and id, or WP is told of a change to none; a
waiting desk loses its place; an expired holder is withdrawn EXPIRED first. A viewer entry expires 1000 ms after it was
last heard. An emptied slot leaves the idle timer as it is (R71). -/
def Obligations.SlotEmptied : Prop :=
  (∀ s : State,
    (∀ (e : WaitEntry) (r : List WaitEntry), s.ca.wait.filter (fun e => s.ca.views e.desk) = e :: r →
      s.emptySlot = (s.setCA { s.ca with slot := none, wait := r }).grant e.desk e.rank e.id)
    ∧ (s.ca.wait.filter (fun e => s.ca.views e.desk) = [] →
      s.emptySlot = (s.setCA { s.ca with slot := none, wait := [] }).setWP
        { s.wp.offerUnlessDetached .released s.now with buttons := 0 }))
  ∧ (∀ (s u : State) (m : RxMsg), s.servingAs .source = true → s.take .ca .controlRelease = some (m, u) →
    (s.ca.holds m.sender = true → exec .controlReleaseTaken s = .next u.emptySlot)
    ∧ (s.ca.holds m.sender = false → exec .controlReleaseTaken s
        = .next (u.setCA { s.ca with wait := s.ca.wait.filter fun e => e.desk ≠ m.sender })))
  ∧ (∀ (s : State) (d : Nat), (∃ v ∈ s.ca.viewers, v.desk = d ∧ 1000000 ≤ (s.now - v.heard).toNat) →
    (∀ h, s.ca.slot = some h → h.desk = d → exec (.viewerEntryExpiry d) s
        = .next ((s.setCA { s.ca with viewers := s.ca.viewers.filter fun v => v.desk ≠ d }).hand0
            (.controlWithdrawn d .expired h.id)).emptySlot)
    ∧ (s.ca.holds d = false → exec (.viewerEntryExpiry d) s
        = .next (s.setCA { s.ca with
            viewers := s.ca.viewers.filter fun v => v.desk ≠ d
            wait := s.ca.wait.filter fun e => e.desk ≠ d })))

/-- INPUT_TAKEN (R86, R87, R88, R96, R99, R102, R103, R105, R190): malformed content; an accepted INPUT sets the
accepted sequence and the compared values, is the last change when it changed something, and is applied at WP: the
snapshot by the four cases of R96, the buttons, the position, the wheel, and resume signalled when R105 calls for it,
everything else of WP as before; an older or differently numbered one is discarded; another desk's is answered
NOT-HOLDER unless a note of it counts. That a snapshot which takes the tail's place counts as added for R105, and one
that only removes the tail does not, is the model's reading (log 25), as is that an idle timer of T_grace 0 counts as
expired at its start (log 35). -/
def Obligations.InputAdmitted : Prop :=
  ∀ (s u : State) (m : RxMsg), s.servingAs .source = true → s.take .ca .input = some (m, u) →
    (readInput m.payload = none → exec .inputTaken s = .next (u.latch .malformed))
    ∧ ∀ i, readInput m.payload = some i →
      (∀ h, s.ca.slot = some h → h.desk = m.sender →
        (i.id = h.id → (h.accepted = none ∨ ∃ a, h.accepted = some a ∧ 1 ≤ (m.seq - a).toNat
            ∧ (m.seq - a).toNat ≤ 32767) →
          ∃ (t : State) (k : Snapshot) (adds wakes : Prop), exec .inputTaken s = .next t
            ∧ t.ca = { s.ca with
                slot := some { h with
                  accepted := some m.seq
                  lastChange := if h.changedBy i then s.now else h.lastChange
                  prevSnapshot := i.snapshot
                  prevButtons := i.buttons
                  prevField := if i.field.isSome then i.field else h.prevField }
                idle := if h.changedBy i then some s.now else s.ca.idle
                idleExpired := if h.changedBy i then decide (s.ca.grace = 0) else s.ca.idleExpired }
            ∧ (h.changedBy i = true ↔ i.snapshot ≠ h.prevSnapshot ∨ i.buttons ≠ h.prevButtons ∨ i.wheel ≠ 0
                ∨ (i.field ≠ none ∧ i.field ≠ h.prevField))
            ∧ t.wp = { s.wp with
                queue := t.wp.queue, buttons := i.buttons, x := t.wp.x, y := t.wp.y
                wheel := max (-32768) (min 32767 (s.wp.wheel + i.wheel))
                resuming := t.wp.resuming, resumeGap := t.wp.resumeGap }
            -- the snapshot, against the reference k
            ∧ (s.wp.queue = [] → k = s.wp.presented) ∧ (∀ l e, s.wp.queue = l ++ [e] → k = e.snapshot)
            ∧ (s.wp.port = .detached ∨ i.snapshot = k → t.wp.queue = s.wp.queue)
            ∧ (s.wp.port ≠ .detached → i.snapshot ≠ k →
              (s.wp.queue.length < 32 → adds ∧ t.wp.queue = s.wp.queue ++ [⟨i.snapshot, s.now, false⟩])
              ∧ (∀ l a e, 32 ≤ s.wp.queue.length → s.wp.queue = l ++ [a, e] →
                (a.snapshot = i.snapshot → ¬ adds ∧ t.wp.queue = l ++ [a])
                ∧ (a.snapshot ≠ i.snapshot → adds ∧ t.wp.queue = l ++ [a, ⟨i.snapshot, s.now, false⟩])))
            ∧ (s.wp.port ≠ .detached → i.snapshot = k → ¬ adds)
            -- the position
            ∧ (i.field = none → t.wp.x = s.wp.x ∧ t.wp.y = s.wp.y)
            ∧ (∀ f z e, i.field = some f → (s.wp.places.get f.channel).mode = some z → s.wp.extent = some e →
                t.wp.x = min 32767 (((s.wp.places.get f.channel).px + min f.x (z.w - 1)) * 32768 / e.w)
                ∧ t.wp.y = min 32767 (((s.wp.places.get f.channel).py + min f.y (z.h - 1)) * 32768 / e.h))
            ∧ (∀ f, i.field = some f → (s.wp.places.get f.channel).mode = none ∨ s.wp.extent = none →
                t.wp.x = s.wp.x ∧ t.wp.y = s.wp.y)
            -- remote wake
            ∧ (wakes ↔ s.wp.port = .suspended .configured ∧ s.wp.remoteWake = true
                ∧ (adds ∨ i.buttons ≠ s.wp.buttons ∨ t.wp.x ≠ s.wp.x ∨ t.wp.y ≠ s.wp.y)
                ∧ ∀ w, s.wp.resumeGap = some w → 100000 ≤ (s.now - w).toNat)
            ∧ (wakes → t.wp.resuming = some s.now ∧ t.wp.resumeGap = some s.now)
            ∧ (¬ wakes → t.wp.resuming = s.wp.resuming ∧ t.wp.resumeGap = s.wp.resumeGap)
            ∧ t.fp = u.fp ∧ t.sa = s.sa ∧ t.cu = s.cu ∧ t.ts = s.ts ∧ t.pu = s.pu ∧ s.sameDesk t)
        ∧ (i.id ≠ h.id ∨ (∃ a, h.accepted = some a ∧ ((m.seq - a).toNat = 0 ∨ 32768 ≤ (m.seq - a).toNat)) →
          exec .inputTaken s = .next u))
      ∧ (s.ca.holds m.sender = false → s.ca.noted m.sender = true → exec .inputTaken s = .next u)
      ∧ (s.ca.holds m.sender = false → s.ca.noted m.sender = false → ∃ t, exec .inputTaken s = .next t
          ∧ t = (u.hand0 (.controlWithdrawn m.sender .notHolder i.id)).setCA { s.ca with notes := t.ca.notes }
          ∧ t.ca.noted m.sender = true)

/-- ATTN_CLEAR_TAKEN, WAIT_ENTRY_EXPIRY, IDLE_TIMER_EXPIRY and NOT_HOLDER_NOTE_EXPIRY (R89, R188, R84, R71, R88): the
holder's ATTN-CLEAR clears every latched condition that does not stand and the line is driven anew, any other is
discarded; a wait entry goes when T_wait has passed, with EXPIRED; the idle timer has expired after T_grace; a note
counts no more after 100 ms. -/
def Obligations.ArbiterTimersAndClear : Prop :=
  (∀ (s u : State) (m : RxMsg), s.servingAs .source = true → s.take .ca .attnClear = some (m, u) →
    (s.ca.holds m.sender = true → exec .attnClearTaken s
      = .next (u.setSA (SA.drive { s.sa with latched := s.sa.latched &&& s.sa.current })))
    ∧ (s.ca.holds m.sender = false → exec .attnClearTaken s = .next u))
  ∧ (∀ (s : State) (d : Nat) (e : WaitEntry), s.ca.wait.find? (fun e => e.desk = d) = some e →
    1000000 * s.ca.waitLife ≤ (s.now - e.entered).toNat → exec (.waitEntryExpiry d) s
      = .next ((s.setCA { s.ca with wait := s.ca.wait.filter fun e => e.desk ≠ d }).hand0
          (.controlWithdrawn d .expired e.id)))
  ∧ (∀ (s : State) (t : Time), s.ca.idle = some t →
    1000000 * s.ca.grace ≤ (s.now - t).toNat → exec .idleTimerExpiry s
      = .next (s.setCA { s.ca with idle := none, idleExpired := true }))
  ∧ (∀ (s : State) (d : Nat),
    (∀ n ∈ s.ca.notes, n.desk = d → ∀ u, n.timer = some u → 100000 ≤ (s.now - u).toNat) →
      ∃ t, exec (.notHolderNoteExpiry d) s = .next t ∧ t.ca.noted d = false
    ∧ (∀ q, q ≠ d → t.ca.noted q = s.ca.noted q) ∧ t = s.setCA { s.ca with notes := t.ca.notes })

/-! ### Tile sending -/

/-- REPAIR_REQUEST_TAKEN and REFRESH_WINDOW_EXPIRY (R134, R135), and what a full refresh leaves: the first trigger
refreshes and starts the window, one inside it sets the flag; the window's end, after 500 ms, refreshes when the flag is
set and stops otherwise. A refreshed LOCKED channel's set holds every tile of its grid, those that were in it as they
were, the others with the current frame number, at their raster place behind every older tile; nothing else of TS
changes. -/
def Obligations.RefreshResult : Prop :=
  (∀ s : State, s.fullRefresh = s.setTS { s.ts with
      ch := ⟨s.ts.ch.zero.refresh s.cu.ch.zero, s.ts.ch.one.refresh s.cu.ch.one⟩
      window := some s.now, refreshPending := false })
  ∧ (∀ (k : TsChannel) (c : Channel),
    (c.state ≠ .locked → k.refresh c = k)
    ∧ (∀ r, c.state = .locked → c.mode = some r →
      (k.dirty.map DirtyTile.tile).Nodup → (∀ d ∈ k.dirty, d.tile ∈ gridTiles ⟨r.w, r.h⟩) →
      k.refresh c = { k with dirty := (k.refresh c).dirty }
      ∧ (∀ x, x ∈ (k.refresh c).dirty.map DirtyTile.tile ↔ x ∈ gridTiles ⟨r.w, r.h⟩)
      ∧ ((k.refresh c).dirty.map DirtyTile.tile).Nodup
      ∧ (∀ d ∈ k.dirty, d ∈ (k.refresh c).dirty)
      ∧ (∀ d ∈ (k.refresh c).dirty, d ∉ k.dirty → d.age = c.frame)
      ∧ ∃ older new, (k.refresh c).dirty = older ++ new ∧ older = k.dirty.filter (fun d => d.age ≠ c.frame)
          ∧ (∀ d ∈ new, d.age = c.frame) ∧ new.Pairwise fun a b => a.tile.before b.tile = true))
  ∧ (∀ (s u : State) (m : RxMsg), s.servingAs .source = true → s.take .ts .repairRequest = some (m, u) →
    (s.ts.window = none → exec .repairRequestTaken s = .next u.fullRefresh)
    ∧ (∀ w, s.ts.window = some w →
      exec .repairRequestTaken s = .next (u.setTS { s.ts with refreshPending := true })))
  ∧ (∀ (s : State) (w : Time), s.ts.window = some w → 500000 ≤ (s.now - w).toNat →
    (s.ts.refreshPending = true → exec .refreshWindowExpiry s = .next s.fullRefresh)
    ∧ (s.ts.refreshPending = false → exec .refreshWindowExpiry s = .next (s.setTS { s.ts with window := none })))

/-- TILE_CHOICE (R125 to R131): a ready TS with a choice and tokens enough spends 8 times the cost, codes the tile from
the store, hands it to class 3 and takes it out of its set, or advances the cursor and lowers the allowance; without
tokens enough, or not ready, or with no candidate, nothing changes. A channel's dirty candidate is the first eligible
tile of its set. The one dirty candidate, or of two the one of the greater wait, channel 0's at equal waits, is chosen;
a rolling candidate only when there is no dirty one, channel 0's before channel 1's. -/
def Obligations.TileChosen : Prop :=
  (∀ (s : State) (x : TileChoice) (r : Meas) (t : OutTile), s.tsReady = true → s.tileChoice = some x →
    (s.cu.ch.get x.channel).state = .locked → (s.cu.ch.get x.channel).mode = some r →
    t = s.codeTile x ⟨r.w, r.h⟩ →
    (8 * (24 + t.payload.length) ≤ s.ts.tokens → ∃ q, exec .tileChoice s = .next q
      ∧ q.fp = { s.fp with class3 := some t } ∧ q.ts.tokens + 8 * (24 + t.payload.length) = s.ts.tokens
      ∧ q.ts = { s.ts with tokens := q.ts.tokens, ch := q.ts.ch }
      ∧ (∀ c, c ≠ x.channel → q.ts.ch.get c = s.ts.ch.get c)
      ∧ (x.dirty = true → q.ts.ch.get x.channel = { s.ts.ch.get x.channel with
          dirty := (s.ts.ch.get x.channel).dirty.filter fun d => d.tile ≠ x.tile })
      ∧ (x.dirty = false → q.ts.ch.get x.channel = { s.ts.ch.get x.channel with
          cursor := nextCursor ⟨r.w, r.h⟩ (s.ts.ch.get x.channel).cursor
          allowance := (s.ts.ch.get x.channel).allowance - 1 })
      ∧ q.sa = s.sa ∧ q.pu = s.pu ∧ q.cu = s.cu ∧ q.ca = s.ca ∧ q.wp = s.wp ∧ s.sameDesk q)
    ∧ (s.ts.tokens < 8 * (24 + t.payload.length) → exec .tileChoice s = .next s)
    ∧ t.payload.length
        = t.coding.payloadLength (tileSize ⟨r.w, r.h⟩ x.tile).w (tileSize ⟨r.w, r.h⟩ x.tile).h
    ∧ (s.cu.ch.get x.channel).eligible x.tile = true)
  ∧ (∀ s : State, s.tsReady = false ∨ s.tileChoice = none → exec .tileChoice s = .next s)
  ∧ (∀ (s : State) (d e : DirtyTile), dirtyCandidate s.cu.ch.zero s.ts.ch.zero = some d →
      dirtyCandidate s.cu.ch.one s.ts.ch.one = some e →
      (s.cu.ch.one.frame - e.age).toNat ≤ (s.cu.ch.zero.frame - d.age).toNat →
      s.tileChoice = some ⟨0, d.tile, true⟩)
  ∧ (∀ (s : State) (d e : DirtyTile), dirtyCandidate s.cu.ch.zero s.ts.ch.zero = some d →
      dirtyCandidate s.cu.ch.one s.ts.ch.one = some e →
      (s.cu.ch.zero.frame - d.age).toNat < (s.cu.ch.one.frame - e.age).toNat →
      s.tileChoice = some ⟨1, e.tile, true⟩)
  -- one dirty candidate
  ∧ (∀ (s : State) (d : DirtyTile), dirtyCandidate s.cu.ch.zero s.ts.ch.zero = some d →
      dirtyCandidate s.cu.ch.one s.ts.ch.one = none → s.tileChoice = some ⟨0, d.tile, true⟩)
  ∧ (∀ (s : State) (e : DirtyTile), dirtyCandidate s.cu.ch.zero s.ts.ch.zero = none →
      dirtyCandidate s.cu.ch.one s.ts.ch.one = some e → s.tileChoice = some ⟨1, e.tile, true⟩)
  -- none: the rolling candidates, or nothing
  ∧ (∀ s : State, dirtyCandidate s.cu.ch.zero s.ts.ch.zero = none → dirtyCandidate s.cu.ch.one s.ts.ch.one = none →
      (∀ x, rollingCandidate s.cu.ch.zero s.ts.ch.zero = some x → s.tileChoice = some ⟨0, x, false⟩)
      ∧ (∀ x, rollingCandidate s.cu.ch.zero s.ts.ch.zero = none → rollingCandidate s.cu.ch.one s.ts.ch.one = some x →
          s.tileChoice = some ⟨1, x, false⟩)
      ∧ (rollingCandidate s.cu.ch.zero s.ts.ch.zero = none → rollingCandidate s.cu.ch.one s.ts.ch.one = none →
          s.tileChoice = none))
  -- what the candidates are, and the cursor's advance
  ∧ (∀ (c : Channel) (k : TsChannel) (d : DirtyTile), dirtyCandidate c k = some d ↔
      ∃ l r, k.dirty = l ++ d :: r ∧ c.eligible d.tile = true ∧ ∀ e ∈ l, c.eligible e.tile = false)
  ∧ (∀ (c : Channel) (k : TsChannel) (x : Tile), rollingCandidate c k = some x ↔
      x = k.cursor ∧ 1 ≤ k.allowance ∧ c.eligible x = true)
  ∧ (∀ (c : Channel) (x : Tile), c.eligible x = true ↔
      c.state = .locked ∧ c.row ≠ some x.row ∧ x.row ∈ c.completed)
  ∧ (∀ (z : Size) (x : Tile), (x.col + 1 < tilesAlong z.w → nextCursor z x = ⟨x.col + 1, x.row⟩)
      ∧ (tilesAlong z.w ≤ x.col + 1 → x.row + 1 < tilesAlong z.h → nextCursor z x = ⟨0, x.row + 1⟩)
      ∧ (tilesAlong z.w ≤ x.col + 1 → tilesAlong z.h ≤ x.row + 1 → nextCursor z x = ⟨0, 0⟩))

/-! ### Capture -/

/-- FRAME_SYNC (R108, R110, R111, R112, R113, R114, R117, R132, R130): a frame's counts give a regular measurement or
none; two agree, and one is within limits, as R108 says; the period is the time since the last sync, and a frame longer
than 100 ms completes no measurement, for the expiry comes first. The sync timer restarts and, by the channel's state,
measuring begins, the run grows, or is started anew; a third agreeing measurement locks (a new epoch, frame 0, every
tile dirty, WP and PU told) or enters UNSUPPORTED, which an agreeing measurement leaves alone and any other ends, back
in MEASURING, with CHANNEL-UNSUPPORTED standing as the other channel says; a LOCKED channel takes a frame end with its
FRAME-CLOSE, or leaves LOCKED with the measurement just completed as reference and run 1. The model's choices: the
valid lines of a LOCKED channel's frame are those its VALID_LINE_ENDs gave, and an expiry that is overdue is taken
before the sync (log 8). The model's readings: an irregular measurement of a LOCKED channel, which only one without a
locked mode could have, leaves reference none and run 0 (log 15); a channel in UNSUPPORTED keeps its run of 3, and one
that leaves LOCKED keeps its row in progress, its completed row and the set of completed rows (log 22). -/
def Obligations.FrameSyncResult : Prop :=
  (∀ (l : List Nat) (n p : Nat), (measure l n p = none ↔ ∃ a ∈ l, ∃ b ∈ l, a ≠ b)
    ∧ ∀ m, measure l n p = some m → (∀ a ∈ l, m.w = min 4095 a) ∧ (l = [] → m.w = 0)
      ∧ m.h = min 4095 l.length ∧ m.lines = min 4095 n ∧ m.period = p)
  ∧ (∀ a b : Meas, a.agrees b = true ↔ a.w = b.w ∧ a.h = b.h ∧ a.lines = b.lines
      ∧ a.period ≤ b.period + 20 ∧ b.period ≤ a.period + 20)
  ∧ (∀ m : Meas, m.withinLimits = true ↔ 640 ≤ m.w ∧ m.w ≤ 2560 ∧ 480 ≤ m.h ∧ m.h ≤ 1600)
  ∧ ∀ (s : State) (i : Fin 2) (n : FrameCounts) (c : Channel) (x : Option Meas), s.servingAs .source = true →
    c = { s.cu.ch.get i with sync := some s.now, line := 0 } → x = (s.cu.ch.get i).measurement n s.now →
    -- the measurement, from the sync before this one
    (∀ u, (s.cu.ch.get i).sync = some u →
      (c.state ≠ .locked → x = measure n.validLines n.totalLines (s.now - u).toNat)
      ∧ (∀ r, c.state = .locked → c.mode = some r →
          x = measure (List.replicate (s.cu.ch.get i).line r.w) n.totalLines (s.now - u).toNat))
    -- a frame longer than 100 ms
    ∧ (∀ u t, (s.cu.ch.get i).sync = some u → c.state ≠ .noSignal → 100000 < (s.now - u).toNat →
        exec (.syncTimerExpiry i) s = .next t →
        exec (.frameSync i n) s = exec (.frameSync i n) t ∧ (t.cu.ch.get i).state = .noSignal)
    ∧ (c.state = .noSignal → exec (.frameSync i n) s
        = .next (s.setChannel i { c with state := .measuring, ref := none, run := 0 }))
    ∧ ((∀ u, (s.cu.ch.get i).sync = some u → (s.now - u).toNat ≤ 100000) →
      (c.state = .measuring → x = none → exec (.frameSync i n) s
          = .next (s.setChannel i { c with ref := none, run := 0 }))
      ∧ (∀ m, c.state = .measuring → x = some m → (∀ r, c.ref = some r → m.agrees r = false) →
          exec (.frameSync i n) s = .next (s.setChannel i { c with ref := some m, run := 1 }))
      ∧ (∀ m r, c.state = .measuring → x = some m → c.ref = some r → m.agrees r = true →
          (c.run + 1 < 3 → exec (.frameSync i n) s = .next (s.setChannel i { c with run := c.run + 1 }))
          ∧ (3 ≤ c.run + 1 → r.withinLimits = false → exec (.frameSync i n) s
              = .next ((s.setChannel i { c with run := c.run + 1, state := .unsupported }).raise .channelUnsupported))
          ∧ (3 ≤ c.run + 1 → r.withinLimits = true → ∃ t, exec (.frameSync i n) s = .next t
              ∧ t.cu.ch.get i = { c with
                  state := .locked, mode := some r, ref := none, run := 0, epoch := c.epoch + 1, frame := 0,
                  row := none, through := none, completed := [] }
              ∧ t.cu.ch.get (1 - i) = s.cu.ch.get (1 - i) ∧ t.cu.store = s.cu.store
              ∧ t.ts.ch.get i = { s.ts.ch.get i with
                  sigs := List.replicate (tilesAlong r.w * tilesAlong r.h) none
                  dirty := (gridTiles ⟨r.w, r.h⟩).map fun x => ⟨x, 0⟩, cursor := ⟨0, 0⟩, allowance := 0 }
              ∧ t.ts.ch.get (1 - i) = s.ts.ch.get (1 - i)
              ∧ (t.wp.places.get i).mode = some ⟨r.w, r.h⟩ ∧ t.wp.extent = extentOf t.wp.places
              ∧ t.wp.x = s.wp.x ∧ t.wp.y = s.wp.y ∧ t.pu.timer = some s.now
              ∧ (s.fp.linkUp = true → Out2.presence ∈ t.fp.class2) ∧ t.ca = s.ca ∧ s.sameDesk t))
      ∧ (∀ m r, c.state = .unsupported → x = some m → c.ref = some r → m.agrees r = true →
          exec (.frameSync i n) s = .next (s.setChannel i c))
      ∧ (∀ m, c.state = .unsupported → x = some m → (∀ r, c.ref = some r → m.agrees r = false) →
          exec (.frameSync i n) s
            = .next ((s.setChannel i { c with state := .measuring, ref := some m, run := 1 }).setCurrent
                .channelUnsupported ((s.cu.ch.get (1 - i)).state = .unsupported)))
      ∧ (c.state = .unsupported → x = none →
          exec (.frameSync i n) s
            = .next ((s.setChannel i { c with state := .measuring, ref := none, run := 0 }).setCurrent
                .channelUnsupported ((s.cu.ch.get (1 - i)).state = .unsupported)))
      ∧ (∀ m r, c.state = .locked → c.mode = some r → x = some m → m.agrees r = true →
          exec (.frameSync i n) s = .next (((s.handFrameClose (.frameClose i c.frame c.epoch ⟨r.w, r.h⟩
              (s.ts.ch.get i).dirty.length)).setTsChannel i { s.ts.ch.get i with allowance := s.ts.k }).setChannel i
                { c with frame := c.frame + 1 }))
      ∧ (c.state = .locked → (∀ m r, x = some m → c.mode = some r → m.agrees r = false) →
          ∃ t, exec (.frameSync i n) s = .next t
            ∧ (∀ m, x = some m →
                t.cu.ch.get i = { c with state := .measuring, mode := none, ref := some m, run := 1 })
            ∧ (x = none → t.cu.ch.get i = { c with state := .measuring, mode := none, ref := none, run := 0 })
            ∧ t.cu.ch.get (1 - i) = s.cu.ch.get (1 - i) ∧ t.cu.store = s.cu.store
            ∧ t.ts.ch.get (1 - i) = s.ts.ch.get (1 - i)
            ∧ t.ts.ch.get i = { s.ts.ch.get i with dirty := [], allowance := 0 }
            ∧ (t.wp.places.get i).mode = none ∧ t.wp.extent = extentOf t.wp.places ∧ t.pu.timer = some s.now
            ∧ (s.fp.linkUp = true → Out2.presence ∈ t.fp.class2) ∧ t.ca = s.ca ∧ s.sameDesk t))

/-- VALID_LINE_END (R113, R115, R116, R118): a line of a LOCKED channel is written into the store, each pixel in its
place and every other byte of the store as before, its tile row is the row in progress, and the next line's number
follows; a line of another width, or one after the locked height, leaves LOCKED, with every byte outside that line's
places as before, and the whole store after the locked height. The model's choices and readings: a line is written as
one step at its end, the pixels of a line of another width that lie within the locked width among them (log 9); the row
in progress, the completed row and the set of completed rows stay when LOCKED is left for MEASURING (log 22). -/
def Obligations.ValidLineResult : Prop :=
  ∀ (s : State) (i : Fin 2) (px : List Colour) (r : Meas), s.servingAs .source = true →
    (s.cu.ch.get i).state = .locked → (s.cu.ch.get i).mode = some r →
    ((s.cu.ch.get i).line < r.h → px.length = r.w → ∃ t, exec (.validLineEnd i px) s = .next t
      ∧ t.cu.ch.get i = { s.cu.ch.get i with
          row := some ((s.cu.ch.get i).line / 16), line := (s.cu.ch.get i).line + 1 }
      ∧ t.cu.ch.get (1 - i) = s.cu.ch.get (1 - i)
      ∧ (s.cu.store.wf = true → r.w ≤ 2560 → r.h ≤ 1600 →
          (∀ x c, px[x]? = some c → t.cu.store.pixel i.val x (s.cu.ch.get i).line = c)
          ∧ (∀ a, (∀ x, x < r.w → a ≠ pixelAddress i.val x (s.cu.ch.get i).line
                ∧ a ≠ pixelAddress i.val x (s.cu.ch.get i).line + 1
                ∧ a ≠ pixelAddress i.val x (s.cu.ch.get i).line + 2) → t.cu.store.read a = s.cu.store.read a))
      ∧ t.sa = s.sa ∧ t.pu = s.pu ∧ t.fp = s.fp ∧ t.ts = s.ts ∧ t.ca = s.ca ∧ t.wp = s.wp ∧ s.sameDesk t)
    ∧ (r.h ≤ (s.cu.ch.get i).line ∨ px.length ≠ r.w → ∃ t, exec (.validLineEnd i px) s = .next t
      ∧ t.cu.ch.get i = { s.cu.ch.get i with
          state := .measuring, mode := none, ref := none, run := 0, line := (s.cu.ch.get i).line + 1 }
      ∧ t.cu.ch.get (1 - i) = s.cu.ch.get (1 - i)
      ∧ (r.h ≤ (s.cu.ch.get i).line → t.cu.store = s.cu.store)
      ∧ (s.cu.store.wf = true → r.w ≤ 2560 → r.h ≤ 1600 → (s.cu.ch.get i).line < r.h →
          (∀ x c, x < r.w → px[x]? = some c → t.cu.store.pixel i.val x (s.cu.ch.get i).line = c)
          ∧ (∀ a, (∀ x, x < r.w → x < px.length → a ≠ pixelAddress i.val x (s.cu.ch.get i).line
                ∧ a ≠ pixelAddress i.val x (s.cu.ch.get i).line + 1
                ∧ a ≠ pixelAddress i.val x (s.cu.ch.get i).line + 2) → t.cu.store.read a = s.cu.store.read a))
      ∧ t.ts.ch.get (1 - i) = s.ts.ch.get (1 - i)
      ∧ t.ts.ch.get i = { s.ts.ch.get i with dirty := [], allowance := 0 }
      ∧ (t.wp.places.get i).mode = none ∧ t.wp.extent = extentOf t.wp.places ∧ t.pu.timer = some s.now
      ∧ (s.fp.linkUp = true → Out2.presence ∈ t.fp.class2) ∧ t.ca = s.ca ∧ s.sameDesk t)

/-- TILE_ROW_BEGIN, TILE_ROW_COMPLETE, SYNC_TIMER_EXPIRY and SYNC_PERIOD_END (R118, R119, R120, R112, R115, R107): a
row of the grid begins at its first valid line and at no other; it completes once its last line has been written, before
another is taken: then it is completed through, a tile of it becomes eligible, every tile of it has its new signature,
and each that changed and no other joins the dirty set; a sync lost for 100 ms takes the channel to NO-SIGNAL; the pulse
level is the level held for the shorter part. That a row event out of its place changes nothing, and that the grid's
last row may complete between frames, is the model's choice (logs 1 and 9). -/
def Obligations.RowsAndSync : Prop :=
  (∀ (s : State) (i : Fin 2) (r : Meas) (n : Nat), s.servingAs .source = true → (s.cu.ch.get i).state = .locked →
    (s.cu.ch.get i).mode = some r →
    (n < tilesAlong r.h → (s.cu.ch.get i).line = 16 * n →
      exec (.tileRowBegin i n) s = .next (s.setChannel i { s.cu.ch.get i with row := some n }))
    ∧ (tilesAlong r.h ≤ n ∨ (s.cu.ch.get i).line ≠ 16 * n → exec (.tileRowBegin i n) s = .next s)
    ∧ ((s.cu.ch.get i).row = none → exec (.tileRowComplete i) s = .next s)
    ∧ ((s.cu.ch.get i).row = some n → (s.cu.ch.get i).line ≠ min (16 * (n + 1)) r.h →
        (s.cu.ch.get i).line ≠ 0 ∨ n + 1 ≠ tilesAlong r.h → exec (.tileRowComplete i) s = .next s))
  ∧ (∀ (s : State) (i : Fin 2) (r : Meas) (n : Nat), s.servingAs .source = true → (s.cu.ch.get i).state = .locked →
    (s.cu.ch.get i).mode = some r → (s.cu.ch.get i).row = some n → n < tilesAlong r.h →
    ((s.cu.ch.get i).line = min (16 * (n + 1)) r.h ∨ ((s.cu.ch.get i).line = 0 ∧ n + 1 = tilesAlong r.h)) →
    (s.ts.ch.get i).sigs.length = tilesAlong r.w * tilesAlong r.h →
    ∃ t, exec (.tileRowComplete i) s = .next t
      ∧ (t.cu.ch.get i).row = none ∧ (t.cu.ch.get i).through = some n
      ∧ t.cu.ch.get i = { s.cu.ch.get i with
          row := none, through := some n, completed := (t.cu.ch.get i).completed }
      ∧ (∀ k, k ∈ (t.cu.ch.get i).completed ↔ k = n ∨ k ∈ (s.cu.ch.get i).completed)
      ∧ t.cu.store = s.cu.store
      ∧ (∀ x : Nat, x < tilesAlong r.w →
          (t.ts.ch.get i).sigs[n * tilesAlong r.w + x]?
            = some (some (signature (tilePixels s.cu.store i.val ⟨r.w, r.h⟩ ⟨x, n⟩)))
          ∧ (dirtyHas (t.ts.ch.get i).dirty ⟨x, n⟩ = true ↔ dirtyHas (s.ts.ch.get i).dirty ⟨x, n⟩ = true
              ∨ (s.ts.ch.get i).sigs[n * tilesAlong r.w + x]?
                  ≠ some (some (signature (tilePixels s.cu.store i.val ⟨r.w, r.h⟩ ⟨x, n⟩)))))
      ∧ (∀ j : Nat, (∀ x, x < tilesAlong r.w → j ≠ n * tilesAlong r.w + x) →
          (t.ts.ch.get i).sigs[j]? = (s.ts.ch.get i).sigs[j]?)
      ∧ (s.ts.ch.get i).dirty.Sublist (t.ts.ch.get i).dirty
      ∧ (∀ d ∈ (t.ts.ch.get i).dirty, d ∈ (s.ts.ch.get i).dirty
          ∨ (d.tile.row = n ∧ d.tile.col < tilesAlong r.w ∧ d.age = (s.cu.ch.get i).frame
              ∧ dirtyHas (s.ts.ch.get i).dirty d.tile = false))
      ∧ t.ts.ch.get i = { s.ts.ch.get i with sigs := (t.ts.ch.get i).sigs, dirty := (t.ts.ch.get i).dirty }
      ∧ t.ts = { s.ts with ch := t.ts.ch } ∧ t.ts.ch.get (1 - i) = s.ts.ch.get (1 - i)
      ∧ t.cu.ch.get (1 - i) = s.cu.ch.get (1 - i) ∧ t.sa = s.sa ∧ t.pu = s.pu ∧ t.fp = s.fp ∧ t.ca = s.ca ∧ t.wp = s.wp
      ∧ s.sameDesk t)
  ∧ (∀ (s : State) (i : Fin 2) (u : Time), (s.cu.ch.get i).sync = some u →
    100000 ≤ (s.now - u).toNat → ∃ t, exec (.syncTimerExpiry i) s = .next t
      ∧ (t.cu.ch.get i).state = .noSignal ∧ (t.cu.ch.get i).sync = none ∧ (t.cu.ch.get i).ref = none
      ∧ (t.cu.ch.get i).run = 0 ∧ (t.cu.ch.get i).row = none ∧ (t.cu.ch.get i).through = none
      ∧ (t.cu.ch.get i).epoch = (s.cu.ch.get i).epoch ∧ (t.cu.ch.get i).frame = (s.cu.ch.get i).frame
      ∧ t.cu.ch.get (1 - i) = s.cu.ch.get (1 - i) ∧ t.cu.store = s.cu.store
      ∧ ((s.cu.ch.get i).state = .locked → (t.cu.ch.get i).mode = none
          ∧ t.ts.ch.get i = { s.ts.ch.get i with dirty := [], allowance := 0 } ∧ (t.wp.places.get i).mode = none
          ∧ t.pu.timer = some s.now)
      ∧ ((s.cu.ch.get i).state ≠ .locked → t.ts = s.ts ∧ t.wp = s.wp ∧ t.pu = s.pu ∧ t.fp = s.fp)
      ∧ ((s.cu.ch.get i).state = .unsupported →
          (t.sa.current.has .channelUnsupported = true ↔ (s.cu.ch.get (1 - i)).state = .unsupported)))
  ∧ (∀ (s : State) (i : Fin 2) (hi lo : Nat), s.servingAs .source = true →
      exec (.syncPeriodEnd i .hsync hi lo) s
        = .next (s.setChannel i { s.cu.ch.get i with hPulse := decide (hi ≤ lo) })
      ∧ exec (.syncPeriodEnd i .vsync hi lo) s
        = .next (s.setChannel i { s.cu.ch.get i with vPulse := decide (hi ≤ lo) }))

/-! ### The workstation port -/

/-- BUS_POWER_APPEARS, BUS_POWER_LOST and BUS_RESET (R91, R93, R94, R104): a DETACHED port of a serving source connects
with the effects of a bus reset, LAMPS of the empty set to the holder among them; a bus reset in every connected state;
lost power detaches, with WORKSTATION-DETACHED and LAMPS to the holder when the lamps were not empty. Buttons, position
and origins stay. That BUS_RESET in DETACHED changes nothing is the model's choice (log 1); that a bus reset and a loss
of power clear the time of the last resume is its reading (log 25). -/
def Obligations.BusPowerAndReset : Prop :=
  (∀ s : State, s.servingAs .source = true → s.wp.port = .detached → ∃ t, exec .busPowerAppears s = .next t
    ∧ t.wp = { s.wp with
        vbus := true, port := .connected .default, address := 0, remoteWake := false, queue := []
        presented := .released, wheel := 0, delivered := none, lamps := 0, resuming := none, resumeGap := none }
    ∧ t.sa.current.has .workstationDetached = false
    ∧ (s.ca.slot = none → t.fp = s.fp)
    ∧ (∀ h, s.ca.slot = some h → s.fp.linkUp = true → s.fp.class0.length < 16 →
        t.fp = { s.fp with class0 := s.fp.class0 ++ [.lamps h.desk 0] } ∧ t.sa.latched = s.sa.latched)
    ∧ t.ca = s.ca ∧ t.cu = s.cu ∧ t.ts = s.ts ∧ t.pu = s.pu ∧ s.sameDesk t)
  ∧ (∀ s : State, s.servingAs .source = true → s.wp.port ≠ .detached →
    (∃ t, exec .busReset s = .next t ∧ t.wp = s.wp.busReset
      ∧ (s.ca.slot = none → t.fp = s.fp)
      ∧ (∀ h, s.ca.slot = some h → s.fp.linkUp = true → s.fp.class0.length < 16 →
          t.fp = { s.fp with class0 := s.fp.class0 ++ [.lamps h.desk 0] } ∧ t.sa = s.sa)
      ∧ t.ca = s.ca ∧ t.cu = s.cu ∧ t.ts = s.ts ∧ t.pu = s.pu ∧ s.sameDesk t)
    ∧ (∃ t, exec .busPowerLost s = .next t
      ∧ t.wp = { s.wp with
          vbus := false, port := .detached, queue := [], remoteWake := false, lamps := 0, resuming := none
          resumeGap := none }
      ∧ t.sa.current.has .workstationDetached = true ∧ t.sa.latched.has .workstationDetached = true
      ∧ (s.ca.slot = none ∨ s.wp.lamps = 0 → t.fp = s.fp)
      ∧ (∀ h, s.ca.slot = some h → s.wp.lamps ≠ 0 → s.fp.linkUp = true → s.fp.class0.length < 16 →
          t.fp = { s.fp with class0 := s.fp.class0 ++ [.lamps h.desk 0] })
      ∧ t.ca = s.ca ∧ t.cu = s.cu ∧ t.ts = s.ts ∧ t.pu = s.pu ∧ s.sameDesk t))
  ∧ (∀ s : State, s.servingAs .source = true → s.wp.port = .detached → exec .busReset s = .next s)

/-- The requests of the workstation (R92, R95, R104): SET_ADDRESS, SET_CONFIGURATION, the remote wake feature, the
descriptors, GET_REPORT, SET_IDLE_OR_PROTOCOL, any other request, and the lamps' output report, in each state. The
recorded answers, and the states of GET_REPORT and SET_IDLE_OR_PROTOCOL, are the model's (log 16). -/
def Obligations.WorkstationRequests : Prop :=
  ∀ (s : State), s.servingAs .source = true →
    (∀ a : BitVec 16, s.wp.port = .connected .default → 1 ≤ a.toNat → a.toNat ≤ 127 → exec (.setAddress a) s
        = .next (s.setWP { s.wp with port := .connected .addressed, address := a.toNat, answer := .ack }))
    ∧ (s.wp.port = .connected .addressed → exec (.setAddress 0) s
        = .next (s.setWP { s.wp with port := .connected .default, address := 0, answer := .ack }))
    ∧ (∀ a : BitVec 16, s.wp.port ≠ .detached →
        (s.wp.port = .connected .default → a = 0 ∨ 127 < a.toNat) → (s.wp.port = .connected .addressed → a ≠ 0) →
        exec (.setAddress a) s = .next (s.setWP { s.wp with answer := .stall }))
    ∧ (s.wp.port = .connected .addressed ∨ s.wp.port = .connected .configured →
        exec (.setConfiguration 1) s
          = .next (s.setWP { s.wp with port := .connected .configured, answer := .ack })
        ∧ exec .setFeatureRemoteWake s = .next (s.setWP { s.wp with remoteWake := true, answer := .ack })
        ∧ exec .clearFeatureRemoteWake s = .next (s.setWP { s.wp with remoteWake := false, answer := .ack })
        ∧ ∀ r : Byte,
          (r.setWidth 5 = s.wp.lamps →
            exec (.keyboardOutputReport r) s = .next (s.setWP { s.wp with answer := .ack }))
          ∧ (r.setWidth 5 ≠ s.wp.lamps → s.ca.slot = none → exec (.keyboardOutputReport r) s
              = .next (s.setWP { s.wp with lamps := r.setWidth 5, answer := .ack }))
          ∧ (∀ h, r.setWidth 5 ≠ s.wp.lamps → s.ca.slot = some h → exec (.keyboardOutputReport r) s
              = .next ((s.setWP { s.wp with lamps := r.setWidth 5, answer := .ack }).hand0
                  (.lamps h.desk (r.setWidth 5)))))
    ∧ (s.wp.port = .connected .configured → exec (.setConfiguration 0) s
        = .next (s.setWP { s.wp with port := .connected .addressed, answer := .ack }))
    ∧ (∀ c : BitVec 16, s.wp.port ≠ .detached →
        (1 < c.toNat ∨ s.wp.port = .connected .default ∨ (∃ b, s.wp.port = .suspended b)
          ∨ (c = 0 ∧ s.wp.port = .connected .addressed)) →
        exec (.setConfiguration c) s = .next (s.setWP { s.wp with answer := .stall }))
    ∧ (s.wp.port = .connected .default ∨ (∃ b, s.wp.port = .suspended b) →
        exec .setFeatureRemoteWake s = .next (s.setWP { s.wp with answer := .stall })
        ∧ exec .clearFeatureRemoteWake s = .next (s.setWP { s.wp with answer := .stall }))
    ∧ (s.wp.port = .connected .default →
        ∀ r, exec (.keyboardOutputReport r) s = .next (s.setWP { s.wp with answer := .stall }))
    ∧ (s.wp.port ≠ .detached →
        exec .unsupportedStandardRequest s = .next (s.setWP { s.wp with answer := .stall }))
    ∧ (∀ b, s.wp.port = .connected b →
        exec .getDescriptor s = .next (s.setWP { s.wp with answer := .descriptor })
        ∧ exec .setIdleOrProtocol s = .next (s.setWP { s.wp with answer := .ack })
        ∧ exec (.getReport .keyboard) s
          = .next (s.setWP { s.wp with answer := .report (keyboardReport s.wp.presented) })
        ∧ exec (.getReport .pointer) s
          = .next (s.setWP { s.wp with answer := .report (pointerReport s.wp.buttons s.wp.x s.wp.y 0) }))

/-- KEYBOARD_POLL and POINTER_POLL in CONFIGURED (R97, R103): no data from an empty queue, else the head, which leaves
and becomes presented when it is acknowledged; a pointer report when X, Y, buttons or the accumulator call for one, and
acknowledged its share leaves the accumulator and it is the last delivered. The recorded answers are the model's (log
16). -/
def Obligations.PollsAnswered : Prop :=
  ∀ (s : State) (ack : Bool), s.servingAs .source = true → s.wp.port = .connected .configured →
    (s.wp.queue = [] → exec (.keyboardPoll ack) s = .next (s.setWP { s.wp with answer := .noData }))
    ∧ (∀ (e : QueueEntry) (r : List QueueEntry), s.wp.queue = e :: r →
        exec (.keyboardPoll true) s = .next (s.setWP { s.wp with
          queue := r, presented := e.snapshot, answer := .report (keyboardReport e.snapshot) })
        ∧ exec (.keyboardPoll false) s
          = .next (s.setWP { s.wp with answer := .report (keyboardReport e.snapshot) }))
    ∧ (s.wp.delivered = some ⟨s.wp.x, s.wp.y, s.wp.buttons⟩ → s.wp.wheel = 0 →
        exec (.pointerPoll ack) s = .next (s.setWP { s.wp with answer := .noData }))
    ∧ (s.wp.delivered ≠ some ⟨s.wp.x, s.wp.y, s.wp.buttons⟩ ∨ s.wp.wheel ≠ 0 →
        exec (.pointerPoll true) s = .next (s.setWP { s.wp with
          wheel := s.wp.wheel - max (-127) (min 127 s.wp.wheel)
          delivered := some ⟨s.wp.x, s.wp.y, s.wp.buttons⟩
          answer := .report (pointerReport s.wp.buttons s.wp.x s.wp.y (max (-127) (min 127 s.wp.wheel))) })
        ∧ exec (.pointerPoll false) s = .next (s.setWP { s.wp with
          answer := .report (pointerReport s.wp.buttons s.wp.x s.wp.y (max (-127) (min 127 s.wp.wheel))) }))

/-- QUEUE_AGE_OVERRUN, BUS_IDLE_SUSPEND, BUS_RESUME and RESUME_SIGNALLING_END (R98, R105): when the oldest entry
without a recovery mark has waited more than 250 ms, the overrun leaves one recovery entry of all-released, no button,
and INPUT-OVERRUN latched; a suspended port remembers the state it left and returns to it; resume signalling ends after
10 ms. That it also ends when the workstation resumes the bus is the model's choice (log 37); that a suspension and a
resume clear the time of the last resume is its reading (log 25). -/
def Obligations.OverrunAndSuspend : Prop :=
  (∀ (s : State) (l r : List QueueEntry) (e : QueueEntry), s.servingAs .source = true → s.wp.queue = l ++ e :: r →
    (∀ d ∈ l, d.recovery = true) → e.recovery = false → 250000 < (s.now - e.entered).toNat →
    exec .queueAgeOverrun s = .next ((s.setWP { s.wp with
      queue := [⟨.released, s.now, true⟩], buttons := 0 }).latch .inputOverrun))
  ∧ (∀ (s : State) (b : BusState), s.servingAs .source = true → s.wp.port = .connected b →
    exec .busIdleSuspend s
      = .next (s.setWP { s.wp with port := .suspended b, resuming := none, resumeGap := none }))
  ∧ (∀ (s : State) (b : BusState), s.servingAs .source = true → s.wp.port = .suspended b →
    exec .busResume s = .next (s.setWP { s.wp with port := .connected b, resuming := none, resumeGap := none }))
  ∧ (∀ (s : State) (u : Time), s.wp.resuming = some u →
    10000 ≤ (s.now - u).toNat → exec .resumeSignallingEnd s = .next (s.setWP { s.wp with resuming := none }))

/-! ### The desk's ports and keys -/

/-- HOST_DEVICE_CONNECT, HOST_DEVICE_DISCONNECT, ENUMERATION_COMPLETE and ENUMERATION_FAILURE (R35, R36, R37, R18,
R50): a device connects and is enumerated; a disconnection clears the port's record, its keys and its buttons; a device
with a boot interface is served, the first of each kind at its place and interval, and a keyboard is given the shown
lamps; without one, or at the third failure, the port is UNSUPPORTED. That a disconnection ends a lamp report in flight
and the 100 ms wait of a failed one is the model's reading (log 17). -/
def Obligations.HostPortStates : Prop :=
  ∀ (s : State) (i : Fin 2) (p : HostPort), s.ii.ports.get i = p →
    (p.state = .detached → exec (.hostDeviceConnect i) s = .next (s.putPort i { p with state := .enumerating }))
    ∧ (p.state ≠ .off → p.state ≠ .detached → ∃ t, exec (.hostDeviceDisconnect i) s = .next t
        ∧ t.ii.ports.get i = { HostPort.reset with state := .detached, vbusEn := p.vbusEn }
        ∧ t.cp.portButtons.get i = 0 ∧ t.cp.portButtons.get (1 - i) = s.cp.portButtons.get (1 - i)
        ∧ (t.ii.ports.get (1 - i)).keys = (s.ii.ports.get (1 - i)).keys
        ∧ (t.sa.current.has .deviceUnsupported = true ↔ (s.ii.ports.get (1 - i)).state = .unsupported)
        ∧ s.sameSource t
        ∧ (s.ii.raw = s.ii.unionKeys →
            t.sr = s.sr ∧ t.cp.layout = s.cp.layout ∧ t.cp.confine = s.cp.confine ∧ t.cp.x = s.cp.x
            ∧ t.cp.y = s.cp.y ∧ t.cp.head = s.cp.head))
    ∧ (p.state = .enumerating →
      (∀ l : List Interface, (∀ j ∈ l, j.kind = .other) → exec (.enumerationComplete i l) s
        = .next ((s.putPort i { p with keyboard := none, mouse := none, state := .unsupported }).raise
            .deviceUnsupported))
      ∧ (∀ (l : List Interface) (j : Interface), j ∈ l → j.kind ≠ .other →
        ∃ t, exec (.enumerationComplete i l) s = .next t ∧ t = s.putPort i (t.ii.ports.get i)
          ∧ (t.ii.ports.get i).state = .polling ∧ (t.ii.ports.get i).lampsSent = none
          ∧ ((∃ j ∈ l, j.kind = .bootKeyboard) ↔ (t.ii.ports.get i).keyboard.isSome = true)
          ∧ ((∃ j ∈ l, j.kind = .bootMouse) ↔ (t.ii.ports.get i).mouse.isSome = true)
          ∧ (∀ v, (t.ii.ports.get i).keyboard = some v → ∃ q, l[v.place]? = some q ∧ q.kind = .bootKeyboard
              ∧ q.interval = v.interval ∧ ∀ n r, n < v.place → l[n]? = some r → r.kind ≠ .bootKeyboard)
          ∧ (∀ v, (t.ii.ports.get i).mouse = some v → ∃ q, l[v.place]? = some q ∧ q.kind = .bootMouse
              ∧ q.interval = v.interval ∧ ∀ n r, n < v.place → l[n]? = some r → r.kind ≠ .bootMouse)
          ∧ ((t.ii.ports.get i).keyboard.isSome = true → p.lampFlight = none → p.lampRetry = none →
              (t.ii.ports.get i).lampFlight = some s.ii.shown))
      ∧ (p.attempts + 1 < 3 →
          exec (.enumerationFailure i) s = .next (s.putPort i { p with attempts := p.attempts + 1 }))
      ∧ (3 ≤ p.attempts + 1 → exec (.enumerationFailure i) s
          = .next ((s.putPort i { p with attempts := p.attempts + 1, state := .unsupported }).raise
              .deviceUnsupported)))

/-- TRANSFER_UNANSWERED, POLL_TRANSFER_FAILURE, POLL_ANSWERED_WITH_NO_DATA, LAMP_REPORT_COMPLETE and LAMP_RETRY_EXPIRY
(R36, R38, R50): a failed transfer counts and a failed lamp report waits 100 ms; the third in a row resets the port; a
success sets the count back to 0; an acknowledged report is noted and the shown value compared again; after the wait it
is sent again as the shown value then stands. That a port reset keeps the interfaces served and starts enumeration is
the model's reading (log 29), that one lamp report is in flight at a time, and that a port reset ends it and the 100 ms
wait, its reading (log 17), and which transfers a command may name its choice (log 32). -/
def Obligations.TransfersResult : Prop :=
  ∀ (s : State) (i : Fin 2) (p : HostPort), s.ii.ports.get i = p →
    (∀ x : Transfer, p.makes x = true →
      (∀ c : Instr, c = .transferUnanswered i x ∨ c = .pollTransferFailure i x →
        (p.errors + 1 < 3 → x ≠ .lampReport → exec c s = .next (s.putPort i { p with errors := p.errors + 1 }))
        ∧ (p.errors + 1 < 3 → x = .lampReport → exec c s = .next (s.putPort i { p with
            errors := p.errors + 1, lampFlight := none, lampRetry := some s.now }))
        ∧ (3 ≤ p.errors + 1 → ∃ t, exec c s = .next t
            ∧ t.ii.ports.get i = { HostPort.reset with
                state := .enumerating, vbusEn := p.vbusEn, keyboard := p.keyboard, mouse := p.mouse }
            ∧ t.cp.portButtons.get i = 0 ∧ t.cp.portButtons.get (1 - i) = s.cp.portButtons.get (1 - i)
            ∧ (t.ii.ports.get (1 - i)).keys = (s.ii.ports.get (1 - i)).keys ∧ s.sameSource t))
      ∧ (x ≠ .lampReport → exec (.pollAnsweredWithNoData i x) s = .next (s.putPort i { p with errors := 0 })))
    ∧ (p.state = .enumerating → ∀ x, exec (.transferUnanswered i x) s = exec (.enumerationFailure i) s)
    ∧ (∀ v, p.lampFlight = some v →
      (v = s.ii.shown ∨ p.lampRetry.isSome = true ∨ p.state ≠ .polling ∨ p.keyboard = none →
        exec (.lampReportComplete i) s
          = .next (s.putPort i { p with errors := 0, lampsSent := some v, lampFlight := none }))
      ∧ (v ≠ s.ii.shown → p.lampRetry = none → p.state = .polling → p.keyboard.isSome = true →
        exec (.lampReportComplete i) s = .next (s.putPort i { p with
          errors := 0, lampsSent := some v, lampFlight := some s.ii.shown })))
    ∧ (∀ u, p.lampRetry = some u → 100000 ≤ (s.now - u).toNat → p.state = .polling → p.keyboard.isSome = true →
        exec (.lampRetryExpiry i) s
          = .next (s.putPort i { p with lampRetry := none, lampFlight := some s.ii.shown }))

/-- KEYBOARD_REPORT (R38, R39, R40, R41, R42, R46, R66, R163, R164), outside COMMAND: a short report changes the error
count alone; a rollover report, or one that would bring the union above 6 codes, leaves the port's keys; any other
replaces them, the raw snapshot is the union, released items leave the suppressed set, and the passed form is what is
not suppressed. A report that differs from the port's last one, a rollover report too, is activity: it restarts the
count and the minute timer unless T_blank is 0, or wakes a blanked desk, and a report that wakes one has its new presses
suppressed. FU is offered a changed passed form, and an
all-released snapshot on entry to COMMAND, and takes an offer as R66 says: not without a focus record in HOLDING, not
equal to the queue's tail or, with the queue empty, to the snapshot noted, at the tail, or in a full queue in the tail's
place. FU then judges its INPUT. That a short report sets the error count back to 0 (log 31), and that of a longer one
the first eight bytes are taken (log 11), is the model's reading. -/
def Obligations.KeyboardReportTaken : Prop :=
  (∀ (s : State) (i : Fin 2) (l b : List Byte), (s.ii.ports.get i).state = .polling →
    (s.ii.ports.get i).keyboard.isSome = true →
    (l.length < 8 → exec (.keyboardReport i l) s = .next (s.putPort i { s.ii.ports.get i with errors := 0 }))
    ∧ (8 ≤ l.length → b = l.take 8 → s.ii.snapshotsOk → s.ii.hotkey ≠ .command →
      (s.ii.rollsOver i b = true → ∃ t v : State, exec (.keyboardReport i l) s = .next t ∧ t = v.judgeInput
        ∧ v.fu = s.fu ∧ v.cp = s.cp ∧ v.fp = s.fp
        ∧ (t.ii.ports.get i).keys = (s.ii.ports.get i).keys ∧ (t.ii.ports.get i).lastReport = some b
        ∧ (t.ii.ports.get i).errors = 0 ∧ t.ii.raw = s.ii.raw ∧ t.ii.passed = s.ii.passed
          ∧ t.ii.suppressed = s.ii.suppressed
        ∧ t.ii.hotkey = s.ii.hotkey ∧ s.sameSource t ∧ t.sr = s.sr ∧ t.sa.current = s.sa.current
        -- a rollover report is activity when it differs from the last one
        ∧ ((s.ii.ports.get i).lastReport ≠ some b →
          (s.hu.blank = false → s.hu.tBlank ≠ 0 → t.hu = { s.hu with count := 0, minute := some s.now })
          ∧ (s.hu.blank = false → s.hu.tBlank = 0 → t.hu = s.hu)
          ∧ (s.hu.blank = true → t.hu.blank = false ∧ t.hu.count = 0 ∧ t.hu.minute = some s.now
              ∧ t.hu.tBlank = s.hu.tBlank))
        ∧ ((s.ii.ports.get i).lastReport = some b → t.hu = s.hu))
      ∧ (s.ii.rollsOver i b = false → ∃ t v : State, exec (.keyboardReport i l) s = .next t ∧ t = v.judgeInput
        -- the snapshots offered to FU
        ∧ v.cp = s.cp ∧ v.fp = s.fp ∧ v.ii.passed = t.ii.passed ∧ v.ii.hotkey = t.ii.hotkey
        ∧ (t.ii.passed = s.ii.passed → t.ii.hotkey ≠ .command → v.fu = s.fu)
        ∧ (t.ii.passed ≠ s.ii.passed → t.ii.hotkey ≠ .command → v.fu = (s.offerSnapshot t.ii.passed).fu)
        ∧ (t.ii.passed = s.ii.passed → t.ii.hotkey = .command → v.fu = (s.offerSnapshot .released).fu)
        ∧ (t.ii.passed ≠ s.ii.passed → t.ii.hotkey = .command →
            v.fu = ((s.offerSnapshot t.ii.passed).offerSnapshot .released).fu)
        -- the port, the snapshots and the blank timer
        ∧ (t.ii.ports.get i).keys = reportSnapshot b ∧ (t.ii.ports.get i).lastReport = some b
        ∧ (t.ii.ports.get i).errors = 0 ∧ (t.ii.ports.get (1 - i)).keys = (s.ii.ports.get (1 - i)).keys
        ∧ t.ii.raw = t.ii.unionKeys
        ∧ (s.hu.blank = false ∨ (s.ii.ports.get i).lastReport = some b →
            t.ii.suppressed = s.ii.suppressed.inter t.ii.raw)
        ∧ (s.hu.blank = true → (s.ii.ports.get i).lastReport ≠ some b →
            (t.ii.raw ≠ s.ii.raw →
              t.ii.suppressed = (s.ii.suppressed.union (t.ii.raw.minus s.ii.raw)).inter t.ii.raw)
            ∧ (t.ii.raw = s.ii.raw → t.ii.suppressed = s.ii.suppressed) ∧ t.hu.blank = false ∧ t.hu.count = 0
              ∧ t.hu.minute = some s.now)
        ∧ t.ii.passed = t.ii.raw.minus t.ii.suppressed
        ∧ (s.hu.blank = false → (s.ii.ports.get i).lastReport ≠ some b → s.hu.tBlank ≠ 0 →
            t.hu.count = 0 ∧ t.hu.minute = some s.now)
        ∧ ((s.ii.ports.get i).lastReport = some b ∨ s.hu.blank = false ∧ s.hu.tBlank = 0 → t.hu = s.hu)
        ∧ t.cp.x = s.cp.x ∧ t.cp.y = s.cp.y ∧ t.cp.head = s.cp.head ∧ s.sameSource t ∧ t.sr = s.sr
        ∧ t.sa.current = s.sa.current)))
  -- how FU takes an offer
  ∧ (∀ (s : State) (k : Snapshot),
    (s.focusRecord = none → s.offerSnapshot k = s)
    ∧ ∀ r, s.focusRecord = some r →
      (r.state ≠ .holding → s.offerSnapshot k = s)
      ∧ (r.state = .holding →
        (s.fu.queue = [] → k = r.noted.snapshot → s.offerSnapshot k = s)
        ∧ (s.fu.queue = [] → k ≠ r.noted.snapshot → s.offerSnapshot k = s.setFU { s.fu with queue := [k] })
        ∧ (∀ l e, s.fu.queue = l ++ [e] →
          (k = e → s.offerSnapshot k = s)
          ∧ (k ≠ e → s.fu.queue.length < 16 → s.offerSnapshot k = s.setFU { s.fu with queue := l ++ [e, k] })
          ∧ (k ≠ e → 16 ≤ s.fu.queue.length → s.offerSnapshot k = s.setFU { s.fu with queue := l ++ [k] }))))

/-- The hotkey machine (R43 to R48) at a report that changes the raw snapshot of a desk that is not blanked, and its
two timers' expiries: a lead tap moves NORMAL to LEAD-SEEN and LEAD-SEEN to COMMAND; another press ends LEAD-SEEN; in
COMMAND the lowest new key code takes its command (confine, acknowledge, select, request from IDLE or QUEUED, release
from ASKING, QUEUED or HOLDING), and no press is passed on. That an acknowledgement comes before its ATTN-CLEAR is
handed on is the model's choice (log 39); that of a report longer than 8 bytes the first eight are taken is its reading
(log 11). -/
def Obligations.HotkeyMachine : Prop :=
  (∀ (s : State) (i : Fin 2) (l b : List Byte) (n : Snapshot), (s.ii.ports.get i).state = .polling →
    (s.ii.ports.get i).keyboard.isSome = true → 8 ≤ l.length → b = l.take 8 → s.ii.rollsOver i b = false →
    s.hu.blank = false →
    n = II.unionKeys { s.ii with ports := s.ii.ports.set i { s.ii.ports.get i with keys := reportSnapshot b } } →
    n ≠ s.ii.raw →
    ∃ t, exec (.keyboardReport i l) s = .next t ∧ t.ii.raw = n
      ∧ (s.ii.hotkey = .normal → n = .released → s.ii.tap = true →
          t.ii.hotkey = .leadSeen ∧ t.ii.leadSeen = some s.now ∧ t.ii.tap = false)
      ∧ (s.ii.hotkey = .normal → (n ≠ .released ∨ s.ii.tap = false) → t.ii.hotkey = .normal)
      ∧ (s.ii.hotkey = .leadSeen → n = .released → s.ii.tap = true →
          t.ii.hotkey = .command ∧ t.ii.leadSeen = none ∧ t.ii.command = some s.now)
      ∧ (s.ii.hotkey = .leadSeen → (n.minus s.ii.raw).minus s.ii.lead.alone ≠ .released →
          t.ii.hotkey = .normal ∧ t.ii.leadSeen = none)
      ∧ (s.ii.raw = .released → n = s.ii.lead.alone → n ≠ .released → t.ii.tap = true)
      ∧ (n.minus s.ii.lead.alone ≠ .released → t.ii.tap = false)
      ∧ (s.ii.hotkey = .command → t.ii.passed = s.ii.passed
          ∧ t.ii.suppressed = (s.ii.suppressed.union (n.minus s.ii.raw)).inter n
          ∧ ((n.minus s.ii.raw).keys = [] → t.ii.hotkey = .command ∧ t.ii.command = s.ii.command)
          ∧ (∀ k r, (n.minus s.ii.raw).keys = k :: r → t.ii.hotkey = .normal ∧ t.ii.command = none
              ∧ (commandOf k = .confine → t.cp.confine = !s.cp.confine)
              ∧ (commandOf k ≠ .confine → t.cp.confine = s.cp.confine)
              ∧ (commandOf k = .acknowledge → t.sa.latched &&& ~~~s.sa.current &&& ~~~Cond.bit .txDrop = 0)
              ∧ (∀ j, commandOf k = .select j → t.cp.layout = j)
              ∧ ((∀ j, commandOf k ≠ .select j) → t.cp.layout = s.cp.layout)
              ∧ (∀ q p, s.fu.recordsOk → s.cp.focusSource = some q → s.fu.record q = some p →
                  (commandOf k = .request → p.state = .idle ∨ p.state = .queued →
                    (∃ p', t.fu.record q = some p' ∧ p'.state = .asking ∧ p'.id = s.fu.idCounter + 1 ∧ p'.sends = 1
                      ∧ p'.ask = some s.now)
                    ∧ (s.fp.linkUp = true → s.fp.class0.length < 16 →
                        Out0.controlRequest q (s.fu.idCounter + 1) p.watched ∈ t.fp.class0))
                  ∧ (commandOf k = .release → p.state = .asking ∨ p.state = .queued →
                    (∃ p', t.fu.record q = some p' ∧ p'.state = .idle ∧ p'.ask = none)
                    ∧ (s.fp.linkUp = true → s.fp.class0.length < 16 → Out0.controlRelease q p.id ∈ t.fp.class0))
                  ∧ (commandOf k = .release → p.state = .holding →
                    (s.fp.linkUp = true → s.fp.class1.length < 4 →
                      (∃ p', t.fu.record q = some p' ∧ p'.state = .idle ∧ p'.leave = none)
                      ∧ (⟨q, p.id, p.seq, .released, 0, none, 0⟩ : OutInput) ∈ t.fp.class1
                      ∧ (s.fp.class0.length < 16 → Out0.controlRelease q p.id ∈ t.fp.class0))
                    ∧ (s.fp.linkUp = true → 4 ≤ s.fp.class1.length →
                      t.fu.record q = some { p with leave := some .release } ∧ t.fp = s.fp)))
              ∧ ∃ w : State, w = { s with ii := w.ii, hu := w.hu }
                  ∧ exec (.keyboardReport i l) s = .next ((w.command (commandOf k)).judgeInput))))
  -- the commands
  ∧ (∀ s : State, s.command .leave = s ∧ s.command .confine = s.setCP { s.cp with confine := !s.cp.confine }
    ∧ (∀ n, s.command (.select n) = s.selectLayout n)
    ∧ ((∀ r, s.focusRecord = some r → r.state ≠ .holding) → s.command .acknowledge
        = s.setSA (SA.drive { s.sa with latched := s.sa.latched &&& s.sa.current }))
    ∧ (∀ r, s.focusRecord = some r → r.state = .holding → s.command .acknowledge
        = (s.setSA (SA.drive { s.sa with latched := s.sa.latched &&& s.sa.current })).hand0 (.attnClear r.station))
    ∧ (s.cp.focusSource = none → s.command .request = s ∧ s.command .release = s)
    ∧ (∀ q, s.cp.focusSource = some q → s.command .request = s.requestSource q
        ∧ s.command .release = s.releaseSource q))
  ∧ (∀ (s : State) (u : Time), s.ii.leadSeen = some u → 500000 ≤ (s.now - u).toNat →
      exec .leadSeenTimerExpiry s = .next (s.setII { s.ii with hotkey := .normal, leadSeen := none }))
  ∧ (∀ (s : State) (u : Time), s.ii.command = some u → 2000000 ≤ (s.now - u).toNat →
      exec .commandTimerExpiry s = .next (s.setII { s.ii with hotkey := .normal, command := none }))

/-! ### The pointer -/

/-- MOUSE_REPORT (R17, R18, R19, R33, R38, R42, R51): a short report changes the error count alone; one that wakes a
blanked desk does not reach CP; any other, in this order, replaces the port's buttons, adds its wheel while the focus
record is HOLDING, moves the pointer and recomputes its field (state w), is a focus change when the focus source now
differs (state v), and has FU judge its INPUT. That a short report sets the error count back to 0 (log 31), and the
places of the report's fields (log 11), are the model's reading. -/
def Obligations.MouseReportTaken : Prop :=
  ∀ (s : State) (i : Fin 2) (l : List Byte), (s.ii.ports.get i).state = .polling →
    (s.ii.ports.get i).mouse.isSome = true →
    (l.length < 3 → exec (.mouseReport i l) s = .next (s.putPort i { s.ii.ports.get i with errors := 0 }))
    ∧ (3 ≤ l.length → ∃ m, mouseMotion l = some m ∧ m.buttons = (l.getD 0 0).setWidth 3
        ∧ m.dx = max (-127) (l.getD 1 0).toInt ∧ m.dy = max (-127) (l.getD 2 0).toInt ∧ m.wheel = (l.getD 3 0).toInt
        ∧ ∀ p, m.isActivity p = true ↔ m.dx ≠ 0 ∨ m.dy ≠ 0 ∨ m.wheel ≠ 0 ∨ m.buttons ≠ p)
    ∧ (∀ m, mouseMotion l = some m →
      (s.hu.blank = true → m.isActivity (s.cp.portButtons.get i) = true → ∃ t, exec (.mouseReport i l) s = .next t
        ∧ t.cp = s.cp ∧ t.fu = s.fu ∧ t.fp = s.fp ∧ t.sr = s.sr ∧ t.sa = s.sa ∧ t.hu.blank = false
        ∧ t.hu.count = 0 ∧ t.hu.minute = some s.now ∧ s.sameSource t)
      ∧ (∀ h, s.hu.blank = false ∨ m.isActivity (s.cp.portButtons.get i) = false → s.cp.head = some h →
        ∃ (t v w : State) (c : CP), exec (.mouseReport i l) s = .next t
        ∧ c = ({ s.cp with portButtons := s.cp.portButtons.set i m.buttons } : CP).move h m.dx m.dy
        ∧ w.cp = { c with
            wheel := if s.focusHolding then max (-32768) (min 32767 (s.cp.wheel + m.wheel)) else s.cp.wheel
            field := w.mapPointer }
        ∧ w.fu = s.fu ∧ w.fp = s.fp ∧ w.sa = s.sa ∧ w.pu = s.pu ∧ w.sr = s.sr
        ∧ w.ii = { s.ii with ports := s.ii.ports.set i { s.ii.ports.get i with errors := 0 } } ∧ s.sameSource w
        ∧ (m.isActivity (s.cp.portButtons.get i) = true → s.hu.tBlank ≠ 0 →
            w.hu = { s.hu with count := 0, minute := some s.now })
        ∧ (m.isActivity (s.cp.portButtons.get i) = false ∨ s.hu.tBlank = 0 → w.hu = s.hu)
        ∧ (w.cp.focusSource = s.cp.focusSource → v = w)
        ∧ (w.cp.focusSource ≠ s.cp.focusSource → v = w.focusChange s.cp.focusSource w.cp.focusSource)
        ∧ t = v.judgeInput
        ∧ t.cp.x = c.x ∧ t.cp.y = c.y ∧ t.cp.head = c.head ∧ t.cp.field = t.mapPointer
        ∧ t.sr = s.sr ∧ t.ii.raw = s.ii.raw ∧ t.ii.passed = s.ii.passed ∧ s.sameSource t))

/-- The move (R21 to R26, R28): the gain by the larger motion; whole pixels truncated toward zero and the carry left,
with its sign and within 15; a motion inside the head; a crossing over each edge when the push exceeds R_e, which lands
on the neighbour's near pixel with carries and push 0; a push that builds up at each edge; and each closed edge, which
holds the pointer and clears the push. The x axis is settled first: when it crosses, the motion in y is lost; when it
rests, moves inside the head, builds a push up or is held, what it leaves (d) is what the motion in y meets, with the
neighbour looked for at d's column and a push that d stored against a side dropped when y pushes, so that a push into a
corner then follows the y edge. -/
def Obligations.PointerMoves : Prop :=
  (∀ (g : Gains) (m : Nat), g.t1 < g.t2 → g.t2 < g.t3 →
    (m ≤ g.t1 → g.choose m = g.g0) ∧ (g.t1 < m → m ≤ g.t2 → g.choose m = g.g1)
    ∧ (g.t2 < m → m ≤ g.t3 → g.choose m = g.g2) ∧ (g.t3 < m → g.choose m = g.g3))
  ∧ (∀ v : Int, carryLeft v = v - 16 * wholePixels v ∧ -15 ≤ carryLeft v ∧ carryLeft v ≤ 15
      ∧ (0 ≤ v → 0 ≤ carryLeft v ∧ 0 ≤ wholePixels v) ∧ (v ≤ 0 → carryLeft v ≤ 0 ∧ wholePixels v ≤ 0))
  ∧ ∀ (c k d : CP) (h b : Fin 4) (dx dy sx sy wx wy : Int) (r : HeadRec), r = c.heads.get h →
    r.contains c.x c.y = true →
    sx = dx * c.gains.choose (max dx.natAbs dy.natAbs) + c.carryX → wx = wholePixels sx →
    sy = dy * c.gains.choose (max dx.natAbs dy.natAbs) + c.carryY → wy = wholePixels sy →
    k = { c with carryX := carryLeft sx, carryY := carryLeft sy } →
    -- inside the head on both axes
    ((r.cx : Int) ≤ c.x + wx → c.x + wx < r.cx + r.w → (r.cy : Int) ≤ c.y + wy → c.y + wy < r.cy + r.h →
      ∃ t : CP, c.move h dx dy = t ∧ (t.x : Int) = c.x + wx ∧ (t.y : Int) = c.y + wy
        ∧ t.carryX = carryLeft sx ∧ t.carryY = carryLeft sy ∧ t.head = c.head
        ∧ ((c.edge = some .left ∨ c.edge = some .right) → wx ≠ 0 → t.push = 0 ∧ t.edge = none)
        ∧ ((c.edge = some .top ∨ c.edge = some .bottom) → wy ≠ 0 → t.push = 0 ∧ t.edge = none)
        ∧ ((c.edge = some .left ∨ c.edge = some .right) → wx = 0 → t.push = c.push ∧ t.edge = c.edge)
        ∧ ((c.edge = some .top ∨ c.edge = some .bottom) → wy = 0 → t.push = c.push ∧ t.edge = c.edge))
    -- x crosses: the motion in y is lost
    ∧ (c.confine = false → c.buttons = 0 →
      (c.neighbour h .right c.y = some b → 0 < c.x + wx - (r.cx + r.w - 1) →
        (c.resist : Int) < (if c.edge = some .right then (c.push : Int) else 0) + (c.x + wx - (r.cx + r.w - 1)) →
        c.move h dx dy = { c with
          x := (c.heads.get b).cx, head := some b, carryX := 0, carryY := 0, push := 0, edge := none })
      ∧ (c.neighbour h .left c.y = some b → 0 < r.cx - (c.x + wx) →
        (c.resist : Int) < (if c.edge = some .left then (c.push : Int) else 0) + (r.cx - (c.x + wx)) →
        c.move h dx dy = { c with
          x := (c.heads.get b).cx + (c.heads.get b).w - 1, head := some b, carryX := 0, carryY := 0, push := 0
          edge := none }))
    -- x does not cross and leaves d: it rests, moves inside the head, builds a push up at an open edge, or is held at
    -- one closed by confine, by a button or for want of a neighbour
    ∧ ((wx = 0 ∧ d = k)
      ∨ (wx ≠ 0 ∧ (r.cx : Int) ≤ c.x + wx ∧ c.x + wx < r.cx + r.w ∧ d = { k with
          x := (c.x + wx).toNat
          push := if c.edge = some .left ∨ c.edge = some .right then 0 else c.push
          edge := if c.edge = some .left ∨ c.edge = some .right then none else c.edge })
      ∨ (c.confine = false ∧ c.buttons = 0 ∧ (c.neighbour h .right c.y).isSome = true
          ∧ 0 < c.x + wx - (r.cx + r.w - 1)
          ∧ (if c.edge = some .right then (c.push : Int) else 0) + (c.x + wx - (r.cx + r.w - 1)) ≤ c.resist
          ∧ d = { k with
              x := r.cx + r.w - 1, edge := some .right
              push := (if c.edge = some .right then c.push else 0) + (c.x + wx - (r.cx + r.w - 1)).toNat })
      ∨ (c.confine = false ∧ c.buttons = 0 ∧ (c.neighbour h .left c.y).isSome = true ∧ 0 < r.cx - (c.x + wx)
          ∧ (if c.edge = some .left then (c.push : Int) else 0) + (r.cx - (c.x + wx)) ≤ c.resist
          ∧ d = { k with
              x := r.cx, edge := some .left
              push := (if c.edge = some .left then c.push else 0) + (r.cx - (c.x + wx)).toNat })
      ∨ ((c.confine = true ∨ c.buttons ≠ 0 ∨ c.neighbour h .right c.y = none) ∧ 0 < c.x + wx - (r.cx + r.w - 1)
          ∧ d = { k with x := r.cx + r.w - 1, push := 0, edge := none })
      ∨ ((c.confine = true ∨ c.buttons ≠ 0 ∨ c.neighbour h .left c.y = none) ∧ 0 < r.cx - (c.x + wx)
          ∧ d = { k with x := r.cx, push := 0, edge := none }) →
      -- then y: it rests, or moves inside the head
      (wy = 0 → c.move h dx dy = d)
      ∧ (wy ≠ 0 → (r.cy : Int) ≤ c.y + wy → c.y + wy < r.cy + r.h → c.move h dx dy = { d with
          y := (c.y + wy).toNat
          push := if d.edge = some .top ∨ d.edge = some .bottom then 0 else d.push
          edge := if d.edge = some .top ∨ d.edge = some .bottom then none else d.edge })
      -- y crosses
      ∧ (c.confine = false → c.buttons = 0 →
        (c.neighbour h .bottom d.x = some b → 0 < c.y + wy - (r.cy + r.h - 1) →
          (c.resist : Int) < (if d.edge = some .bottom then (d.push : Int) else 0) + (c.y + wy - (r.cy + r.h - 1)) →
          c.move h dx dy = { d with
            y := (c.heads.get b).cy, head := some b, carryX := 0, carryY := 0, push := 0, edge := none })
        ∧ (c.neighbour h .top d.x = some b → 0 < r.cy - (c.y + wy) →
          (c.resist : Int) < (if d.edge = some .top then (d.push : Int) else 0) + (r.cy - (c.y + wy)) →
          c.move h dx dy = { d with
            y := (c.heads.get b).cy + (c.heads.get b).h - 1, head := some b, carryX := 0, carryY := 0, push := 0
            edge := none })
        -- y is held at its edge, with the push built up
        ∧ (c.neighbour h .bottom d.x = some b → 0 < c.y + wy - (r.cy + r.h - 1) →
          (if d.edge = some .bottom then (d.push : Int) else 0) + (c.y + wy - (r.cy + r.h - 1)) ≤ c.resist →
          c.move h dx dy = { d with
            y := r.cy + r.h - 1, edge := some .bottom
            push := (if d.edge = some .bottom then d.push else 0) + (c.y + wy - (r.cy + r.h - 1)).toNat })
        ∧ (c.neighbour h .top d.x = some b → 0 < r.cy - (c.y + wy) →
          (if d.edge = some .top then (d.push : Int) else 0) + (r.cy - (c.y + wy)) ≤ c.resist →
          c.move h dx dy = { d with
            y := r.cy, edge := some .top
            push := (if d.edge = some .top then d.push else 0) + (r.cy - (c.y + wy)).toNat }))
      -- y is held at a closed edge
      ∧ (c.confine = true ∨ c.buttons ≠ 0 ∨ c.neighbour h .bottom d.x = none → 0 < c.y + wy - (r.cy + r.h - 1) →
        c.move h dx dy = { d with y := r.cy + r.h - 1, push := 0, edge := none })
      ∧ (c.confine = true ∨ c.buttons ≠ 0 ∨ c.neighbour h .top d.x = none → 0 < r.cy - (c.y + wy) →
        c.move h dx dy = { d with y := r.cy, push := 0, edge := none }))

/-! ### Focus at the desk -/

/-- PRESENCE_TAKEN_BY_FU (R64): the record's absence timer restarts and its absent flag clears; during the hold-off
nothing more; else the record is compared with what the PRESENCE lists, by the table of R64, and FU judges its INPUT. -/
def Obligations.Reconciled : Prop :=
  ∀ (s u v : State) (m : RxMsg) (r q : SrcRec) (held : Option Byte) (waits : Bool), s.servingAs .desk = true →
    s.take .fu .presence = some (m, u) → s.fu.record m.sender = some r →
    q = { r with absence := some s.now, absent := false } → v = u.putRecord q →
    (∀ i, held = some i ↔ presenceHolder m.payload = some (s.fp.own, i)) →
    (waits = true ↔ s.fp.own ∈ presenceWaiting m.payload) →
    (r.holdOff.isSome = true → exec .presenceTakenByFu s = .next v)
    ∧ (r.holdOff = none →
      (r.state = .idle → held.isSome = true ∨ waits = true →
        exec .presenceTakenByFu s = .next (v.hand0 (.controlRelease r.station r.id)).judgeInput)
      ∧ (r.state = .idle → held = none → waits = false → exec .presenceTakenByFu s = .next v.judgeInput)
      ∧ (∀ i, r.state = .asking ∨ r.state = .queued → held = some i →
        exec .presenceTakenByFu s = .next (v.moveRecord { q with id := i } .holding).judgeInput)
      ∧ (r.state = .asking → held = none → exec .presenceTakenByFu s = .next v.judgeInput)
      ∧ (r.state = .queued → held = none → waits = true → exec .presenceTakenByFu s = .next v.judgeInput)
      ∧ (r.state = .queued → held = none → waits = false →
        exec .presenceTakenByFu s = .next (v.moveRecord q .idle).judgeInput)
      ∧ (∀ i, r.state = .holding → held = some i →
        exec .presenceTakenByFu s = .next (v.putRecord { q with id := i }).judgeInput)
      ∧ (r.state = .holding → held = none → waits = true →
        exec .presenceTakenByFu s = .next (v.moveRecord q .queued).judgeInput)
      ∧ (r.state = .holding → held = none → waits = false →
        exec .presenceTakenByFu s = .next (v.moveRecord q .idle).judgeInput))

/-- What moving a record to a state does (R52, R54, R57, R49, R64): the record's fields, what leaving or entering
HOLDING brings to the focus record's queue, wheel sum and fresh flag, the shown lamps, and nothing else. -/
def Obligations.RecordMoves : Prop :=
  ∀ (s t : State) (r : SrcRec) (st : RecState), s.fu.recordsOk → s.fu.record r.station = some r → r.state ≠ st →
    t = s.moveRecord r st →
    ∃ q, t.fu.record r.station = some q ∧ q.state = st ∧ q.lastChange = s.now ∧ q.holdOff = some s.now
      ∧ q.station = r.station ∧ q.id = r.id ∧ q.sends = r.sends ∧ q.watched = r.watched ∧ q.lamps = r.lamps
      ∧ q.absent = r.absent ∧ q.absence = r.absence ∧ q.noted = r.noted
      ∧ (st ≠ .asking → q.ask = none ∧ q.leave = none) ∧ (st = .asking ∨ st = .holding → q.refused = false)
      ∧ (st = .holding → q.seq = 0) ∧ (st ≠ .holding → q.seq = r.seq)
      ∧ (∀ p, p ≠ r.station → t.fu.record p = s.fu.record p)
      ∧ (r.state = .holding → s.cp.focusSource = some r.station →
          t.fu.queue = [] ∧ t.cp.wheel = 0 ∧ t.fu.fresh = false)
      ∧ (st = .holding → s.cp.focusSource = some r.station → t.fu.fresh = true)
      ∧ (s.cp.focusSource ≠ some r.station → t.fu.queue = s.fu.queue ∧ t.cp = s.cp ∧ t.fu.fresh = s.fu.fresh)
      ∧ t.ii.shown = t.lampsShown ∧ t.fu.idCounter = s.fu.idCounter ∧ t.fp = s.fp ∧ t.sa = s.sa ∧ t.sr = s.sr
      ∧ t.hu = s.hu ∧ s.sameSource t

/-- CONTROL_VERDICT_TAKEN and CONTROL_WITHDRAWN_TAKEN (R55, R56, R57, R58, R59, R190): a message of bad content is
malformed; one without a record or of another id is ignored; GRANTED, QUEUED and REFUSED by the record's state, and a
withdrawal by the table of R58; then FU judges its INPUT. -/
def Obligations.VerdictsAndWithdrawals : Prop :=
  (∀ (s u : State) (m : RxMsg), s.servingAs .desk = true → s.take .fu .controlVerdict = some (m, u) →
    (readVerdict m.payload = none → exec .controlVerdictTaken s = .next (u.latch .malformed))
    ∧ ∀ v, readVerdict m.payload = some v →
      (s.fu.record m.sender = none → exec .controlVerdictTaken s = .next u)
      ∧ ∀ r, s.fu.record m.sender = some r →
        (m.payload.getD 1 0 ≠ r.id → exec .controlVerdictTaken s = .next u)
        ∧ (m.payload.getD 1 0 = r.id →
          (r.state = .asking ∨ r.state = .queued → v = .granted →
            exec .controlVerdictTaken s = .next (u.moveRecord r .holding).judgeInput)
          ∧ (∀ n, r.state = .asking → v = .queued n →
            exec .controlVerdictTaken s = .next (u.moveRecord r .queued).judgeInput)
          ∧ (r.state = .asking ∨ r.state = .queued → v = .noPermit ∨ v = .listFull →
            exec .controlVerdictTaken s
              = .next (u.moveRecord { r with refused := true, refusedTimer := some s.now } .idle).judgeInput)
          ∧ (r.state = .idle ∨ r.state = .holding ∨ (r.state = .queued ∧ ∃ n, v = .queued n) →
            exec .controlVerdictTaken s = .next u.judgeInput)))
  ∧ (∀ (s u : State) (m : RxMsg), s.servingAs .desk = true → s.take .fu .controlWithdrawn = some (m, u) →
    (reasonOf (byteAt m.payload 0) = none → exec .controlWithdrawnTaken s = .next (u.latch .malformed))
    ∧ ∀ why, reasonOf (byteAt m.payload 0) = some why →
      (s.fu.record m.sender = none → exec .controlWithdrawnTaken s = .next u)
      ∧ ∀ r, s.fu.record m.sender = some r →
        (m.payload.getD 1 0 ≠ r.id ∨ r.state = .idle ∨ r.state = .asking
            ∨ (r.state = .queued ∧ why ≠ .expired ∧ why ≠ .displaced) ∨ (r.state = .holding ∧ why = .displaced) →
          exec .controlWithdrawnTaken s = .next u)
        ∧ (m.payload.getD 1 0 = r.id →
          (r.state = .queued → why = .expired ∨ why = .displaced →
            exec .controlWithdrawnTaken s = .next (u.moveRecord r .idle).judgeInput)
          ∧ (r.state = .holding → why = .preemptedQueued →
            exec .controlWithdrawnTaken s = .next (u.moveRecord r .queued).judgeInput)
          ∧ (r.state = .holding → why ≠ .preemptedQueued → why ≠ .displaced →
            exec .controlWithdrawnTaken s = .next (u.moveRecord r .idle).judgeInput)))

/-- LAMPS_TAKEN (R69): LAMPS of a station with a record is stored whatever the record's state and the shown value
recomputed; of another station it is ignored; every other command keeps the lamps of a record that stays; and they show
only while the record is the focus record and HOLDING. -/
def Obligations.LampsStored : Prop :=
  (∀ (s u : State) (m : RxMsg), s.servingAs .desk = true → s.take .fu .lamps = some (m, u) →
    (s.fu.record m.sender = none → exec .lampsTaken s = .next u)
    ∧ (∀ r, s.fu.record m.sender = some r → ∃ t, exec .lampsTaken s = .next t
      ∧ t.fu.record m.sender = some { r with lamps := (m.payload.getD 0 0).setWidth 5 }
      ∧ (∀ p, p ≠ m.sender → t.fu.record p = s.fu.record p) ∧ t.ii.shown = t.lampsShown
      ∧ t.fp = u.fp ∧ t.sa = s.sa ∧ t.cp = s.cp ∧ t.sr = s.sr ∧ t.hu = s.hu ∧ s.sameSource t))
  ∧ (∀ (c : Instr) (s t : State) (p : Nat) (r q : SrcRec), c ≠ .lampsTaken → exec c s = .next t →
      s.fu.record p = some r → t.fu.record p = some q → q.lamps = r.lamps)
  ∧ (∀ s : State, s.lampsShown ≠ 0 → ∃ r, s.focusRecord = some r ∧ r.state = .holding ∧ s.lampsShown = r.lamps)

/-- Requests, releases, leaves and focus changes at FU (R51, R54, R60, R61, R62, R65). A request takes the next id and
moves IDLE or QUEUED to ASKING; a release sends CONTROL-RELEASE from ASKING or QUEUED and leaves from HOLDING; a leave
with room in class 1 hands on the all-released INPUT, and for RELEASE the CONTROL-RELEASE and IDLE; without room it is
set pending, a CLEAR raised by a later RELEASE (that a RELEASE is never lowered is the model's reading, log 28). Pending
leaves run in the order in which they were set, one for each free entry. A focus change from P leaves P's record, when
HOLDING, under the on-leave policy, empties the queue and the wheel sum, sets the fresh flag when the new focus record
is HOLDING, makes the auto-request, and recomputes the lamps. -/
def Obligations.FocusChange : Prop :=
  -- requests and releases
  (∀ (s : State) (p : Nat) (r : SrcRec), s.fu.record p = some r →
    (r.state = .idle ∨ r.state = .queued → s.requestSource p
      = ((s.setFU { s.fu with idCounter := s.fu.idCounter + 1 }).hand0
          (.controlRequest p (s.fu.idCounter + 1) r.watched)).moveRecord
            { r with id := s.fu.idCounter + 1, sends := 1, ask := some s.now } .asking)
    ∧ (r.state = .asking ∨ r.state = .holding → s.requestSource p = s)
    ∧ (r.state = .idle → s.releaseSource p = s)
    ∧ (r.state = .asking ∨ r.state = .queued →
      s.releaseSource p = (s.hand0 (.controlRelease p r.id)).moveRecord r .idle)
    ∧ (r.state = .holding → s.releaseSource p = s.leave r .release))
  -- the leave procedure
  ∧ (∀ (s : State) (r : SrcRec) (k : LeaveKind),
    (s.fp.linkUp = false ∨ s.fp.class1.length < 4 → ∃ v, v = { s with fp := v.fp, fu := v.fu }
      ∧ (s.fp.linkUp = false → v.fp = s.fp)
      ∧ (s.fp.linkUp = true → v.fp = { s.fp with
          class1 := s.fp.class1 ++ [⟨r.station, r.id, r.seq, .released, 0, none, 0⟩] })
      ∧ v.fu = { (s.fu.put { r with seq := r.seq + 1, noted := ⟨.released, 0, none⟩, leave := none }) with
          interval := some s.now, leaveOrder := s.fu.leaveOrder.filter fun p => p ≠ r.station }
      ∧ (k = .clear → s.leave r k = v)
      ∧ (k = .release → s.leave r k = (v.hand0 (.controlRelease r.station r.id)).moveRecord
          { r with seq := r.seq + 1, noted := ⟨.released, 0, none⟩, leave := none } .idle))
    ∧ (s.fp.linkUp = true → 4 ≤ s.fp.class1.length → ∃ (j : LeaveKind) (v : State), s.leave r k = v
      ∧ (r.leave = some .release → j = .release) ∧ (r.leave ≠ some .release → j = k)
      ∧ v = s.setFU { (s.fu.put { r with leave := some j }) with leaveOrder := v.fu.leaveOrder }
      ∧ (r.station ∈ s.fu.leaveOrder → v.fu.leaveOrder = s.fu.leaveOrder)
      ∧ (r.station ∉ s.fu.leaveOrder → v.fu.leaveOrder = s.fu.leaveOrder ++ [r.station])))
  -- pending leaves
  ∧ (∀ s : State, s.fp.linkUp = true → 4 ≤ s.fp.class1.length → s.judgeInput = s)
  ∧ (∀ (s : State) (p : Nat) (l : List Nat) (r : SrcRec) (k : LeaveKind), s.fu.leaveOrder = p :: l →
    s.fu.record p = some r → r.leave = some k → s.fp.linkUp = false ∨ s.fp.class1.length < 4 →
    s.judgeInput = (s.leave r k).judgeInput)
  -- a focus change from P to the focus source
  ∧ (∀ (s a b : State) (P : Option Nat), P ≠ s.cp.focusSource →
    (∀ p r, P = some p → s.fu.record p = some r → r.state = .holding → a = s.leave r s.fu.onLeave) →
    ((∀ p r, P = some p → s.fu.record p = some r → r.state ≠ .holding) → a = s) →
    b = (a.setFU { a.fu with queue := [], fresh := s.focusHolding }).setCP { s.cp with wheel := 0 } →
    (∀ r, s.focusRecord = some r → r.state = .idle → s.fu.autoRequest = true → r.absent = false →
      s.focusChange P s.cp.focusSource = (b.requestSource r.station).showLamps)
    ∧ ((∀ r, s.focusRecord = some r → r.state ≠ .idle ∨ s.fu.autoRequest = false ∨ r.absent = true) →
      s.focusChange P s.cp.focusSource = b.showLamps)
    ∧ (s.focusHolding = true ↔ ∃ r, s.focusRecord = some r ∧ r.state = .holding)
    ∧ b.showLamps.ii.shown = b.lampsShown ∧ b.showLamps = b.setII b.showLamps.ii)

/-- A selection of a layout (R9, R10, R15, R52, R63, R137, R138, R139, R175): the current one is no change. Another
first has SR take the messages of removed streams that the receive buffer holds, which leaves state u, with what stands
before them in the order accepted, each as its own command takes it, the judging of INPUT apart; with none, u is s. It
keeps the canvas, the pointer, confine, the hotkey machine and blanking; the contexts of streams in both layouts stay
as u has them, those of the old one alone go, and each new stream, in the layout's order, gets a new context in the
lowest region then free, which is cleared; the placement records are recomputed; the records of sources in both layouts
stay, with their watched channels, those of the old one alone go as R63 says, and each new source gets a record in
IDLE; the focus change apart; and a PRESENCE is asked for. That the messages of removed streams are taken in the step
of the layout change, and those before them with them, is the model's reading of R139 and R171 (log 19). The order of
two removed records (log 20), and that a new context's last FRAME-CLOSE is none (log 40: R137 gives it no value), are
its choices. -/
def Obligations.LayoutChange : Prop :=
  (∀ s : State, s.selectLayout s.cp.layout = s)
  -- the messages of removed streams
  ∧ (∀ (s : State) (l : List Stream),
    (∀ e ∈ s.fp.rx, e.msg.kind = .tile ∨ e.msg.kind = .frameClose → e.msg.stream ∉ l) → s.drainStreams l = s)
  ∧ (∀ (s : State) (l : List Stream) (a r : List RxEntry) (e : RxEntry), s.fp.rx = a ++ e :: r →
    e.msg.kind = .tile ∨ e.msg.kind = .frameClose → e.msg.stream ∈ l →
    (∀ d ∈ r, d.msg.kind = .tile ∨ d.msg.kind = .frameClose → d.msg.stream ∉ l) →
    s.drainStreams l = ((a ++ [e]).filter fun d => d.takers.contains .sr).foldl (fun s d => s.takeBySr d.msg)
      (s.setFP { s.fp with rx := (a ++ [e]).filterMap (fun d => d.without .sr) ++ r }))
  ∧ (∀ (s v : State) (m : RxMsg), s.servingAs .desk = true →
    (s.take .sr .tile = some (m, v) → exec .tileTaken s = .next (v.takeBySr m))
    ∧ (s.take .sr .frameClose = some (m, v) → exec .frameCloseTaken s = .next (v.takeBySr m).judgeInput)
    ∧ (s.take .sr .presence = some (m, v) → exec .presenceTakenBySr s = .next (v.takeBySr m).judgeInput))
  ∧ (∀ (s u t : State) (n : Nat) (c : CP) (new : List Stream), s.TablesRule → s.servingAs .desk = true →
    n ≠ s.cp.layout → c = { s.cp with layout := n } → t = s.selectLayout n →
    u = s.drainStreams ((s.sr.ctxs.map Ctx.stream).filter fun x => x ∉ c.streams) →
    new = c.streams.filter (fun x => (s.sr.ctx x).isNone) →
    -- the canvas, the hotkey machine and blanking
    t.cp = { s.cp with layout := n, wheel := t.cp.wheel, field := t.cp.field } ∧ t.cp.field = t.mapPointer
      ∧ t.ii = { s.ii with ports := t.ii.ports, shown := t.ii.shown }
      ∧ t.hu = { s.hu with heads := t.hu.heads }
      -- the contexts, their regions and the store
      ∧ (∀ x d, x ∈ c.streams → u.sr.ctx x = some d → t.sr.ctx x = some d)
      ∧ (∀ x, x ∉ c.streams → t.sr.ctx x = none ∧ x ∉ t.fp.subs)
      ∧ (∀ x, x ∈ new → ∃ g, t.sr.ctx x = some (newCtx x g) ∧ x ∈ t.fp.subs
          ∧ ∀ a, 16777216 * g.val ≤ a → a < 16777216 * (g.val + 1) → t.sr.store.read a = 0)
      ∧ new.map (fun x => (t.sr.ctx x).map Ctx.region)
        = ((headNumbers.filter fun g => s.sr.ctxs.all fun d => d.stream ∉ c.streams || d.region ≠ g).take
            new.length).map some
      ∧ (∀ a, (∀ x g, x ∈ new → (t.sr.ctx x).map Ctx.region = some g →
            a < 16777216 * g.val ∨ 16777216 * (g.val + 1) ≤ a) → t.sr.store.read a = u.sr.store.read a)
      ∧ t.sr.places = Quad.ofFn t.placementOf
      ∧ (t.sa.current.has .streamLost = true ↔ ∃ d ∈ t.sr.ctxs, d.state = .lost)
      -- the records
      ∧ (∀ p, p ∉ c.sources → t.fu.record p = none)
      ∧ (∀ p r, p ∈ c.sources → s.fu.record p = some r →
          c.focusSource = s.cp.focusSource ∨ (c.focusSource ≠ some p ∧ s.cp.focusSource ≠ some p) →
          t.fu.record p = some { r with watched := c.watched p })
      ∧ (∀ p, p ∈ c.sources → s.fu.record p = none → c.focusSource ≠ some p ∨ s.fu.autoRequest = false →
          t.fu.record p = some (newRecord p (c.watched p) s.now))
      ∧ (∀ p (k : Fin 2), (c.watched p).getLsbD k.val = true ↔ (⟨p, k⟩ : Stream) ∈ c.streams)
      ∧ (∀ p r, p ∉ c.sources → s.fu.record p = some r → s.fp.linkUp = true → u.fp.class0.length ≤ 8 →
          (r.state = .holding ∨ r.state = .queued → Out0.controlRelease p r.id ∈ t.fp.class0)
          ∧ (r.state = .holding → r.leave = none → s.fp.class1 = [] →
              (⟨p, r.id, r.seq, .released, 0, none, 0⟩ : OutInput) ∈ t.fp.class1)
          ∧ (r.state = .asking ∨ r.state = .idle →
              ∀ i, Out0.controlRelease p i ∈ t.fp.class0 → Out0.controlRelease p i ∈ u.fp.class0))
      -- the PRESENCE
      ∧ t.pu.timer = some s.now ∧ (s.fp.linkUp = true → Out2.presence ∈ t.fp.class2) ∧ s.sameSource t)
  -- what a removed record sends (R63)
  ∧ (∀ (s : State) (r : SrcRec),
    (r.state = .holding → r.leave = none → s.fp.linkUp = false ∨ s.fp.class1.length < 4 →
      s.dropRecord r = s.leave r .release)
    ∧ (r.state = .holding → r.leave.isSome = true ∨ (s.fp.linkUp = true ∧ 4 ≤ s.fp.class1.length) →
      s.dropRecord r = s.hand0 (.controlRelease r.station r.id))
    ∧ (r.state = .queued → s.dropRecord r = s.hand0 (.controlRelease r.station r.id))
    ∧ (r.state = .asking ∨ r.state = .idle → s.dropRecord r = s)
    ∧ ∀ p, (s.removeRecord r).fu.record p = if p = r.station then none else (s.dropRecord r).fu.record p)

/-- The timers of a record and of a context, and PRESENCE_TAKEN_BY_SR. ASK, REFUSED, ABSENCE and HOLD_OFF_TIMER_EXPIRY
(R55, R59, R65, R64): a request is sent again under its id after 200 ms, or ends after its third send with
SOURCE-SILENT; the refused flag clears after 2000 ms; an absent source's record goes to IDLE with no message after 1000
ms; the hold-off ends after 100 ms. STALE, LOST and REPAIR_TIMER_EXPIRY (R147, R148, R143): a LIVE context goes STALE
after 1000 ms, a STALE one LOST after 5000 ms, with its region black and STREAM-LOST; an owed repair is asked for after
500 ms. PRESENCE_TAKEN_BY_SR (R149): a channel reported in a state other than LOCKED makes its LIVE context STALE. That
the stale timer's expiry leaves the state of a context which is not LIVE, and the lost timer's a context which is not
STALE, is the model's reading (log 33). -/
def Obligations.DeskTimersExpire : Prop :=
  (∀ (s : State) (p : Nat) (r : SrcRec) (u : Time), s.fu.record p = some r →
    (r.ask = some u → 200000 ≤ (s.now - u).toNat → r.sends < 3 → exec (.askTimerExpiry p) s
      = .next ((s.hand0 (.controlRequest p r.id r.watched)).putRecord
          { r with sends := r.sends + 1, ask := some s.now }))
    ∧ (r.ask = some u → 200000 ≤ (s.now - u).toNat → 3 ≤ r.sends →
      exec (.askTimerExpiry p) s = .next ((s.moveRecord r .idle).latch .sourceSilent))
    ∧ (r.refusedTimer = some u → 2000000 ≤ (s.now - u).toNat → exec (.refusedTimerExpiry p) s
      = .next (s.putRecord { r with refused := false, refusedTimer := none }))
    ∧ (r.absence = some u → 1000000 ≤ (s.now - u).toNat → exec (.absenceTimerExpiry p) s
      = .next (s.moveRecord { r with absent := true, absence := none } .idle).judgeInput)
    ∧ (r.holdOff = some u → 100000 ≤ (s.now - u).toNat →
      exec (.holdOffTimerExpiry p) s = .next (s.putRecord { r with holdOff := none })))
  ∧ (∀ (s : State) (x : Stream) (c : Ctx) (u : Time), s.sr.ctx x = some c →
    (c.stale = some u → 1000000 ≤ (s.now - u).toNat → ∃ t q, exec (.staleTimerExpiry x) s = .next t
      ∧ t.sr.ctx x = some q ∧ (c.state = .live → q = { c with stale := none, state := .stale })
      ∧ (c.state ≠ .live → q = { c with stale := none }) ∧ (∀ y, y ≠ x → t.sr.ctx y = s.sr.ctx y)
      ∧ t.sr.store = s.sr.store ∧ t.sr.places = s.sr.places ∧ t.cp.field = t.mapPointer ∧ s.sameSource t)
    ∧ (c.lost = some u → 5000000 ≤ (s.now - u).toNat → c.state = .stale → ∃ t, exec (.lostTimerExpiry x) s = .next t
      ∧ t.sr.ctx x = some { c with lost := none, state := .lost } ∧ (∀ y, y ≠ x → t.sr.ctx y = s.sr.ctx y)
      ∧ t.sr.store = s.sr.store.clearRegion c.region.val ∧ t.sr.places = s.sr.places
      ∧ t.sa.current.has .streamLost = true ∧ t.sa.latched.has .streamLost = true ∧ s.sameSource t)
    ∧ (c.state ≠ .stale → exec (.lostTimerExpiry x) s = .next s)
    ∧ (c.repair = some u → 500000 ≤ (s.now - u).toNat → c.owed = true → exec (.repairTimerExpiry x) s
      = .next ((s.hand0 (.repairRequest c.stream.station c.stream.channel)).putCtx
          { c with repair := some s.now, owed := false }))
    ∧ (c.repair = some u → 500000 ≤ (s.now - u).toNat → c.owed = false →
      exec (.repairTimerExpiry x) s = .next (s.putCtx { c with repair := none })))
  ∧ (∀ (s u : State) (m : RxMsg), s.servingAs .desk = true → s.take .sr .presence = some (m, u) →
    ∃ t, exec .presenceTakenBySr s = .next t ∧ t.sr.store = s.sr.store ∧ t.sr.places = s.sr.places
      ∧ (∀ x c, s.sr.ctx x = some c →
        (x.station = m.sender → c.state = .live → presenceChannelState m.payload x.channel ≠ 2 →
          t.sr.ctx x = some { c with state := .stale })
        ∧ (x.station ≠ m.sender ∨ c.state ≠ .live ∨ presenceChannelState m.payload x.channel = 2 →
          t.sr.ctx x = some c))
      ∧ s.sameSource t)

/-- INPUT_INTERVAL_EXPIRY and the paced INPUT (R34, R67, R68): FU judges its INPUT once the interval has passed. With no
leave pending, class 1 with room, and the focus record HOLDING, it hands one INPUT when the fresh flag, the queue, the
pointer field, the buttons or the wheel sum call for it, and none otherwise; the INPUT carries the current or the oldest
queued snapshot, the record's id and sequence, and a share of the wheel sum; while the link is DOWN the INPUT built is
lost (R177). -/
def Obligations.PacedInput : Prop :=
  (∀ (s : State) (u : Time), s.fu.interval = some u → 1000 * s.fu.intervalMs ≤ (s.now - u).toNat →
    exec .inputIntervalExpiry s = .next (s.setFU { s.fu with interval := none }).judgeInput)
  ∧ ∀ (s : State) (r : SrcRec), s.focusRecord = some r → r.state = .holding → r.leave = none →
    s.fu.leaveOrder = [] →
    (s.fu.interval = none → s.fp.linkUp = false ∨ s.fp.class1.length < 4 →
      (s.fu.fresh = true ∨ s.fu.queue ≠ [] ∨ s.cp.field ≠ r.noted.field ∨ s.cp.buttons ≠ r.noted.buttons
          ∨ s.cp.wheel ≠ 0) →
      ∃ (t : State) (k : Snapshot) (w : Int), s.judgeInput = t
        ∧ w = max (-127) (min 127 s.cp.wheel)
        ∧ (s.fu.fresh = true → k = s.ii.passed ∧ t.fu.queue = [])
        ∧ (∀ q l, s.fu.fresh = false → s.fu.queue = q :: l → k = q ∧ t.fu.queue = l)
        ∧ (s.fu.fresh = false → s.fu.queue = [] → k = s.ii.passed ∧ t.fu.queue = [])
        ∧ (s.fp.linkUp = true → t.fp = { s.fp with class1 := s.fp.class1 ++ [{
            target := r.station, id := r.id, seq := r.seq, snapshot := k, buttons := s.cp.buttons
            field := s.cp.field, wheel := w }] })
        ∧ (s.fp.linkUp = false → t.fp = s.fp)
        ∧ t.fu.fresh = false ∧ t.fu.interval = some s.now ∧ t.cp = { s.cp with wheel := s.cp.wheel - w }
        ∧ t.focusRecord = some { r with seq := r.seq + 1, noted := ⟨k, s.cp.buttons, s.cp.field⟩ }
        ∧ t.sa = s.sa ∧ t.ii = s.ii ∧ t.sr = s.sr ∧ t.hu = s.hu ∧ t.pu = s.pu ∧ s.sameSource t)
    ∧ (s.fu.interval.isSome = true ∨ (s.fp.linkUp = true ∧ 4 ≤ s.fp.class1.length)
        ∨ (s.fu.fresh = false ∧ s.fu.queue = [] ∧ s.cp.field = r.noted.field ∧ s.cp.buttons = r.noted.buttons
            ∧ s.cp.wheel = 0) → s.judgeInput = s)

/-! ### Streams at the desk -/

/-- FRAME_CLOSE_TAKEN (R140 to R145, R147, R148): an old message of a LIVE context is discarded. Any other has its
sequence taken, a loss or a resynchronisation with its repair need (state v, context q). A FRAME-CLOSE that then fails
R144 is malformed; one of the context's epoch and mode makes the context LIVE and starts its timers; one of another
epoch or mode gives the context both, clears its region to black and places its heads. A new epoch is a repair need, and
so is a return from LOST: the first asks for a repair at once when the repair timer is stopped, any other is owed. -/
def Obligations.FrameCloseTaken : Prop :=
  ∀ (s u : State) (m : RxMsg) (c : Ctx) (f : CloseContent), s.servingAs .desk = true →
    s.take .sr .frameClose = some (m, u) → s.sr.ctx m.stream = some c → f = readClose m.payload →
    (∀ l, c.state = .live → c.lastSeq = some l → (m.seq - l).toNat = 0 ∨ 32768 ≤ (m.seq - l).toNat →
      exec .frameCloseTaken s = .next u.judgeInput)
    ∧ (∀ (v : State) (q : Ctx), SeqTaken u v m c q →
      (f.ok = false → exec .frameCloseTaken s = .next (v.latch .malformed).judgeInput)
      ∧ (f.ok = true → ∃ (t : State) (p : Ctx) (news returns : Prop), exec .frameCloseTaken s = .next t
        ∧ (news ↔ c.epoch ≠ some f.epoch ∨ c.mode ≠ some f.mode) ∧ (returns ↔ c.state = .lost)
        ∧ t.sr.ctx m.stream = some p ∧ p = { q with
            state := .live, epoch := some f.epoch, mode := some f.mode, lastClose := some s.now, stale := some s.now
            lost := some s.now, repair := p.repair, owed := p.owed }
        ∧ (∀ x, x ≠ m.stream → t.sr.ctx x = s.sr.ctx x)
        -- the region and the heads
        ∧ (¬ news → t.sr.store = s.sr.store ∧ t.sr.places = s.sr.places)
        ∧ (news → t.sr.store = s.sr.store.clearRegion c.region.val
            ∧ (∀ h, s.cp.shown h = some m.stream → t.sr.places.get h
                = some (placement c.region f.mode (s.cp.heads.get h).w (s.cp.heads.get h).h))
            ∧ (∀ h, s.cp.shown h ≠ some m.stream → t.sr.places.get h = s.sr.places.get h))
        -- repair
        ∧ (¬ news → ¬ returns → p.repair = q.repair ∧ p.owed = q.owed)
        ∧ (news ∨ returns → q.repair.isSome = true → p.repair = q.repair ∧ p.owed = true)
        ∧ (news ∨ returns → q.repair = none → p.repair = some s.now ∧ (p.owed = true ↔ news ∧ returns))
        ∧ (s.fu.leaveOrder = [] → v.fp.linkUp = true → v.fp.class0.length < 16 →
            (q.repair = none → news ∨ returns → t.fp.class0 = v.fp.class0 ++ [.repairRequest m.sender m.channel])
            ∧ (q.repair.isSome = true ∨ (¬ news ∧ ¬ returns) → t.fp.class0 = v.fp.class0))
        ∧ (t.sa.current.has .streamLost = true ↔ ∃ d ∈ t.sr.ctxs, d.state = .lost)
        ∧ t.cp.x = s.cp.x ∧ t.cp.y = s.cp.y ∧ t.cp.field = t.mapPointer ∧ s.sameSource t))

/-- TILE_TAKEN (R140 to R143, R146): an old message of a LIVE context is discarded. Any other has its sequence taken, a
loss or a resynchronisation with its repair need (state v, context q). A tile of another epoch writes nothing; a
malformed tile latches MALFORMED and raises a repair need, asked for at once or owed while the repair timer runs; any
other is decoded and its real pixels, and no other byte of the store, are written into the context's region. -/
def Obligations.TileWritten : Prop :=
  ∀ (s u : State) (m : RxMsg) (c : Ctx), s.servingAs .desk = true → s.take .sr .tile = some (m, u) →
    s.sr.ctx m.stream = some c →
    (∀ l, c.state = .live → c.lastSeq = some l → (m.seq - l).toNat = 0 ∨ 32768 ≤ (m.seq - l).toNat →
      exec .tileTaken s = .next u)
    ∧ (∀ (v : State) (q : Ctx), SeqTaken u v m c q →
      (c.mode = none ∨ c.epoch ≠ some (m.payload.getD 0 0) → exec .tileTaken s = .next v)
      ∧ (∀ z, c.mode = some z → c.epoch = some (m.payload.getD 0 0) → decodeTile z m.payload = none →
        (q.repair = none → exec .tileTaken s
          = .next (((v.latch .malformed).hand0 (.repairRequest m.sender m.channel)).putCtx
              { q with repair := some s.now, owed := false }))
        ∧ (q.repair.isSome = true →
          exec .tileTaken s = .next ((v.latch .malformed).putCtx { q with owed := true })))
      ∧ (∀ z px d, c.mode = some z → z.w ≤ 2560 → z.h ≤ 1600 → c.epoch = some (m.payload.getD 0 0) →
        decodeTile z m.payload = some px → d = tileSize z ⟨byteAt m.payload 2, byteAt m.payload 3⟩ →
        s.sr.store.wf = true →
        ∃ t, exec .tileTaken s = .next t ∧ t = v.setSR { v.sr with store := t.sr.store } ∧ px.length = d.w * d.h
          ∧ (∀ x y, x < d.w → y < d.h → some (t.sr.store.pixel c.region.val
                (16 * byteAt m.payload 2 + x) (16 * byteAt m.payload 3 + y)) = px[y * d.w + x]?)
          ∧ (∀ a, (∀ x y k, x < d.w → y < d.h → k < 3 → a ≠ pixelAddress c.region.val
                (16 * byteAt m.payload 2 + x) (16 * byteAt m.payload 3 + y) + k) →
              t.sr.store.read a = s.sr.store.read a)))

/-- A PLACED record (R13): the scale, the displayed size, and the image offset, with the image rectangle inside the
head; and a stream of the sizes R13 names is never below 320 × 240 when halved. -/
def Obligations.PlacementRule : Prop :=
  ∀ (g : Fin 4) (z : Size) (hw hh : Nat) (p : Placement), p = placement g z hw hh →
    p.region = g ∧ (z.w ≤ hw ∧ z.h ≤ hh → p.k = 1) ∧ (¬ (z.w ≤ hw ∧ z.h ≤ hh) → p.k = 2)
    ∧ (∃ cw ch : Nat, z.w ≤ p.k * cw ∧ p.k * cw < z.w + p.k ∧ z.h ≤ p.k * ch ∧ p.k * ch < z.h + p.k
        ∧ p.dw = min hw cw ∧ p.dh = min hh ch ∧ (640 ≤ z.w → 320 ≤ cw) ∧ (480 ≤ z.h → 240 ≤ ch))
    ∧ 2 * p.ox ≤ hw - p.dw ∧ hw - p.dw ≤ 2 * p.ox + 1 ∧ 2 * p.oy ≤ hh - p.dh ∧ hh - p.dh ≤ 2 * p.oy + 1
    ∧ p.ox + p.dw ≤ hw ∧ p.oy + p.dh ≤ hh

/-! ### Heads -/

/-- HEAD_LINE_START and MINUTE_TIMER_EXPIRY (R157, R154, R151, R163): at a line start, HU reads the head's state, its
placement record, and on the pointer head the pointer and the focus record, takes the profile's sync at a frame start,
and counts on; the minute count rises, and at T_blank the timer stops and every VALID head is BLANK. The line's pixels
(R14, R157 to R162): the region's pixel or the border, the focus frame, the glyph, the last two while the head is not
BLANK. The pins (R151, R155, R156): low before the first line start, inactive with the profile's sync off, else the
intervals of the mode entry; that they are a function of the state and of a pixel's number is the model's choice (log
26). -/
def Obligations.HeadsAndBlanking : Prop :=
  (∀ (s : State) (h : Fin 4), (s.hu.heads.get h).running = true → ∃ (t : State) (l : LineLatch),
    exec (.headLineStart h) s = .next t ∧ t = s.setHU { s.hu with heads := t.hu.heads }
    ∧ (∀ k, k ≠ h → t.hu.heads.get k = s.hu.heads.get k) ∧ (t.hu.heads.get h).latch = some l
    ∧ l.line = (s.hu.heads.get h).line ∧ l.state = (s.hu.heads.get h).state ∧ l.place = s.sr.places.get h
    ∧ (s.cp.head = some h → l.pointer = some (s.cp.x - (s.cp.heads.get h).cx, s.cp.y - (s.cp.heads.get h).cy)
        ∧ l.focus = s.focusRecord.map fun r => ⟨r.state, r.refused, r.absent⟩)
    ∧ (s.cp.head ≠ some h → l.pointer = none ∧ l.focus = none)
    ∧ ((s.hu.heads.get h).line = 0 →
        (t.hu.heads.get h).syncOn = (s.hu.profile (s.hu.heads.get h).state).sync)
    ∧ ((s.hu.heads.get h).line ≠ 0 → (t.hu.heads.get h).syncOn = (s.hu.heads.get h).syncOn)
    ∧ ((s.hu.heads.get h).line + 1 < (s.cp.modeOf h).vTotal →
        (t.hu.heads.get h).line = (s.hu.heads.get h).line + 1)
    ∧ ((s.hu.heads.get h).line + 1 = (s.cp.modeOf h).vTotal → (t.hu.heads.get h).line = 0))
  ∧ (∀ (s : State) (u : Time), s.hu.minute = some u → 60000000 ≤ (s.now - u).toNat →
    (s.hu.count + 1 ≠ s.hu.tBlank → exec .minuteTimerExpiry s
      = .next (s.setHU { s.hu with count := s.hu.count + 1, minute := some s.now }))
    ∧ (s.hu.count + 1 = s.hu.tBlank → ∃ t, exec .minuteTimerExpiry s = .next t
      ∧ t = s.setHU { s.hu with
          count := s.hu.tBlank, minute := none, blank := true, heads := t.hu.heads }
      ∧ (s.sa.start = .serving → ∀ h,
          ((s.cp.heads.get h).validity = .valid → (t.hu.heads.get h).state = .blank)
          ∧ ((s.cp.heads.get h).validity ≠ .valid → (t.hu.heads.get h).state = .off))))
  -- a pixel of the line held in l: base B, frame F, glyph
  ∧ (∀ (s : State) (h : Fin 4) (l : LineLatch) (u : Nat), ∃ (B F : Colour) (band : Prop),
    (∀ p, l.place = some p → (s.hu.profile l.state).image = true → p.ox ≤ u → u < p.ox + p.dw → p.oy ≤ l.line →
      l.line < p.oy + p.dh → B = s.sr.store.pixel p.region.val (p.k * (u - p.ox)) (p.k * (l.line - p.oy)))
    ∧ (l.place = none ∨ (s.hu.profile l.state).image = false ∨ (∃ p, l.place = some p
          ∧ (u < p.ox ∨ p.ox + p.dw ≤ u ∨ l.line < p.oy ∨ p.oy + p.dh ≤ l.line)) →
        B = (s.hu.profile l.state).border)
    ∧ (band ↔ u < s.hu.frameWidth ∨ (s.cp.heads.get h).w ≤ u + s.hu.frameWidth ∨ l.line < s.hu.frameWidth
        ∨ (s.cp.heads.get h).h ≤ l.line + s.hu.frameWidth)
    ∧ (l.focus = none ∨ l.state = .off ∨ l.state = .blank ∨ ¬ band → F = B)
    ∧ (∀ f, l.focus = some f → l.state ≠ .off → l.state ≠ .blank → band →
      (f.refused = true → F = s.hu.colours.refused)
      ∧ (f.refused = false → f.state = .idle → f.absent = true → F = s.hu.colours.absent)
      ∧ (f.refused = false → f.state = .idle → f.absent = false → F = s.hu.colours.idle)
      ∧ (f.refused = false → f.state = .holding → F = s.hu.colours.holding)
      ∧ (f.refused = false → f.state = .asking → F = s.hu.colours.asking)
      ∧ (f.refused = false → f.state = .queued → F = s.hu.colours.queued))
    ∧ (l.pointer = none ∨ l.state = .off ∨ l.state = .blank
          ∨ (s.hu.glyph.always = false ∧ ∃ f, l.focus = some f ∧ f.state = .holding) → s.composePixel h l u = F)
    ∧ (∀ pu pv, l.pointer = some (pu, pv) → l.state ≠ .off → l.state ≠ .blank →
      s.hu.glyph.always = true ∨ (∀ f, l.focus = some f → f.state ≠ .holding) →
      (∀ gx gy, gx < 16 → gy < 16 → u + s.hu.glyph.hx = pu + gx → l.line + s.hu.glyph.hy = pv + gy →
        (s.hu.glyph.codes.getD (16 * gy + gx) 0 = 0 → s.composePixel h l u = F)
        ∧ (s.hu.glyph.codes.getD (16 * gy + gx) 0 = 1 → s.composePixel h l u = s.hu.glyph.a)
        ∧ (s.hu.glyph.codes.getD (16 * gy + gx) 0 = 2 → s.composePixel h l u = s.hu.glyph.b)
        ∧ (s.hu.glyph.codes.getD (16 * gy + gx) 0 = 3 →
            s.composePixel h l u = ⟨255 - F.r, 255 - F.g, 255 - F.b⟩))
      ∧ ((∀ gx gy, gx < 16 → gy < 16 → u + s.hu.glyph.hx ≠ pu + gx ∨ l.line + s.hu.glyph.hy ≠ pv + gy) →
        s.composePixel h l u = F)))
  -- the pins at pixel p of a line
  ∧ (∀ (s : State) (h : Fin 4) (p : Nat) (m : ModeEntry), m = s.cp.modeOf h →
    ((s.hu.heads.get h).latch = none → s.headPins h p = ⟨false, false, false, false, ⟨0, 0, 0⟩⟩)
    ∧ (∀ l, (s.hu.heads.get h).latch = some l →
      (s.headPins h p).pclk = true
      ∧ ((s.hu.heads.get h).syncOn = false →
          s.headPins h p = ⟨true, decide (m.hpol ≠ 0), decide (m.vpol ≠ 0), false, ⟨0, 0, 0⟩⟩)
      ∧ ((s.hu.heads.get h).syncOn = true →
        ((s.headPins h p).de = true ↔ p < m.aw ∧ l.line < m.ah)
        ∧ ((s.headPins h p).hsync = true ↔
            ((m.aw + m.hfp ≤ p ∧ p < m.aw + m.hfp + m.hsw) ↔ m.hpol = 0))
        ∧ ((s.headPins h p).vsync = true ↔
            ((m.ah + m.vfp ≤ l.line ∧ l.line < m.ah + m.vfp + m.vsw) ↔ m.vpol = 0))
        ∧ (p < m.aw → l.line < m.ah → (s.headPins h p).d = s.composePixel h l p)
        ∧ (m.aw ≤ p ∨ m.ah ≤ l.line → (s.headPins h p).d = ⟨0, 0, 0⟩))))
end

