-- ==== Sys2Proof/Laws/State.lean ====
section
/-!
SUPPORT. What replacing one block of the state leaves: one lemma for each field and each replacement, so that no proof
unfolds a record update; the queue, the counter and the role are likewise kept.
-/

namespace Sys2Proof.Machine

@[simp] theorem State.setSA_pending (s : State) (b : SA) : (s.setSA b).pending = s.pending := rfl
@[simp] theorem State.setSA_now (s : State) (b : SA) : (s.setSA b).now = s.now := rfl
@[simp] theorem State.setSA_role (s : State) (b : SA) : (s.setSA b).role = s.role := rfl
@[simp] theorem State.setSA_sa (s : State) (b : SA) : (s.setSA b).sa = b := rfl
@[simp] theorem State.setSA_pu (s : State) (b : SA) : (s.setSA b).pu = s.pu := rfl
@[simp] theorem State.setSA_fp (s : State) (b : SA) : (s.setSA b).fp = s.fp := rfl
@[simp] theorem State.setSA_cu (s : State) (b : SA) : (s.setSA b).cu = s.cu := rfl
@[simp] theorem State.setSA_ts (s : State) (b : SA) : (s.setSA b).ts = s.ts := rfl
@[simp] theorem State.setSA_ca (s : State) (b : SA) : (s.setSA b).ca = s.ca := rfl
@[simp] theorem State.setSA_wp (s : State) (b : SA) : (s.setSA b).wp = s.wp := rfl
@[simp] theorem State.setSA_ii (s : State) (b : SA) : (s.setSA b).ii = s.ii := rfl
@[simp] theorem State.setSA_cp (s : State) (b : SA) : (s.setSA b).cp = s.cp := rfl
@[simp] theorem State.setSA_fu (s : State) (b : SA) : (s.setSA b).fu = s.fu := rfl
@[simp] theorem State.setSA_sr (s : State) (b : SA) : (s.setSA b).sr = s.sr := rfl
@[simp] theorem State.setSA_hu (s : State) (b : SA) : (s.setSA b).hu = s.hu := rfl

@[simp] theorem State.setPU_pending (s : State) (b : PU) : (s.setPU b).pending = s.pending := rfl
@[simp] theorem State.setPU_now (s : State) (b : PU) : (s.setPU b).now = s.now := rfl
@[simp] theorem State.setPU_role (s : State) (b : PU) : (s.setPU b).role = s.role := rfl
@[simp] theorem State.setPU_sa (s : State) (b : PU) : (s.setPU b).sa = s.sa := rfl
@[simp] theorem State.setPU_pu (s : State) (b : PU) : (s.setPU b).pu = b := rfl
@[simp] theorem State.setPU_fp (s : State) (b : PU) : (s.setPU b).fp = s.fp := rfl
@[simp] theorem State.setPU_cu (s : State) (b : PU) : (s.setPU b).cu = s.cu := rfl
@[simp] theorem State.setPU_ts (s : State) (b : PU) : (s.setPU b).ts = s.ts := rfl
@[simp] theorem State.setPU_ca (s : State) (b : PU) : (s.setPU b).ca = s.ca := rfl
@[simp] theorem State.setPU_wp (s : State) (b : PU) : (s.setPU b).wp = s.wp := rfl
@[simp] theorem State.setPU_ii (s : State) (b : PU) : (s.setPU b).ii = s.ii := rfl
@[simp] theorem State.setPU_cp (s : State) (b : PU) : (s.setPU b).cp = s.cp := rfl
@[simp] theorem State.setPU_fu (s : State) (b : PU) : (s.setPU b).fu = s.fu := rfl
@[simp] theorem State.setPU_sr (s : State) (b : PU) : (s.setPU b).sr = s.sr := rfl
@[simp] theorem State.setPU_hu (s : State) (b : PU) : (s.setPU b).hu = s.hu := rfl

@[simp] theorem State.setFP_pending (s : State) (b : FP) : (s.setFP b).pending = s.pending := rfl
@[simp] theorem State.setFP_now (s : State) (b : FP) : (s.setFP b).now = s.now := rfl
@[simp] theorem State.setFP_role (s : State) (b : FP) : (s.setFP b).role = s.role := rfl
@[simp] theorem State.setFP_sa (s : State) (b : FP) : (s.setFP b).sa = s.sa := rfl
@[simp] theorem State.setFP_pu (s : State) (b : FP) : (s.setFP b).pu = s.pu := rfl
@[simp] theorem State.setFP_fp (s : State) (b : FP) : (s.setFP b).fp = b := rfl
@[simp] theorem State.setFP_cu (s : State) (b : FP) : (s.setFP b).cu = s.cu := rfl
@[simp] theorem State.setFP_ts (s : State) (b : FP) : (s.setFP b).ts = s.ts := rfl
@[simp] theorem State.setFP_ca (s : State) (b : FP) : (s.setFP b).ca = s.ca := rfl
@[simp] theorem State.setFP_wp (s : State) (b : FP) : (s.setFP b).wp = s.wp := rfl
@[simp] theorem State.setFP_ii (s : State) (b : FP) : (s.setFP b).ii = s.ii := rfl
@[simp] theorem State.setFP_cp (s : State) (b : FP) : (s.setFP b).cp = s.cp := rfl
@[simp] theorem State.setFP_fu (s : State) (b : FP) : (s.setFP b).fu = s.fu := rfl
@[simp] theorem State.setFP_sr (s : State) (b : FP) : (s.setFP b).sr = s.sr := rfl
@[simp] theorem State.setFP_hu (s : State) (b : FP) : (s.setFP b).hu = s.hu := rfl

@[simp] theorem State.setCU_pending (s : State) (b : CU) : (s.setCU b).pending = s.pending := rfl
@[simp] theorem State.setCU_now (s : State) (b : CU) : (s.setCU b).now = s.now := rfl
@[simp] theorem State.setCU_role (s : State) (b : CU) : (s.setCU b).role = s.role := rfl
@[simp] theorem State.setCU_sa (s : State) (b : CU) : (s.setCU b).sa = s.sa := rfl
@[simp] theorem State.setCU_pu (s : State) (b : CU) : (s.setCU b).pu = s.pu := rfl
@[simp] theorem State.setCU_fp (s : State) (b : CU) : (s.setCU b).fp = s.fp := rfl
@[simp] theorem State.setCU_cu (s : State) (b : CU) : (s.setCU b).cu = b := rfl
@[simp] theorem State.setCU_ts (s : State) (b : CU) : (s.setCU b).ts = s.ts := rfl
@[simp] theorem State.setCU_ca (s : State) (b : CU) : (s.setCU b).ca = s.ca := rfl
@[simp] theorem State.setCU_wp (s : State) (b : CU) : (s.setCU b).wp = s.wp := rfl
@[simp] theorem State.setCU_ii (s : State) (b : CU) : (s.setCU b).ii = s.ii := rfl
@[simp] theorem State.setCU_cp (s : State) (b : CU) : (s.setCU b).cp = s.cp := rfl
@[simp] theorem State.setCU_fu (s : State) (b : CU) : (s.setCU b).fu = s.fu := rfl
@[simp] theorem State.setCU_sr (s : State) (b : CU) : (s.setCU b).sr = s.sr := rfl
@[simp] theorem State.setCU_hu (s : State) (b : CU) : (s.setCU b).hu = s.hu := rfl

@[simp] theorem State.setTS_pending (s : State) (b : TS) : (s.setTS b).pending = s.pending := rfl
@[simp] theorem State.setTS_now (s : State) (b : TS) : (s.setTS b).now = s.now := rfl
@[simp] theorem State.setTS_role (s : State) (b : TS) : (s.setTS b).role = s.role := rfl
@[simp] theorem State.setTS_sa (s : State) (b : TS) : (s.setTS b).sa = s.sa := rfl
@[simp] theorem State.setTS_pu (s : State) (b : TS) : (s.setTS b).pu = s.pu := rfl
@[simp] theorem State.setTS_fp (s : State) (b : TS) : (s.setTS b).fp = s.fp := rfl
@[simp] theorem State.setTS_cu (s : State) (b : TS) : (s.setTS b).cu = s.cu := rfl
@[simp] theorem State.setTS_ts (s : State) (b : TS) : (s.setTS b).ts = b := rfl
@[simp] theorem State.setTS_ca (s : State) (b : TS) : (s.setTS b).ca = s.ca := rfl
@[simp] theorem State.setTS_wp (s : State) (b : TS) : (s.setTS b).wp = s.wp := rfl
@[simp] theorem State.setTS_ii (s : State) (b : TS) : (s.setTS b).ii = s.ii := rfl
@[simp] theorem State.setTS_cp (s : State) (b : TS) : (s.setTS b).cp = s.cp := rfl
@[simp] theorem State.setTS_fu (s : State) (b : TS) : (s.setTS b).fu = s.fu := rfl
@[simp] theorem State.setTS_sr (s : State) (b : TS) : (s.setTS b).sr = s.sr := rfl
@[simp] theorem State.setTS_hu (s : State) (b : TS) : (s.setTS b).hu = s.hu := rfl

@[simp] theorem State.setCA_pending (s : State) (b : CA) : (s.setCA b).pending = s.pending := rfl
@[simp] theorem State.setCA_now (s : State) (b : CA) : (s.setCA b).now = s.now := rfl
@[simp] theorem State.setCA_role (s : State) (b : CA) : (s.setCA b).role = s.role := rfl
@[simp] theorem State.setCA_sa (s : State) (b : CA) : (s.setCA b).sa = s.sa := rfl
@[simp] theorem State.setCA_pu (s : State) (b : CA) : (s.setCA b).pu = s.pu := rfl
@[simp] theorem State.setCA_fp (s : State) (b : CA) : (s.setCA b).fp = s.fp := rfl
@[simp] theorem State.setCA_cu (s : State) (b : CA) : (s.setCA b).cu = s.cu := rfl
@[simp] theorem State.setCA_ts (s : State) (b : CA) : (s.setCA b).ts = s.ts := rfl
@[simp] theorem State.setCA_ca (s : State) (b : CA) : (s.setCA b).ca = b := rfl
@[simp] theorem State.setCA_wp (s : State) (b : CA) : (s.setCA b).wp = s.wp := rfl
@[simp] theorem State.setCA_ii (s : State) (b : CA) : (s.setCA b).ii = s.ii := rfl
@[simp] theorem State.setCA_cp (s : State) (b : CA) : (s.setCA b).cp = s.cp := rfl
@[simp] theorem State.setCA_fu (s : State) (b : CA) : (s.setCA b).fu = s.fu := rfl
@[simp] theorem State.setCA_sr (s : State) (b : CA) : (s.setCA b).sr = s.sr := rfl
@[simp] theorem State.setCA_hu (s : State) (b : CA) : (s.setCA b).hu = s.hu := rfl

@[simp] theorem State.setWP_pending (s : State) (b : WP) : (s.setWP b).pending = s.pending := rfl
@[simp] theorem State.setWP_now (s : State) (b : WP) : (s.setWP b).now = s.now := rfl
@[simp] theorem State.setWP_role (s : State) (b : WP) : (s.setWP b).role = s.role := rfl
@[simp] theorem State.setWP_sa (s : State) (b : WP) : (s.setWP b).sa = s.sa := rfl
@[simp] theorem State.setWP_pu (s : State) (b : WP) : (s.setWP b).pu = s.pu := rfl
@[simp] theorem State.setWP_fp (s : State) (b : WP) : (s.setWP b).fp = s.fp := rfl
@[simp] theorem State.setWP_cu (s : State) (b : WP) : (s.setWP b).cu = s.cu := rfl
@[simp] theorem State.setWP_ts (s : State) (b : WP) : (s.setWP b).ts = s.ts := rfl
@[simp] theorem State.setWP_ca (s : State) (b : WP) : (s.setWP b).ca = s.ca := rfl
@[simp] theorem State.setWP_wp (s : State) (b : WP) : (s.setWP b).wp = b := rfl
@[simp] theorem State.setWP_ii (s : State) (b : WP) : (s.setWP b).ii = s.ii := rfl
@[simp] theorem State.setWP_cp (s : State) (b : WP) : (s.setWP b).cp = s.cp := rfl
@[simp] theorem State.setWP_fu (s : State) (b : WP) : (s.setWP b).fu = s.fu := rfl
@[simp] theorem State.setWP_sr (s : State) (b : WP) : (s.setWP b).sr = s.sr := rfl
@[simp] theorem State.setWP_hu (s : State) (b : WP) : (s.setWP b).hu = s.hu := rfl

@[simp] theorem State.setII_pending (s : State) (b : II) : (s.setII b).pending = s.pending := rfl
@[simp] theorem State.setII_now (s : State) (b : II) : (s.setII b).now = s.now := rfl
@[simp] theorem State.setII_role (s : State) (b : II) : (s.setII b).role = s.role := rfl
@[simp] theorem State.setII_sa (s : State) (b : II) : (s.setII b).sa = s.sa := rfl
@[simp] theorem State.setII_pu (s : State) (b : II) : (s.setII b).pu = s.pu := rfl
@[simp] theorem State.setII_fp (s : State) (b : II) : (s.setII b).fp = s.fp := rfl
@[simp] theorem State.setII_cu (s : State) (b : II) : (s.setII b).cu = s.cu := rfl
@[simp] theorem State.setII_ts (s : State) (b : II) : (s.setII b).ts = s.ts := rfl
@[simp] theorem State.setII_ca (s : State) (b : II) : (s.setII b).ca = s.ca := rfl
@[simp] theorem State.setII_wp (s : State) (b : II) : (s.setII b).wp = s.wp := rfl
@[simp] theorem State.setII_ii (s : State) (b : II) : (s.setII b).ii = b := rfl
@[simp] theorem State.setII_cp (s : State) (b : II) : (s.setII b).cp = s.cp := rfl
@[simp] theorem State.setII_fu (s : State) (b : II) : (s.setII b).fu = s.fu := rfl
@[simp] theorem State.setII_sr (s : State) (b : II) : (s.setII b).sr = s.sr := rfl
@[simp] theorem State.setII_hu (s : State) (b : II) : (s.setII b).hu = s.hu := rfl

@[simp] theorem State.setCP_pending (s : State) (b : CP) : (s.setCP b).pending = s.pending := rfl
@[simp] theorem State.setCP_now (s : State) (b : CP) : (s.setCP b).now = s.now := rfl
@[simp] theorem State.setCP_role (s : State) (b : CP) : (s.setCP b).role = s.role := rfl
@[simp] theorem State.setCP_sa (s : State) (b : CP) : (s.setCP b).sa = s.sa := rfl
@[simp] theorem State.setCP_pu (s : State) (b : CP) : (s.setCP b).pu = s.pu := rfl
@[simp] theorem State.setCP_fp (s : State) (b : CP) : (s.setCP b).fp = s.fp := rfl
@[simp] theorem State.setCP_cu (s : State) (b : CP) : (s.setCP b).cu = s.cu := rfl
@[simp] theorem State.setCP_ts (s : State) (b : CP) : (s.setCP b).ts = s.ts := rfl
@[simp] theorem State.setCP_ca (s : State) (b : CP) : (s.setCP b).ca = s.ca := rfl
@[simp] theorem State.setCP_wp (s : State) (b : CP) : (s.setCP b).wp = s.wp := rfl
@[simp] theorem State.setCP_ii (s : State) (b : CP) : (s.setCP b).ii = s.ii := rfl
@[simp] theorem State.setCP_cp (s : State) (b : CP) : (s.setCP b).cp = b := rfl
@[simp] theorem State.setCP_fu (s : State) (b : CP) : (s.setCP b).fu = s.fu := rfl
@[simp] theorem State.setCP_sr (s : State) (b : CP) : (s.setCP b).sr = s.sr := rfl
@[simp] theorem State.setCP_hu (s : State) (b : CP) : (s.setCP b).hu = s.hu := rfl

@[simp] theorem State.setFU_pending (s : State) (b : FU) : (s.setFU b).pending = s.pending := rfl
@[simp] theorem State.setFU_now (s : State) (b : FU) : (s.setFU b).now = s.now := rfl
@[simp] theorem State.setFU_role (s : State) (b : FU) : (s.setFU b).role = s.role := rfl
@[simp] theorem State.setFU_sa (s : State) (b : FU) : (s.setFU b).sa = s.sa := rfl
@[simp] theorem State.setFU_pu (s : State) (b : FU) : (s.setFU b).pu = s.pu := rfl
@[simp] theorem State.setFU_fp (s : State) (b : FU) : (s.setFU b).fp = s.fp := rfl
@[simp] theorem State.setFU_cu (s : State) (b : FU) : (s.setFU b).cu = s.cu := rfl
@[simp] theorem State.setFU_ts (s : State) (b : FU) : (s.setFU b).ts = s.ts := rfl
@[simp] theorem State.setFU_ca (s : State) (b : FU) : (s.setFU b).ca = s.ca := rfl
@[simp] theorem State.setFU_wp (s : State) (b : FU) : (s.setFU b).wp = s.wp := rfl
@[simp] theorem State.setFU_ii (s : State) (b : FU) : (s.setFU b).ii = s.ii := rfl
@[simp] theorem State.setFU_cp (s : State) (b : FU) : (s.setFU b).cp = s.cp := rfl
@[simp] theorem State.setFU_fu (s : State) (b : FU) : (s.setFU b).fu = b := rfl
@[simp] theorem State.setFU_sr (s : State) (b : FU) : (s.setFU b).sr = s.sr := rfl
@[simp] theorem State.setFU_hu (s : State) (b : FU) : (s.setFU b).hu = s.hu := rfl

@[simp] theorem State.setSR_pending (s : State) (b : SR) : (s.setSR b).pending = s.pending := rfl
@[simp] theorem State.setSR_now (s : State) (b : SR) : (s.setSR b).now = s.now := rfl
@[simp] theorem State.setSR_role (s : State) (b : SR) : (s.setSR b).role = s.role := rfl
@[simp] theorem State.setSR_sa (s : State) (b : SR) : (s.setSR b).sa = s.sa := rfl
@[simp] theorem State.setSR_pu (s : State) (b : SR) : (s.setSR b).pu = s.pu := rfl
@[simp] theorem State.setSR_fp (s : State) (b : SR) : (s.setSR b).fp = s.fp := rfl
@[simp] theorem State.setSR_cu (s : State) (b : SR) : (s.setSR b).cu = s.cu := rfl
@[simp] theorem State.setSR_ts (s : State) (b : SR) : (s.setSR b).ts = s.ts := rfl
@[simp] theorem State.setSR_ca (s : State) (b : SR) : (s.setSR b).ca = s.ca := rfl
@[simp] theorem State.setSR_wp (s : State) (b : SR) : (s.setSR b).wp = s.wp := rfl
@[simp] theorem State.setSR_ii (s : State) (b : SR) : (s.setSR b).ii = s.ii := rfl
@[simp] theorem State.setSR_cp (s : State) (b : SR) : (s.setSR b).cp = s.cp := rfl
@[simp] theorem State.setSR_fu (s : State) (b : SR) : (s.setSR b).fu = s.fu := rfl
@[simp] theorem State.setSR_sr (s : State) (b : SR) : (s.setSR b).sr = b := rfl
@[simp] theorem State.setSR_hu (s : State) (b : SR) : (s.setSR b).hu = s.hu := rfl

@[simp] theorem State.setHU_pending (s : State) (b : HU) : (s.setHU b).pending = s.pending := rfl
@[simp] theorem State.setHU_now (s : State) (b : HU) : (s.setHU b).now = s.now := rfl
@[simp] theorem State.setHU_role (s : State) (b : HU) : (s.setHU b).role = s.role := rfl
@[simp] theorem State.setHU_sa (s : State) (b : HU) : (s.setHU b).sa = s.sa := rfl
@[simp] theorem State.setHU_pu (s : State) (b : HU) : (s.setHU b).pu = s.pu := rfl
@[simp] theorem State.setHU_fp (s : State) (b : HU) : (s.setHU b).fp = s.fp := rfl
@[simp] theorem State.setHU_cu (s : State) (b : HU) : (s.setHU b).cu = s.cu := rfl
@[simp] theorem State.setHU_ts (s : State) (b : HU) : (s.setHU b).ts = s.ts := rfl
@[simp] theorem State.setHU_ca (s : State) (b : HU) : (s.setHU b).ca = s.ca := rfl
@[simp] theorem State.setHU_wp (s : State) (b : HU) : (s.setHU b).wp = s.wp := rfl
@[simp] theorem State.setHU_ii (s : State) (b : HU) : (s.setHU b).ii = s.ii := rfl
@[simp] theorem State.setHU_cp (s : State) (b : HU) : (s.setHU b).cp = s.cp := rfl
@[simp] theorem State.setHU_fu (s : State) (b : HU) : (s.setHU b).fu = s.fu := rfl
@[simp] theorem State.setHU_sr (s : State) (b : HU) : (s.setHU b).sr = s.sr := rfl
@[simp] theorem State.setHU_hu (s : State) (b : HU) : (s.setHU b).hu = b := rfl

/-! ### Pairs and quads -/

@[simp] theorem Pair_get_set_same {α : Type} (p : Pair α) (i : Fin 2) (a : α) : (p.set i a).get i = a := by
  unfold Pair.set Pair.get; split <;> rfl

theorem Pair_get_set_other {α : Type} (p : Pair α) (i j : Fin 2) (a : α) (h : j ≠ i) :
    (p.set i a).get j = p.get j := by
  unfold Pair.set Pair.get
  split <;> split <;> first | rfl | (exfalso; omega)

theorem Pair_get_set {α : Type} (p : Pair α) (i j : Fin 2) (a : α) :
    (p.set i a).get j = if j = i then a else p.get j := by
  by_cases h : j = i
  · subst h; simp
  · simp [h, Pair_get_set_other p i j a h]

@[simp] theorem Quad_get_ofFn {α : Type} (f : Fin 4 → α) (i : Fin 4) : (Quad.ofFn f).get i = f i := by
  match i with
  | 0 => rfl
  | 1 => rfl
  | 2 => rfl
  | 3 => rfl

theorem Quad_get_set {α : Type} (q : Quad α) (i j : Fin 4) (a : α) :
    (q.set i a).get j = if j = i then a else q.get j := by
  match i, j with
  | 0, 0 => rfl | 0, 1 => rfl | 0, 2 => rfl | 0, 3 => rfl
  | 1, 0 => rfl | 1, 1 => rfl | 1, 2 => rfl | 1, 3 => rfl
  | 2, 0 => rfl | 2, 1 => rfl | 2, 2 => rfl | 2, 3 => rfl
  | 3, 0 => rfl | 3, 1 => rfl | 3, 2 => rfl | 3, 3 => rfl

@[simp] theorem Quad_get_set_same {α : Type} (q : Quad α) (i : Fin 4) (a : α) : (q.set i a).get i = a := by
  simp [Quad_get_set]

end Sys2Proof.Machine
end

