-- ==== Sys2Proof/Laws/Ops.lean ====
section
/-!
SUPPORT. What each operation shared by both roles, and each of the source's, leaves alone: one lemma for each, a
conjunction that simp takes field by field.
-/

namespace Sys2Proof.Machine

@[simp] theorem State.latch_frame (s : State) (c : Cond) :
    (s.latch c).pending = s.pending ∧ (s.latch c).now = s.now ∧ (s.latch c).role = s.role ∧ (s.latch c).pu = s.pu
      ∧ (s.latch c).fp = s.fp ∧ (s.latch c).cu = s.cu ∧ (s.latch c).ts = s.ts ∧ (s.latch c).ca = s.ca
      ∧ (s.latch c).wp = s.wp ∧ (s.latch c).ii = s.ii ∧ (s.latch c).cp = s.cp ∧ (s.latch c).fu = s.fu
      ∧ (s.latch c).sr = s.sr ∧ (s.latch c).hu = s.hu := by
  simp [State.latch]

@[simp] theorem State.raise_frame (s : State) (c : Cond) :
    (s.raise c).pending = s.pending ∧ (s.raise c).now = s.now ∧ (s.raise c).role = s.role ∧ (s.raise c).pu = s.pu
      ∧ (s.raise c).fp = s.fp ∧ (s.raise c).cu = s.cu ∧ (s.raise c).ts = s.ts ∧ (s.raise c).ca = s.ca
      ∧ (s.raise c).wp = s.wp ∧ (s.raise c).ii = s.ii ∧ (s.raise c).cp = s.cp ∧ (s.raise c).fu = s.fu
      ∧ (s.raise c).sr = s.sr ∧ (s.raise c).hu = s.hu := by
  simp [State.raise]

@[simp] theorem State.setCurrent_frame (s : State) (c : Cond) (b : Bool) :
    (s.setCurrent c b).pending = s.pending ∧ (s.setCurrent c b).now = s.now ∧ (s.setCurrent c b).role = s.role
      ∧ (s.setCurrent c b).pu = s.pu ∧ (s.setCurrent c b).fp = s.fp ∧ (s.setCurrent c b).cu = s.cu
      ∧ (s.setCurrent c b).ts = s.ts ∧ (s.setCurrent c b).ca = s.ca ∧ (s.setCurrent c b).wp = s.wp
      ∧ (s.setCurrent c b).ii = s.ii ∧ (s.setCurrent c b).cp = s.cp ∧ (s.setCurrent c b).fu = s.fu
      ∧ (s.setCurrent c b).sr = s.sr ∧ (s.setCurrent c b).hu = s.hu := by
  simp [State.setCurrent]

@[simp] theorem State.hand0_frame (s : State) (m : Out0) :
    (s.hand0 m).pending = s.pending ∧ (s.hand0 m).now = s.now ∧ (s.hand0 m).role = s.role ∧ (s.hand0 m).pu = s.pu
      ∧ (s.hand0 m).cu = s.cu ∧ (s.hand0 m).ts = s.ts ∧ (s.hand0 m).ca = s.ca ∧ (s.hand0 m).wp = s.wp
      ∧ (s.hand0 m).ii = s.ii ∧ (s.hand0 m).cp = s.cp ∧ (s.hand0 m).fu = s.fu ∧ (s.hand0 m).sr = s.sr
      ∧ (s.hand0 m).hu = s.hu := by
  unfold State.hand0; (repeat' split) <;> simp

@[simp] theorem State.hand1_frame (s : State) (m : OutInput) :
    (s.hand1 m).pending = s.pending ∧ (s.hand1 m).now = s.now ∧ (s.hand1 m).role = s.role ∧ (s.hand1 m).sa = s.sa
      ∧ (s.hand1 m).pu = s.pu ∧ (s.hand1 m).cu = s.cu ∧ (s.hand1 m).ts = s.ts ∧ (s.hand1 m).ca = s.ca
      ∧ (s.hand1 m).wp = s.wp ∧ (s.hand1 m).ii = s.ii ∧ (s.hand1 m).cp = s.cp ∧ (s.hand1 m).fu = s.fu
      ∧ (s.hand1 m).sr = s.sr ∧ (s.hand1 m).hu = s.hu := by
  unfold State.hand1; split <;> simp

@[simp] theorem State.handFrameClose_frame (s : State) (m : Out2) :
    (s.handFrameClose m).pending = s.pending ∧ (s.handFrameClose m).now = s.now ∧ (s.handFrameClose m).role = s.role
      ∧ (s.handFrameClose m).pu = s.pu ∧ (s.handFrameClose m).cu = s.cu ∧ (s.handFrameClose m).ts = s.ts
      ∧ (s.handFrameClose m).ca = s.ca ∧ (s.handFrameClose m).wp = s.wp ∧ (s.handFrameClose m).ii = s.ii
      ∧ (s.handFrameClose m).cp = s.cp ∧ (s.handFrameClose m).fu = s.fu ∧ (s.handFrameClose m).sr = s.sr
      ∧ (s.handFrameClose m).hu = s.hu := by
  unfold State.handFrameClose; (repeat' split) <;> simp

@[simp] theorem State.handPresence_frame (s : State) :
    s.handPresence.pending = s.pending ∧ s.handPresence.now = s.now ∧ s.handPresence.role = s.role
      ∧ s.handPresence.pu = s.pu ∧ s.handPresence.cu = s.cu ∧ s.handPresence.ts = s.ts ∧ s.handPresence.ca = s.ca
      ∧ s.handPresence.wp = s.wp ∧ s.handPresence.ii = s.ii ∧ s.handPresence.cp = s.cp ∧ s.handPresence.fu = s.fu
      ∧ s.handPresence.sr = s.sr ∧ s.handPresence.hu = s.hu := by
  unfold State.handPresence; (repeat' split) <;> simp

@[simp] theorem State.askPresence_frame (s : State) :
    s.askPresence.pending = s.pending ∧ s.askPresence.now = s.now ∧ s.askPresence.role = s.role
      ∧ s.askPresence.cu = s.cu ∧ s.askPresence.ts = s.ts ∧ s.askPresence.ca = s.ca ∧ s.askPresence.wp = s.wp
      ∧ s.askPresence.ii = s.ii ∧ s.askPresence.cp = s.cp ∧ s.askPresence.fu = s.fu ∧ s.askPresence.sr = s.sr
      ∧ s.askPresence.hu = s.hu := by
  simp [State.askPresence]

@[simp] theorem State.handTile_frame (s : State) (m : OutTile) :
    (s.handTile m).pending = s.pending ∧ (s.handTile m).now = s.now ∧ (s.handTile m).role = s.role
      ∧ (s.handTile m).sa = s.sa ∧ (s.handTile m).pu = s.pu ∧ (s.handTile m).cu = s.cu ∧ (s.handTile m).ts = s.ts
      ∧ (s.handTile m).ca = s.ca ∧ (s.handTile m).wp = s.wp ∧ (s.handTile m).ii = s.ii ∧ (s.handTile m).cp = s.cp
      ∧ (s.handTile m).fu = s.fu ∧ (s.handTile m).sr = s.sr ∧ (s.handTile m).hu = s.hu := by
  simp [State.handTile]

@[simp] theorem State.enterHalted_frame (s : State) :
    s.enterHalted.pending = s.pending ∧ s.enterHalted.now = s.now ∧ s.enterHalted.role = s.role
      ∧ s.enterHalted.cu = s.cu ∧ s.enterHalted.ts = s.ts ∧ s.enterHalted.ca = s.ca ∧ s.enterHalted.wp = s.wp
      ∧ s.enterHalted.ii = s.ii ∧ s.enterHalted.cp = s.cp ∧ s.enterHalted.fu = s.fu ∧ s.enterHalted.sr = s.sr
      ∧ s.enterHalted.hu = s.hu := by
  simp [State.enterHalted]

@[simp] theorem State.setChannel_frame (s : State) (i : Fin 2) (c : Channel) :
    (s.setChannel i c).pending = s.pending ∧ (s.setChannel i c).now = s.now ∧ (s.setChannel i c).role = s.role
      ∧ (s.setChannel i c).sa = s.sa ∧ (s.setChannel i c).pu = s.pu ∧ (s.setChannel i c).fp = s.fp
      ∧ (s.setChannel i c).ts = s.ts ∧ (s.setChannel i c).ca = s.ca ∧ (s.setChannel i c).wp = s.wp
      ∧ (s.setChannel i c).ii = s.ii ∧ (s.setChannel i c).cp = s.cp ∧ (s.setChannel i c).fu = s.fu
      ∧ (s.setChannel i c).sr = s.sr ∧ (s.setChannel i c).hu = s.hu := by
  simp [State.setChannel]

@[simp] theorem State.setTsChannel_frame (s : State) (i : Fin 2) (k : TsChannel) :
    (s.setTsChannel i k).pending = s.pending ∧ (s.setTsChannel i k).now = s.now ∧ (s.setTsChannel i k).role = s.role
      ∧ (s.setTsChannel i k).sa = s.sa ∧ (s.setTsChannel i k).pu = s.pu ∧ (s.setTsChannel i k).fp = s.fp
      ∧ (s.setTsChannel i k).cu = s.cu ∧ (s.setTsChannel i k).ca = s.ca ∧ (s.setTsChannel i k).wp = s.wp
      ∧ (s.setTsChannel i k).ii = s.ii ∧ (s.setTsChannel i k).cp = s.cp ∧ (s.setTsChannel i k).fu = s.fu
      ∧ (s.setTsChannel i k).sr = s.sr ∧ (s.setTsChannel i k).hu = s.hu := by
  simp [State.setTsChannel]

@[simp] theorem State.lampsTo_frame (s : State) (d : Nat) :
    (s.lampsTo d).pending = s.pending ∧ (s.lampsTo d).now = s.now ∧ (s.lampsTo d).role = s.role
      ∧ (s.lampsTo d).pu = s.pu ∧ (s.lampsTo d).cu = s.cu ∧ (s.lampsTo d).ts = s.ts ∧ (s.lampsTo d).ca = s.ca
      ∧ (s.lampsTo d).wp = s.wp ∧ (s.lampsTo d).ii = s.ii ∧ (s.lampsTo d).cp = s.cp ∧ (s.lampsTo d).fu = s.fu
      ∧ (s.lampsTo d).sr = s.sr ∧ (s.lampsTo d).hu = s.hu := by
  simp [State.lampsTo]

@[simp] theorem State.lampsToHolder_frame (s : State) :
    s.lampsToHolder.pending = s.pending ∧ s.lampsToHolder.now = s.now ∧ s.lampsToHolder.role = s.role
      ∧ s.lampsToHolder.pu = s.pu ∧ s.lampsToHolder.cu = s.cu ∧ s.lampsToHolder.ts = s.ts ∧ s.lampsToHolder.ca = s.ca
      ∧ s.lampsToHolder.wp = s.wp ∧ s.lampsToHolder.ii = s.ii ∧ s.lampsToHolder.cp = s.cp ∧ s.lampsToHolder.fu = s.fu
      ∧ s.lampsToHolder.sr = s.sr ∧ s.lampsToHolder.hu = s.hu := by
  unfold State.lampsToHolder; split <;> simp

@[simp] theorem State.wpInput_frame (s : State) (i : InputContent) :
    (s.wpInput i).pending = s.pending ∧ (s.wpInput i).now = s.now ∧ (s.wpInput i).role = s.role
      ∧ (s.wpInput i).sa = s.sa ∧ (s.wpInput i).pu = s.pu ∧ (s.wpInput i).fp = s.fp ∧ (s.wpInput i).cu = s.cu
      ∧ (s.wpInput i).ts = s.ts ∧ (s.wpInput i).ca = s.ca ∧ (s.wpInput i).ii = s.ii ∧ (s.wpInput i).cp = s.cp
      ∧ (s.wpInput i).fu = s.fu ∧ (s.wpInput i).sr = s.sr ∧ (s.wpInput i).hu = s.hu := by
  simp [State.wpInput]

@[simp] theorem State.wpHolderChange_frame (s : State) (d : Option Nat) :
    (s.wpHolderChange d).pending = s.pending ∧ (s.wpHolderChange d).now = s.now ∧ (s.wpHolderChange d).role = s.role
      ∧ (s.wpHolderChange d).pu = s.pu ∧ (s.wpHolderChange d).cu = s.cu ∧ (s.wpHolderChange d).ts = s.ts
      ∧ (s.wpHolderChange d).ca = s.ca ∧ (s.wpHolderChange d).ii = s.ii ∧ (s.wpHolderChange d).cp = s.cp
      ∧ (s.wpHolderChange d).fu = s.fu ∧ (s.wpHolderChange d).sr = s.sr ∧ (s.wpHolderChange d).hu = s.hu := by
  unfold State.wpHolderChange; split <;> simp

@[simp] theorem State.wpBusReset_frame (s : State) :
    s.wpBusReset.pending = s.pending ∧ s.wpBusReset.now = s.now ∧ s.wpBusReset.role = s.role ∧ s.wpBusReset.pu = s.pu
      ∧ s.wpBusReset.cu = s.cu ∧ s.wpBusReset.ts = s.ts ∧ s.wpBusReset.ca = s.ca ∧ s.wpBusReset.ii = s.ii
      ∧ s.wpBusReset.cp = s.cp ∧ s.wpBusReset.fu = s.fu ∧ s.wpBusReset.sr = s.sr ∧ s.wpBusReset.hu = s.hu := by
  simp [State.wpBusReset]

@[simp] theorem State.wpDetach_frame (s : State) :
    s.wpDetach.pending = s.pending ∧ s.wpDetach.now = s.now ∧ s.wpDetach.role = s.role ∧ s.wpDetach.pu = s.pu
      ∧ s.wpDetach.cu = s.cu ∧ s.wpDetach.ts = s.ts ∧ s.wpDetach.ca = s.ca ∧ s.wpDetach.ii = s.ii
      ∧ s.wpDetach.cp = s.cp ∧ s.wpDetach.fu = s.fu ∧ s.wpDetach.sr = s.sr ∧ s.wpDetach.hu = s.hu := by
  unfold State.wpDetach; dsimp only; split <;> simp

@[simp] theorem State.wpBegin_frame (s : State) :
    s.wpBegin.pending = s.pending ∧ s.wpBegin.now = s.now ∧ s.wpBegin.role = s.role ∧ s.wpBegin.pu = s.pu
      ∧ s.wpBegin.cu = s.cu ∧ s.wpBegin.ts = s.ts ∧ s.wpBegin.ca = s.ca ∧ s.wpBegin.ii = s.ii ∧ s.wpBegin.cp = s.cp
      ∧ s.wpBegin.fu = s.fu ∧ s.wpBegin.sr = s.sr ∧ s.wpBegin.hu = s.hu := by
  unfold State.wpBegin; split <;> simp

@[simp] theorem State.answer_frame (s : State) (a : UsbAnswer) :
    (s.answer a).pending = s.pending ∧ (s.answer a).now = s.now ∧ (s.answer a).role = s.role ∧ (s.answer a).sa = s.sa
      ∧ (s.answer a).pu = s.pu ∧ (s.answer a).fp = s.fp ∧ (s.answer a).cu = s.cu ∧ (s.answer a).ts = s.ts
      ∧ (s.answer a).ca = s.ca ∧ (s.answer a).ii = s.ii ∧ (s.answer a).cp = s.cp ∧ (s.answer a).fu = s.fu
      ∧ (s.answer a).sr = s.sr ∧ (s.answer a).hu = s.hu := by
  simp [State.answer]

@[simp] theorem State.stalled_frame (s : State) :
    s.stalled.pending = s.pending ∧ s.stalled.now = s.now ∧ s.stalled.role = s.role ∧ s.stalled.sa = s.sa
      ∧ s.stalled.pu = s.pu ∧ s.stalled.fp = s.fp ∧ s.stalled.cu = s.cu ∧ s.stalled.ts = s.ts ∧ s.stalled.ca = s.ca
      ∧ s.stalled.ii = s.ii ∧ s.stalled.cp = s.cp ∧ s.stalled.fu = s.fu ∧ s.stalled.sr = s.sr ∧ s.stalled.hu = s.hu := by
  unfold State.stalled; split <;> simp

@[simp] theorem State.wpRemoteWake_frame (s : State) (v : Bool) :
    (s.wpRemoteWake v).pending = s.pending ∧ (s.wpRemoteWake v).now = s.now ∧ (s.wpRemoteWake v).role = s.role
      ∧ (s.wpRemoteWake v).sa = s.sa ∧ (s.wpRemoteWake v).pu = s.pu ∧ (s.wpRemoteWake v).fp = s.fp
      ∧ (s.wpRemoteWake v).cu = s.cu ∧ (s.wpRemoteWake v).ts = s.ts ∧ (s.wpRemoteWake v).ca = s.ca
      ∧ (s.wpRemoteWake v).ii = s.ii ∧ (s.wpRemoteWake v).cp = s.cp ∧ (s.wpRemoteWake v).fu = s.fu
      ∧ (s.wpRemoteWake v).sr = s.sr ∧ (s.wpRemoteWake v).hu = s.hu := by
  unfold State.wpRemoteWake; split <;> simp

@[simp] theorem State.fullRefresh_frame (s : State) :
    s.fullRefresh.pending = s.pending ∧ s.fullRefresh.now = s.now ∧ s.fullRefresh.role = s.role
      ∧ s.fullRefresh.sa = s.sa ∧ s.fullRefresh.pu = s.pu ∧ s.fullRefresh.fp = s.fp ∧ s.fullRefresh.cu = s.cu
      ∧ s.fullRefresh.ca = s.ca ∧ s.fullRefresh.wp = s.wp ∧ s.fullRefresh.ii = s.ii ∧ s.fullRefresh.cp = s.cp
      ∧ s.fullRefresh.fu = s.fu ∧ s.fullRefresh.sr = s.sr ∧ s.fullRefresh.hu = s.hu := by
  simp [State.fullRefresh]

@[simp] theorem State.refreshTrigger_frame (s : State) :
    s.refreshTrigger.pending = s.pending ∧ s.refreshTrigger.now = s.now ∧ s.refreshTrigger.role = s.role
      ∧ s.refreshTrigger.sa = s.sa ∧ s.refreshTrigger.pu = s.pu ∧ s.refreshTrigger.fp = s.fp
      ∧ s.refreshTrigger.cu = s.cu ∧ s.refreshTrigger.ca = s.ca ∧ s.refreshTrigger.wp = s.wp
      ∧ s.refreshTrigger.ii = s.ii ∧ s.refreshTrigger.cp = s.cp ∧ s.refreshTrigger.fu = s.fu
      ∧ s.refreshTrigger.sr = s.sr ∧ s.refreshTrigger.hu = s.hu := by
  unfold State.refreshTrigger; split <;> simp

@[simp] theorem State.recomputeUnsupported_frame (s : State) :
    s.recomputeUnsupported.pending = s.pending ∧ s.recomputeUnsupported.now = s.now
      ∧ s.recomputeUnsupported.role = s.role ∧ s.recomputeUnsupported.pu = s.pu ∧ s.recomputeUnsupported.fp = s.fp
      ∧ s.recomputeUnsupported.cu = s.cu ∧ s.recomputeUnsupported.ts = s.ts ∧ s.recomputeUnsupported.ca = s.ca
      ∧ s.recomputeUnsupported.wp = s.wp ∧ s.recomputeUnsupported.ii = s.ii ∧ s.recomputeUnsupported.cp = s.cp
      ∧ s.recomputeUnsupported.fu = s.fu ∧ s.recomputeUnsupported.sr = s.sr ∧ s.recomputeUnsupported.hu = s.hu := by
  simp [State.recomputeUnsupported]

@[simp] theorem State.enterLocked_frame (s : State) (i : Fin 2) (c : Channel) (m : Meas) :
    (s.enterLocked i c m).pending = s.pending ∧ (s.enterLocked i c m).now = s.now
      ∧ (s.enterLocked i c m).role = s.role ∧ (s.enterLocked i c m).ca = s.ca ∧ (s.enterLocked i c m).ii = s.ii
      ∧ (s.enterLocked i c m).cp = s.cp ∧ (s.enterLocked i c m).fu = s.fu ∧ (s.enterLocked i c m).sr = s.sr
      ∧ (s.enterLocked i c m).hu = s.hu := by
  simp [State.enterLocked]

@[simp] theorem State.leaveLocked_frame (s : State) (i : Fin 2) (c : Channel) :
    (s.leaveLocked i c).pending = s.pending ∧ (s.leaveLocked i c).now = s.now ∧ (s.leaveLocked i c).role = s.role
      ∧ (s.leaveLocked i c).ca = s.ca ∧ (s.leaveLocked i c).ii = s.ii ∧ (s.leaveLocked i c).cp = s.cp
      ∧ (s.leaveLocked i c).fu = s.fu ∧ (s.leaveLocked i c).sr = s.sr ∧ (s.leaveLocked i c).hu = s.hu := by
  simp [State.leaveLocked]

@[simp] theorem State.enterUnsupported_frame (s : State) (i : Fin 2) (c : Channel) :
    (s.enterUnsupported i c).pending = s.pending ∧ (s.enterUnsupported i c).now = s.now
      ∧ (s.enterUnsupported i c).role = s.role ∧ (s.enterUnsupported i c).pu = s.pu
      ∧ (s.enterUnsupported i c).fp = s.fp ∧ (s.enterUnsupported i c).ts = s.ts ∧ (s.enterUnsupported i c).ca = s.ca
      ∧ (s.enterUnsupported i c).wp = s.wp ∧ (s.enterUnsupported i c).ii = s.ii ∧ (s.enterUnsupported i c).cp = s.cp
      ∧ (s.enterUnsupported i c).fu = s.fu ∧ (s.enterUnsupported i c).sr = s.sr ∧ (s.enterUnsupported i c).hu = s.hu := by
  simp [State.enterUnsupported]

@[simp] theorem State.settle_frame (s : State) (i : Fin 2) (c : Channel) :
    (s.settle i c).pending = s.pending ∧ (s.settle i c).now = s.now ∧ (s.settle i c).role = s.role
      ∧ (s.settle i c).ca = s.ca ∧ (s.settle i c).ii = s.ii ∧ (s.settle i c).cp = s.cp ∧ (s.settle i c).fu = s.fu
      ∧ (s.settle i c).sr = s.sr ∧ (s.settle i c).hu = s.hu := by
  unfold State.settle; (repeat' split) <;> simp

@[simp] theorem State.frameEnd_frame (s : State) (i : Fin 2) (c : Channel) (m : Meas) :
    (s.frameEnd i c m).pending = s.pending ∧ (s.frameEnd i c m).now = s.now ∧ (s.frameEnd i c m).role = s.role
      ∧ (s.frameEnd i c m).pu = s.pu ∧ (s.frameEnd i c m).ca = s.ca ∧ (s.frameEnd i c m).wp = s.wp
      ∧ (s.frameEnd i c m).ii = s.ii ∧ (s.frameEnd i c m).cp = s.cp ∧ (s.frameEnd i c m).fu = s.fu
      ∧ (s.frameEnd i c m).sr = s.sr ∧ (s.frameEnd i c m).hu = s.hu := by
  simp [State.frameEnd]

@[simp] theorem State.loseSync_frame (s : State) (i : Fin 2) :
    (s.loseSync i).pending = s.pending ∧ (s.loseSync i).now = s.now ∧ (s.loseSync i).role = s.role
      ∧ (s.loseSync i).ca = s.ca ∧ (s.loseSync i).ii = s.ii ∧ (s.loseSync i).cp = s.cp
      ∧ (s.loseSync i).fu = s.fu ∧ (s.loseSync i).sr = s.sr ∧ (s.loseSync i).hu = s.hu := by
  cases h : (s.cu.ch.get i).state <;> simp [State.loseSync, h]

@[simp] theorem State.atSync_frame (s : State) (i : Fin 2) :
    (s.atSync i).pending = s.pending ∧ (s.atSync i).now = s.now ∧ (s.atSync i).role = s.role
      ∧ (s.atSync i).ca = s.ca ∧ (s.atSync i).ii = s.ii ∧ (s.atSync i).cp = s.cp
      ∧ (s.atSync i).fu = s.fu ∧ (s.atSync i).sr = s.sr ∧ (s.atSync i).hu = s.hu := by
  unfold State.atSync; split <;> simp

/-- No expiry of the sync timer comes before a frame sync that is taken at most 100 ms after the last. -/
theorem State.atSync_of_inTime {s : State} {i : Fin 2}
    (h : ∀ u, (s.cu.ch.get i).sync = some u → (s.now - u).toNat ≤ 100000) : s.atSync i = s := by
  unfold State.atSync
  rw [if_neg]
  unfold Channel.syncOverdue Channel.period
  rw [Bool.and_eq_true, decide_eq_true_eq, decide_eq_true_eq]
  rintro ⟨-, g⟩
  split at g
  · next u e => exact Nat.not_lt.2 (h u e) g
  · cases g

@[simp] theorem State.takeSync_frame (s : State) (i : Fin 2) (n : FrameCounts) :
    (s.takeSync i n).pending = s.pending ∧ (s.takeSync i n).now = s.now ∧ (s.takeSync i n).role = s.role
      ∧ (s.takeSync i n).ca = s.ca ∧ (s.takeSync i n).ii = s.ii ∧ (s.takeSync i n).cp = s.cp
      ∧ (s.takeSync i n).fu = s.fu ∧ (s.takeSync i n).sr = s.sr ∧ (s.takeSync i n).hu = s.hu := by
  unfold State.takeSync
  dsimp only
  (repeat' split) <;> simp

/-! ### Measurements (R108) -/

/-- A measurement is irregular exactly when two valid lines differ. -/
theorem measure_eq_none_iff (l : List Nat) (n p : Nat) : measure l n p = none ↔ ∃ a ∈ l, ∃ b ∈ l, a ≠ b := by
  cases l with
  | nil => simp [measure]
  | cons x l =>
    rw [show measure (x :: l) n p = none ↔ ∃ a ∈ l, a ≠ x by simp [measure]]
    constructor
    · rintro ⟨a, ha, h⟩
      exact ⟨a, .tail _ ha, x, .head _, h⟩
    · rintro ⟨a, ha, b, hb, h⟩
      by_cases e : a = x
      · exact ⟨b, (List.mem_cons.1 hb).resolve_left fun g => h (e.trans g.symm), fun g => h (e.trans g.symm)⟩
      · exact ⟨a, (List.mem_cons.1 ha).resolve_left e, e⟩

/-- What a regular measurement is. -/
theorem measure_eq_some {l : List Nat} {n p : Nat} {m : Meas} (h : measure l n p = some m) :
    m = ⟨min 4095 (l.headD 0), min 4095 l.length, min 4095 n, p⟩ ∧ ∀ a ∈ l, a = l.headD 0 := by
  unfold measure at h
  dsimp only at h
  split at h
  · next g => exact ⟨(Option.some.inj h).symm, by simpa using g⟩
  · cases h

/-- The lines of a LOCKED frame all bear the locked width, so its measurement is regular (R113). -/
theorem measure_replicate (k w n p : Nat) :
    measure (List.replicate k w) n p = some ⟨min 4095 (if k = 0 then 0 else w), min 4095 k, min 4095 n, p⟩ := by
  cases k <;> simp [measure, List.replicate_succ]

@[simp] theorem State.hear_frame (s : State) (d : Nat) (w : Channels) :
    (s.hear d w).pending = s.pending ∧ (s.hear d w).now = s.now ∧ (s.hear d w).role = s.role ∧ (s.hear d w).pu = s.pu
      ∧ (s.hear d w).fp = s.fp ∧ (s.hear d w).cu = s.cu ∧ (s.hear d w).wp = s.wp ∧ (s.hear d w).ii = s.ii
      ∧ (s.hear d w).cp = s.cp ∧ (s.hear d w).fu = s.fu ∧ (s.hear d w).sr = s.sr ∧ (s.hear d w).hu = s.hu := by
  unfold State.hear; (repeat' split) <;> simp

@[simp] theorem State.grant_frame (s : State) (d r : Nat) (i : Byte) :
    (s.grant d r i).pending = s.pending ∧ (s.grant d r i).now = s.now ∧ (s.grant d r i).role = s.role
      ∧ (s.grant d r i).pu = s.pu ∧ (s.grant d r i).cu = s.cu ∧ (s.grant d r i).ts = s.ts ∧ (s.grant d r i).ii = s.ii
      ∧ (s.grant d r i).cp = s.cp ∧ (s.grant d r i).fu = s.fu ∧ (s.grant d r i).sr = s.sr ∧ (s.grant d r i).hu = s.hu := by
  simp [State.grant]

@[simp] theorem State.emptySlot_frame (s : State) :
    s.emptySlot.pending = s.pending ∧ s.emptySlot.now = s.now ∧ s.emptySlot.role = s.role ∧ s.emptySlot.pu = s.pu
      ∧ s.emptySlot.cu = s.cu ∧ s.emptySlot.ts = s.ts ∧ s.emptySlot.ii = s.ii ∧ s.emptySlot.cp = s.cp
      ∧ s.emptySlot.fu = s.fu ∧ s.emptySlot.sr = s.sr ∧ s.emptySlot.hu = s.hu := by
  unfold State.emptySlot; dsimp only; split <;> simp

/-- What making room in the wait list leaves alone. -/
theorem State.makeRoom_frame {s t : State} {r : Nat} (h : s.makeRoom r = some t) :
    t.pending = s.pending ∧ t.now = s.now ∧ t.role = s.role ∧ t.pu = s.pu ∧ t.cu = s.cu ∧ t.ts = s.ts ∧ t.wp = s.wp
      ∧ t.ii = s.ii ∧ t.cp = s.cp ∧ t.fu = s.fu ∧ t.sr = s.sr ∧ t.hu = s.hu := by
  unfold State.makeRoom at h
  (repeat' split at h) <;> simp at h <;> subst h <;> simp

@[simp] theorem State.preempt_frame (s : State) (h : Slot) (d r : Nat) (i : Byte) :
    (s.preempt h d r i).pending = s.pending ∧ (s.preempt h d r i).now = s.now ∧ (s.preempt h d r i).role = s.role
      ∧ (s.preempt h d r i).pu = s.pu ∧ (s.preempt h d r i).cu = s.cu ∧ (s.preempt h d r i).ts = s.ts
      ∧ (s.preempt h d r i).ii = s.ii ∧ (s.preempt h d r i).cp = s.cp ∧ (s.preempt h d r i).fu = s.fu
      ∧ (s.preempt h d r i).sr = s.sr ∧ (s.preempt h d r i).hu = s.hu := by
  unfold State.preempt
  split
  · rename_i u hu; simp [State.makeRoom_frame hu]
  · simp

@[simp] theorem State.joinWait_frame (s : State) (d r : Nat) (i : Byte) :
    (s.joinWait d r i).pending = s.pending ∧ (s.joinWait d r i).now = s.now ∧ (s.joinWait d r i).role = s.role
      ∧ (s.joinWait d r i).pu = s.pu ∧ (s.joinWait d r i).cu = s.cu ∧ (s.joinWait d r i).ts = s.ts
      ∧ (s.joinWait d r i).wp = s.wp ∧ (s.joinWait d r i).ii = s.ii ∧ (s.joinWait d r i).cp = s.cp
      ∧ (s.joinWait d r i).fu = s.fu ∧ (s.joinWait d r i).sr = s.sr ∧ (s.joinWait d r i).hu = s.hu := by
  unfold State.joinWait
  split
  · rename_i u hu; simp [State.makeRoom_frame hu]
  · simp

@[simp] theorem State.request_frame (s : State) (d : Nat) (i : Byte) :
    (s.request d i).pending = s.pending ∧ (s.request d i).now = s.now ∧ (s.request d i).role = s.role
      ∧ (s.request d i).pu = s.pu ∧ (s.request d i).cu = s.cu ∧ (s.request d i).ts = s.ts ∧ (s.request d i).ii = s.ii
      ∧ (s.request d i).cp = s.cp ∧ (s.request d i).fu = s.fu ∧ (s.request d i).sr = s.sr ∧ (s.request d i).hu = s.hu := by
  unfold State.request; dsimp only; (repeat' split) <;> simp

@[simp] theorem State.notHolder_frame (s : State) (d : Nat) (i : Byte) :
    (s.notHolder d i).pending = s.pending ∧ (s.notHolder d i).now = s.now ∧ (s.notHolder d i).role = s.role
      ∧ (s.notHolder d i).pu = s.pu ∧ (s.notHolder d i).cu = s.cu ∧ (s.notHolder d i).ts = s.ts
      ∧ (s.notHolder d i).wp = s.wp ∧ (s.notHolder d i).ii = s.ii ∧ (s.notHolder d i).cp = s.cp
      ∧ (s.notHolder d i).fu = s.fu ∧ (s.notHolder d i).sr = s.sr ∧ (s.notHolder d i).hu = s.hu := by
  unfold State.notHolder; split <;> simp

@[simp] theorem State.inputFrom_frame (s : State) (d : Nat) (q : BitVec 16) (i : InputContent) :
    (s.inputFrom d q i).pending = s.pending ∧ (s.inputFrom d q i).now = s.now ∧ (s.inputFrom d q i).role = s.role
      ∧ (s.inputFrom d q i).pu = s.pu ∧ (s.inputFrom d q i).cu = s.cu ∧ (s.inputFrom d q i).ts = s.ts
      ∧ (s.inputFrom d q i).ii = s.ii ∧ (s.inputFrom d q i).cp = s.cp ∧ (s.inputFrom d q i).fu = s.fu
      ∧ (s.inputFrom d q i).sr = s.sr ∧ (s.inputFrom d q i).hu = s.hu := by
  unfold State.inputFrom; (repeat' split) <;> simp

@[simp] theorem State.accept_frame (s : State) (m : RxMsg) :
    (s.accept m).pending = s.pending ∧ (s.accept m).now = s.now ∧ (s.accept m).role = s.role ∧ (s.accept m).cu = s.cu
      ∧ (s.accept m).ts = s.ts ∧ (s.accept m).ca = s.ca ∧ (s.accept m).wp = s.wp ∧ (s.accept m).ii = s.ii
      ∧ (s.accept m).cp = s.cp ∧ (s.accept m).fu = s.fu ∧ (s.accept m).sr = s.sr ∧ (s.accept m).hu = s.hu := by
  unfold State.accept; dsimp only; (repeat' split) <;> simp

@[simp] theorem State.sendFrame_frame (s : State) (a : List Byte) (k : Kind) (d : Nat) (c : Fin 2) (q : Nat) (p : List Byte) :
    (s.sendFrame a k d c q p).pending = s.pending ∧ (s.sendFrame a k d c q p).now = s.now
      ∧ (s.sendFrame a k d c q p).role = s.role ∧ (s.sendFrame a k d c q p).sa = s.sa
      ∧ (s.sendFrame a k d c q p).pu = s.pu ∧ (s.sendFrame a k d c q p).cu = s.cu
      ∧ (s.sendFrame a k d c q p).ts = s.ts ∧ (s.sendFrame a k d c q p).ca = s.ca
      ∧ (s.sendFrame a k d c q p).wp = s.wp ∧ (s.sendFrame a k d c q p).ii = s.ii
      ∧ (s.sendFrame a k d c q p).cp = s.cp ∧ (s.sendFrame a k d c q p).fu = s.fu
      ∧ (s.sendFrame a k d c q p).sr = s.sr ∧ (s.sendFrame a k d c q p).hu = s.hu := by
  simp [State.sendFrame]

@[simp] theorem State.nextSeq_frame (s : State) (c : Fin 2) :
    (s.nextSeq c).pending = s.pending ∧ (s.nextSeq c).now = s.now ∧ (s.nextSeq c).role = s.role
      ∧ (s.nextSeq c).sa = s.sa ∧ (s.nextSeq c).pu = s.pu ∧ (s.nextSeq c).fp = s.fp ∧ (s.nextSeq c).cu = s.cu
      ∧ (s.nextSeq c).ca = s.ca ∧ (s.nextSeq c).wp = s.wp ∧ (s.nextSeq c).ii = s.ii ∧ (s.nextSeq c).cp = s.cp
      ∧ (s.nextSeq c).fu = s.fu ∧ (s.nextSeq c).sr = s.sr ∧ (s.nextSeq c).hu = s.hu := by
  simp [State.nextSeq]

@[simp] theorem State.send0_frame (s : State) (m : Out0) :
    (s.send0 m).pending = s.pending ∧ (s.send0 m).now = s.now ∧ (s.send0 m).role = s.role ∧ (s.send0 m).sa = s.sa
      ∧ (s.send0 m).pu = s.pu ∧ (s.send0 m).cu = s.cu ∧ (s.send0 m).ts = s.ts ∧ (s.send0 m).ca = s.ca
      ∧ (s.send0 m).wp = s.wp ∧ (s.send0 m).ii = s.ii ∧ (s.send0 m).cp = s.cp ∧ (s.send0 m).fu = s.fu
      ∧ (s.send0 m).sr = s.sr ∧ (s.send0 m).hu = s.hu := by
  simp [State.send0]

@[simp] theorem State.send1_frame (s : State) (m : OutInput) :
    (s.send1 m).pending = s.pending ∧ (s.send1 m).now = s.now ∧ (s.send1 m).role = s.role ∧ (s.send1 m).sa = s.sa
      ∧ (s.send1 m).pu = s.pu ∧ (s.send1 m).cu = s.cu ∧ (s.send1 m).ts = s.ts ∧ (s.send1 m).ca = s.ca
      ∧ (s.send1 m).wp = s.wp ∧ (s.send1 m).ii = s.ii ∧ (s.send1 m).cp = s.cp ∧ (s.send1 m).fu = s.fu
      ∧ (s.send1 m).sr = s.sr ∧ (s.send1 m).hu = s.hu := by
  simp [State.send1]

@[simp] theorem State.sendStream_frame (s : State) (c : Fin 2) (k : Kind) (p : List Byte) :
    (s.sendStream c k p).pending = s.pending ∧ (s.sendStream c k p).now = s.now ∧ (s.sendStream c k p).role = s.role
      ∧ (s.sendStream c k p).sa = s.sa ∧ (s.sendStream c k p).pu = s.pu ∧ (s.sendStream c k p).cu = s.cu
      ∧ (s.sendStream c k p).ca = s.ca ∧ (s.sendStream c k p).wp = s.wp ∧ (s.sendStream c k p).ii = s.ii
      ∧ (s.sendStream c k p).cp = s.cp ∧ (s.sendStream c k p).fu = s.fu ∧ (s.sendStream c k p).sr = s.sr
      ∧ (s.sendStream c k p).hu = s.hu := by
  simp [State.sendStream]

@[simp] theorem State.send2_frame (s : State) (m : Out2) :
    (s.send2 m).pending = s.pending ∧ (s.send2 m).now = s.now ∧ (s.send2 m).role = s.role ∧ (s.send2 m).pu = s.pu
      ∧ (s.send2 m).cu = s.cu ∧ (s.send2 m).ca = s.ca ∧ (s.send2 m).wp = s.wp ∧ (s.send2 m).ii = s.ii
      ∧ (s.send2 m).cp = s.cp ∧ (s.send2 m).fu = s.fu ∧ (s.send2 m).sr = s.sr ∧ (s.send2 m).hu = s.hu := by
  unfold State.send2; split <;> simp

@[simp] theorem State.arbiterTake_frame (s : State) :
    s.arbiterTake.pending = s.pending ∧ s.arbiterTake.now = s.now ∧ s.arbiterTake.role = s.role
      ∧ s.arbiterTake.pu = s.pu ∧ s.arbiterTake.cu = s.cu ∧ s.arbiterTake.ca = s.ca ∧ s.arbiterTake.wp = s.wp
      ∧ s.arbiterTake.ii = s.ii ∧ s.arbiterTake.cp = s.cp ∧ s.arbiterTake.fu = s.fu ∧ s.arbiterTake.sr = s.sr
      ∧ s.arbiterTake.hu = s.hu := by
  unfold State.arbiterTake; split <;> simp

end Sys2Proof.Machine
end

