-- ==== Sys2Proof/Laws/Desk.lean ====
section
/-!
SUPPORT. What each operation of the desk, and of the start, leaves alone: one lemma for each, a conjunction that simp
takes field by field.
-/

namespace Sys2Proof.Machine

@[simp] theorem State.placeAll_frame (s : State) :
    s.placeAll.pending = s.pending ∧ s.placeAll.now = s.now ∧ s.placeAll.role = s.role ∧ s.placeAll.sa = s.sa
      ∧ s.placeAll.pu = s.pu ∧ s.placeAll.fp = s.fp ∧ s.placeAll.cu = s.cu ∧ s.placeAll.ts = s.ts
      ∧ s.placeAll.ca = s.ca ∧ s.placeAll.wp = s.wp ∧ s.placeAll.ii = s.ii ∧ s.placeAll.cp = s.cp
      ∧ s.placeAll.fu = s.fu ∧ s.placeAll.hu = s.hu := by
  simp [State.placeAll]

@[simp] theorem State.placeStream_frame (s : State) (x : Stream) :
    (s.placeStream x).pending = s.pending ∧ (s.placeStream x).now = s.now ∧ (s.placeStream x).role = s.role
      ∧ (s.placeStream x).sa = s.sa ∧ (s.placeStream x).pu = s.pu ∧ (s.placeStream x).fp = s.fp
      ∧ (s.placeStream x).cu = s.cu ∧ (s.placeStream x).ts = s.ts ∧ (s.placeStream x).ca = s.ca
      ∧ (s.placeStream x).wp = s.wp ∧ (s.placeStream x).ii = s.ii ∧ (s.placeStream x).cp = s.cp
      ∧ (s.placeStream x).fu = s.fu ∧ (s.placeStream x).hu = s.hu := by
  simp [State.placeStream]

@[simp] theorem State.recomputeField_frame (s : State) :
    s.recomputeField.pending = s.pending ∧ s.recomputeField.now = s.now ∧ s.recomputeField.role = s.role
      ∧ s.recomputeField.sa = s.sa ∧ s.recomputeField.pu = s.pu ∧ s.recomputeField.fp = s.fp
      ∧ s.recomputeField.cu = s.cu ∧ s.recomputeField.ts = s.ts ∧ s.recomputeField.ca = s.ca
      ∧ s.recomputeField.wp = s.wp ∧ s.recomputeField.ii = s.ii ∧ s.recomputeField.fu = s.fu
      ∧ s.recomputeField.sr = s.sr ∧ s.recomputeField.hu = s.hu := by
  simp [State.recomputeField]

@[simp] theorem State.recomputeHeads_frame (s : State) :
    s.recomputeHeads.pending = s.pending ∧ s.recomputeHeads.now = s.now ∧ s.recomputeHeads.role = s.role
      ∧ s.recomputeHeads.sa = s.sa ∧ s.recomputeHeads.pu = s.pu ∧ s.recomputeHeads.fp = s.fp
      ∧ s.recomputeHeads.cu = s.cu ∧ s.recomputeHeads.ts = s.ts ∧ s.recomputeHeads.ca = s.ca
      ∧ s.recomputeHeads.wp = s.wp ∧ s.recomputeHeads.ii = s.ii ∧ s.recomputeHeads.cp = s.cp
      ∧ s.recomputeHeads.fu = s.fu ∧ s.recomputeHeads.sr = s.sr := by
  simp [State.recomputeHeads]

@[simp] theorem State.showLamps_frame (s : State) :
    s.showLamps.pending = s.pending ∧ s.showLamps.now = s.now ∧ s.showLamps.role = s.role ∧ s.showLamps.sa = s.sa
      ∧ s.showLamps.pu = s.pu ∧ s.showLamps.fp = s.fp ∧ s.showLamps.cu = s.cu ∧ s.showLamps.ts = s.ts
      ∧ s.showLamps.ca = s.ca ∧ s.showLamps.wp = s.wp ∧ s.showLamps.cp = s.cp ∧ s.showLamps.fu = s.fu
      ∧ s.showLamps.sr = s.sr ∧ s.showLamps.hu = s.hu := by
  simp [State.showLamps]

@[simp] theorem State.putRecord_frame (s : State) (r : SrcRec) :
    (s.putRecord r).pending = s.pending ∧ (s.putRecord r).now = s.now ∧ (s.putRecord r).role = s.role
      ∧ (s.putRecord r).sa = s.sa ∧ (s.putRecord r).pu = s.pu ∧ (s.putRecord r).fp = s.fp ∧ (s.putRecord r).cu = s.cu
      ∧ (s.putRecord r).ts = s.ts ∧ (s.putRecord r).ca = s.ca ∧ (s.putRecord r).wp = s.wp ∧ (s.putRecord r).ii = s.ii
      ∧ (s.putRecord r).cp = s.cp ∧ (s.putRecord r).sr = s.sr ∧ (s.putRecord r).hu = s.hu := by
  simp [State.putRecord]

@[simp] theorem State.leftHolding_frame (s : State) (p : Nat) :
    (s.leftHolding p).pending = s.pending ∧ (s.leftHolding p).now = s.now ∧ (s.leftHolding p).role = s.role
      ∧ (s.leftHolding p).sa = s.sa ∧ (s.leftHolding p).pu = s.pu ∧ (s.leftHolding p).fp = s.fp
      ∧ (s.leftHolding p).cu = s.cu ∧ (s.leftHolding p).ts = s.ts ∧ (s.leftHolding p).ca = s.ca
      ∧ (s.leftHolding p).wp = s.wp ∧ (s.leftHolding p).ii = s.ii ∧ (s.leftHolding p).sr = s.sr
      ∧ (s.leftHolding p).hu = s.hu := by
  unfold State.leftHolding; dsimp only; split <;> simp

@[simp] theorem State.enteredHolding_frame (s : State) (p : Nat) :
    (s.enteredHolding p).pending = s.pending ∧ (s.enteredHolding p).now = s.now ∧ (s.enteredHolding p).role = s.role
      ∧ (s.enteredHolding p).sa = s.sa ∧ (s.enteredHolding p).pu = s.pu ∧ (s.enteredHolding p).fp = s.fp
      ∧ (s.enteredHolding p).cu = s.cu ∧ (s.enteredHolding p).ts = s.ts ∧ (s.enteredHolding p).ca = s.ca
      ∧ (s.enteredHolding p).wp = s.wp ∧ (s.enteredHolding p).ii = s.ii ∧ (s.enteredHolding p).cp = s.cp
      ∧ (s.enteredHolding p).sr = s.sr ∧ (s.enteredHolding p).hu = s.hu := by
  unfold State.enteredHolding; split <;> simp

@[simp] theorem State.moveRecord_frame (s : State) (r : SrcRec) (st : RecState) :
    (s.moveRecord r st).pending = s.pending ∧ (s.moveRecord r st).now = s.now ∧ (s.moveRecord r st).role = s.role
      ∧ (s.moveRecord r st).sa = s.sa ∧ (s.moveRecord r st).pu = s.pu ∧ (s.moveRecord r st).fp = s.fp
      ∧ (s.moveRecord r st).cu = s.cu ∧ (s.moveRecord r st).ts = s.ts ∧ (s.moveRecord r st).ca = s.ca
      ∧ (s.moveRecord r st).wp = s.wp ∧ (s.moveRecord r st).sr = s.sr ∧ (s.moveRecord r st).hu = s.hu := by
  unfold State.moveRecord; (repeat' split) <;> simp

@[simp] theorem State.requestSource_frame (s : State) (p : Nat) :
    (s.requestSource p).pending = s.pending ∧ (s.requestSource p).now = s.now ∧ (s.requestSource p).role = s.role
      ∧ (s.requestSource p).pu = s.pu ∧ (s.requestSource p).cu = s.cu ∧ (s.requestSource p).ts = s.ts
      ∧ (s.requestSource p).ca = s.ca ∧ (s.requestSource p).wp = s.wp ∧ (s.requestSource p).sr = s.sr
      ∧ (s.requestSource p).hu = s.hu := by
  unfold State.requestSource; (repeat' split) <;> simp

@[simp] theorem State.sendInput_frame (s : State) (r : SrcRec) (k : Snapshot) (b : Buttons) (f : Option PtrField) (w : Int) :
    (s.sendInput r k b f w).pending = s.pending ∧ (s.sendInput r k b f w).now = s.now
      ∧ (s.sendInput r k b f w).role = s.role ∧ (s.sendInput r k b f w).sa = s.sa ∧ (s.sendInput r k b f w).pu = s.pu
      ∧ (s.sendInput r k b f w).cu = s.cu ∧ (s.sendInput r k b f w).ts = s.ts ∧ (s.sendInput r k b f w).ca = s.ca
      ∧ (s.sendInput r k b f w).wp = s.wp ∧ (s.sendInput r k b f w).ii = s.ii ∧ (s.sendInput r k b f w).cp = s.cp
      ∧ (s.sendInput r k b f w).sr = s.sr ∧ (s.sendInput r k b f w).hu = s.hu := by
  simp [State.sendInput]

@[simp] theorem State.sendRelease_frame (s : State) (r : SrcRec) :
    (s.sendRelease r).pending = s.pending ∧ (s.sendRelease r).now = s.now ∧ (s.sendRelease r).role = s.role
      ∧ (s.sendRelease r).pu = s.pu ∧ (s.sendRelease r).cu = s.cu ∧ (s.sendRelease r).ts = s.ts
      ∧ (s.sendRelease r).ca = s.ca ∧ (s.sendRelease r).wp = s.wp ∧ (s.sendRelease r).ii = s.ii
      ∧ (s.sendRelease r).cp = s.cp ∧ (s.sendRelease r).fu = s.fu ∧ (s.sendRelease r).sr = s.sr
      ∧ (s.sendRelease r).hu = s.hu := by
  simp [State.sendRelease]

@[simp] theorem State.runLeave_frame (s : State) (r : SrcRec) (k : LeaveKind) :
    (s.runLeave r k).pending = s.pending ∧ (s.runLeave r k).now = s.now ∧ (s.runLeave r k).role = s.role
      ∧ (s.runLeave r k).pu = s.pu ∧ (s.runLeave r k).cu = s.cu ∧ (s.runLeave r k).ts = s.ts
      ∧ (s.runLeave r k).ca = s.ca ∧ (s.runLeave r k).wp = s.wp ∧ (s.runLeave r k).sr = s.sr
      ∧ (s.runLeave r k).hu = s.hu := by
  unfold State.runLeave; split <;> simp

@[simp] theorem State.setPending_frame (s : State) (r : SrcRec) (k : LeaveKind) :
    (s.setPending r k).pending = s.pending ∧ (s.setPending r k).now = s.now ∧ (s.setPending r k).role = s.role
      ∧ (s.setPending r k).sa = s.sa ∧ (s.setPending r k).pu = s.pu ∧ (s.setPending r k).fp = s.fp
      ∧ (s.setPending r k).cu = s.cu ∧ (s.setPending r k).ts = s.ts ∧ (s.setPending r k).ca = s.ca
      ∧ (s.setPending r k).wp = s.wp ∧ (s.setPending r k).ii = s.ii ∧ (s.setPending r k).cp = s.cp
      ∧ (s.setPending r k).sr = s.sr ∧ (s.setPending r k).hu = s.hu := by
  unfold State.setPending; dsimp only; (repeat' split) <;> simp

@[simp] theorem State.leave_frame (s : State) (r : SrcRec) (k : LeaveKind) :
    (s.leave r k).pending = s.pending ∧ (s.leave r k).now = s.now ∧ (s.leave r k).role = s.role
      ∧ (s.leave r k).pu = s.pu ∧ (s.leave r k).cu = s.cu ∧ (s.leave r k).ts = s.ts ∧ (s.leave r k).ca = s.ca
      ∧ (s.leave r k).wp = s.wp ∧ (s.leave r k).sr = s.sr ∧ (s.leave r k).hu = s.hu := by
  unfold State.leave; split <;> simp

@[simp] theorem State.releaseSource_frame (s : State) (p : Nat) :
    (s.releaseSource p).pending = s.pending ∧ (s.releaseSource p).now = s.now ∧ (s.releaseSource p).role = s.role
      ∧ (s.releaseSource p).pu = s.pu ∧ (s.releaseSource p).cu = s.cu ∧ (s.releaseSource p).ts = s.ts
      ∧ (s.releaseSource p).ca = s.ca ∧ (s.releaseSource p).wp = s.wp ∧ (s.releaseSource p).sr = s.sr
      ∧ (s.releaseSource p).hu = s.hu := by
  unfold State.releaseSource; (repeat' split) <;> simp

@[simp] theorem State.leaveFocus_frame (s : State) (p : Option Nat) :
    (s.leaveFocus p).pending = s.pending ∧ (s.leaveFocus p).now = s.now ∧ (s.leaveFocus p).role = s.role
      ∧ (s.leaveFocus p).pu = s.pu ∧ (s.leaveFocus p).cu = s.cu ∧ (s.leaveFocus p).ts = s.ts
      ∧ (s.leaveFocus p).ca = s.ca ∧ (s.leaveFocus p).wp = s.wp ∧ (s.leaveFocus p).sr = s.sr
      ∧ (s.leaveFocus p).hu = s.hu := by
  unfold State.leaveFocus; (repeat' split) <;> simp

@[simp] theorem State.autoRequest_frame (s : State) (q : Option Nat) :
    (s.autoRequest q).pending = s.pending ∧ (s.autoRequest q).now = s.now ∧ (s.autoRequest q).role = s.role
      ∧ (s.autoRequest q).pu = s.pu ∧ (s.autoRequest q).cu = s.cu ∧ (s.autoRequest q).ts = s.ts
      ∧ (s.autoRequest q).ca = s.ca ∧ (s.autoRequest q).wp = s.wp ∧ (s.autoRequest q).sr = s.sr
      ∧ (s.autoRequest q).hu = s.hu := by
  unfold State.autoRequest; (repeat' split) <;> simp

@[simp] theorem State.focusChange_frame (s : State) (p q : Option Nat) :
    (s.focusChange p q).pending = s.pending ∧ (s.focusChange p q).now = s.now ∧ (s.focusChange p q).role = s.role
      ∧ (s.focusChange p q).pu = s.pu ∧ (s.focusChange p q).cu = s.cu ∧ (s.focusChange p q).ts = s.ts
      ∧ (s.focusChange p q).ca = s.ca ∧ (s.focusChange p q).wp = s.wp ∧ (s.focusChange p q).sr = s.sr
      ∧ (s.focusChange p q).hu = s.hu := by
  simp [State.focusChange]

@[simp] theorem State.focusFrom_frame (s : State) (p : Option Nat) :
    (s.focusFrom p).pending = s.pending ∧ (s.focusFrom p).now = s.now ∧ (s.focusFrom p).role = s.role
      ∧ (s.focusFrom p).pu = s.pu ∧ (s.focusFrom p).cu = s.cu ∧ (s.focusFrom p).ts = s.ts ∧ (s.focusFrom p).ca = s.ca
      ∧ (s.focusFrom p).wp = s.wp ∧ (s.focusFrom p).sr = s.sr ∧ (s.focusFrom p).hu = s.hu := by
  unfold State.focusFrom; split <;> simp

@[simp] theorem State.dropRecord_frame (s : State) (r : SrcRec) :
    (s.dropRecord r).pending = s.pending ∧ (s.dropRecord r).now = s.now ∧ (s.dropRecord r).role = s.role
      ∧ (s.dropRecord r).pu = s.pu ∧ (s.dropRecord r).cu = s.cu ∧ (s.dropRecord r).ts = s.ts
      ∧ (s.dropRecord r).ca = s.ca ∧ (s.dropRecord r).wp = s.wp ∧ (s.dropRecord r).sr = s.sr
      ∧ (s.dropRecord r).hu = s.hu := by
  unfold State.dropRecord; (repeat' split) <;> simp

@[simp] theorem State.removeRecord_frame (s : State) (r : SrcRec) :
    (s.removeRecord r).pending = s.pending ∧ (s.removeRecord r).now = s.now ∧ (s.removeRecord r).role = s.role
      ∧ (s.removeRecord r).pu = s.pu ∧ (s.removeRecord r).cu = s.cu ∧ (s.removeRecord r).ts = s.ts
      ∧ (s.removeRecord r).ca = s.ca ∧ (s.removeRecord r).wp = s.wp ∧ (s.removeRecord r).sr = s.sr
      ∧ (s.removeRecord r).hu = s.hu := by
  simp [State.removeRecord]

/-- The same for a list of them. -/
@[simp] theorem State.foldl_removeRecord_frame (s : State) (l : List SrcRec) :
    (l.foldl State.removeRecord s).pending = s.pending ∧ (l.foldl State.removeRecord s).now = s.now
      ∧ (l.foldl State.removeRecord s).role = s.role ∧ (l.foldl State.removeRecord s).pu = s.pu
      ∧ (l.foldl State.removeRecord s).cu = s.cu ∧ (l.foldl State.removeRecord s).ts = s.ts
      ∧ (l.foldl State.removeRecord s).ca = s.ca ∧ (l.foldl State.removeRecord s).wp = s.wp
      ∧ (l.foldl State.removeRecord s).sr = s.sr ∧ (l.foldl State.removeRecord s).hu = s.hu := by
  induction l generalizing s with
  | nil => simp
  | cons a r ih => simp [ih]

@[simp] theorem State.fillRecords_frame (s : State) :
    s.fillRecords.pending = s.pending ∧ s.fillRecords.now = s.now ∧ s.fillRecords.role = s.role
      ∧ s.fillRecords.sa = s.sa ∧ s.fillRecords.pu = s.pu ∧ s.fillRecords.fp = s.fp ∧ s.fillRecords.cu = s.cu
      ∧ s.fillRecords.ts = s.ts ∧ s.fillRecords.ca = s.ca ∧ s.fillRecords.wp = s.wp ∧ s.fillRecords.ii = s.ii
      ∧ s.fillRecords.cp = s.cp ∧ s.fillRecords.sr = s.sr ∧ s.fillRecords.hu = s.hu := by
  simp [State.fillRecords]

@[simp] theorem State.updateRecords_frame (s : State) :
    s.updateRecords.pending = s.pending ∧ s.updateRecords.now = s.now ∧ s.updateRecords.role = s.role
      ∧ s.updateRecords.pu = s.pu ∧ s.updateRecords.cu = s.cu ∧ s.updateRecords.ts = s.ts ∧ s.updateRecords.ca = s.ca
      ∧ s.updateRecords.wp = s.wp ∧ s.updateRecords.sr = s.sr ∧ s.updateRecords.hu = s.hu := by
  simp [State.updateRecords]

@[simp] theorem State.offerSnapshot_frame (s : State) (k : Snapshot) :
    (s.offerSnapshot k).pending = s.pending ∧ (s.offerSnapshot k).now = s.now ∧ (s.offerSnapshot k).role = s.role
      ∧ (s.offerSnapshot k).sa = s.sa ∧ (s.offerSnapshot k).pu = s.pu ∧ (s.offerSnapshot k).fp = s.fp
      ∧ (s.offerSnapshot k).cu = s.cu ∧ (s.offerSnapshot k).ts = s.ts ∧ (s.offerSnapshot k).ca = s.ca
      ∧ (s.offerSnapshot k).wp = s.wp ∧ (s.offerSnapshot k).ii = s.ii ∧ (s.offerSnapshot k).cp = s.cp
      ∧ (s.offerSnapshot k).sr = s.sr ∧ (s.offerSnapshot k).hu = s.hu := by
  unfold State.offerSnapshot; (repeat' split) <;> simp

@[simp] theorem State.buildInput_frame (s : State) (r : SrcRec) :
    (s.buildInput r).pending = s.pending ∧ (s.buildInput r).now = s.now ∧ (s.buildInput r).role = s.role
      ∧ (s.buildInput r).sa = s.sa ∧ (s.buildInput r).pu = s.pu ∧ (s.buildInput r).cu = s.cu
      ∧ (s.buildInput r).ts = s.ts ∧ (s.buildInput r).ca = s.ca ∧ (s.buildInput r).wp = s.wp
      ∧ (s.buildInput r).ii = s.ii ∧ (s.buildInput r).sr = s.sr ∧ (s.buildInput r).hu = s.hu := by
  simp [State.buildInput]

/-- What running the pending leaves leaves alone. -/
@[simp] theorem State.runLeaves_frame (l : List Nat) (s : State) :
    (State.runLeaves l s).pending = s.pending ∧ (State.runLeaves l s).now = s.now
      ∧ (State.runLeaves l s).role = s.role ∧ (State.runLeaves l s).pu = s.pu ∧ (State.runLeaves l s).cu = s.cu
      ∧ (State.runLeaves l s).ts = s.ts ∧ (State.runLeaves l s).ca = s.ca ∧ (State.runLeaves l s).wp = s.wp
      ∧ (State.runLeaves l s).sr = s.sr ∧ (State.runLeaves l s).hu = s.hu := by
  induction l generalizing s with
  | nil => simp [State.runLeaves]
  | cons p r ih => unfold State.runLeaves; (repeat' split) <;> simp [ih]

@[simp] theorem State.judgeInput_frame (s : State) :
    s.judgeInput.pending = s.pending ∧ s.judgeInput.now = s.now ∧ s.judgeInput.role = s.role ∧ s.judgeInput.pu = s.pu
      ∧ s.judgeInput.cu = s.cu ∧ s.judgeInput.ts = s.ts ∧ s.judgeInput.ca = s.ca ∧ s.judgeInput.wp = s.wp
      ∧ s.judgeInput.sr = s.sr ∧ s.judgeInput.hu = s.hu := by
  unfold State.judgeInput; dsimp only; (repeat' split) <;> simp

@[simp] theorem State.reconcile_frame (s : State) (r : SrcRec) (i : Option Byte) (w : Bool) :
    (s.reconcile r i w).pending = s.pending ∧ (s.reconcile r i w).now = s.now ∧ (s.reconcile r i w).role = s.role
      ∧ (s.reconcile r i w).pu = s.pu ∧ (s.reconcile r i w).cu = s.cu ∧ (s.reconcile r i w).ts = s.ts
      ∧ (s.reconcile r i w).ca = s.ca ∧ (s.reconcile r i w).wp = s.wp ∧ (s.reconcile r i w).sr = s.sr
      ∧ (s.reconcile r i w).hu = s.hu := by
  unfold State.reconcile; (repeat' split) <;> simp

@[simp] theorem State.takeVerdict_frame (s : State) (r : SrcRec) (v : Verdict) :
    (s.takeVerdict r v).pending = s.pending ∧ (s.takeVerdict r v).now = s.now ∧ (s.takeVerdict r v).role = s.role
      ∧ (s.takeVerdict r v).pu = s.pu ∧ (s.takeVerdict r v).cu = s.cu ∧ (s.takeVerdict r v).ts = s.ts
      ∧ (s.takeVerdict r v).ca = s.ca ∧ (s.takeVerdict r v).wp = s.wp ∧ (s.takeVerdict r v).sr = s.sr
      ∧ (s.takeVerdict r v).hu = s.hu := by
  unfold State.takeVerdict; split <;> simp

@[simp] theorem State.putCtx_frame (s : State) (c : Ctx) :
    (s.putCtx c).pending = s.pending ∧ (s.putCtx c).now = s.now ∧ (s.putCtx c).role = s.role ∧ (s.putCtx c).sa = s.sa
      ∧ (s.putCtx c).pu = s.pu ∧ (s.putCtx c).fp = s.fp ∧ (s.putCtx c).cu = s.cu ∧ (s.putCtx c).ts = s.ts
      ∧ (s.putCtx c).ca = s.ca ∧ (s.putCtx c).wp = s.wp ∧ (s.putCtx c).ii = s.ii ∧ (s.putCtx c).cp = s.cp
      ∧ (s.putCtx c).fu = s.fu ∧ (s.putCtx c).hu = s.hu := by
  simp [State.putCtx]

@[simp] theorem State.makeCtx_frame (s : State) (x : Stream) :
    (s.makeCtx x).pending = s.pending ∧ (s.makeCtx x).now = s.now ∧ (s.makeCtx x).role = s.role
      ∧ (s.makeCtx x).sa = s.sa ∧ (s.makeCtx x).pu = s.pu ∧ (s.makeCtx x).cu = s.cu ∧ (s.makeCtx x).ts = s.ts
      ∧ (s.makeCtx x).ca = s.ca ∧ (s.makeCtx x).wp = s.wp ∧ (s.makeCtx x).ii = s.ii ∧ (s.makeCtx x).cp = s.cp
      ∧ (s.makeCtx x).fu = s.fu ∧ (s.makeCtx x).hu = s.hu := by
  unfold State.makeCtx; split <;> simp

/-- The same for a list of them. -/
@[simp] theorem State.foldl_makeCtx_frame (s : State) (l : List Stream) :
    (l.foldl State.makeCtx s).pending = s.pending ∧ (l.foldl State.makeCtx s).now = s.now
      ∧ (l.foldl State.makeCtx s).role = s.role ∧ (l.foldl State.makeCtx s).sa = s.sa
      ∧ (l.foldl State.makeCtx s).pu = s.pu ∧ (l.foldl State.makeCtx s).cu = s.cu
      ∧ (l.foldl State.makeCtx s).ts = s.ts ∧ (l.foldl State.makeCtx s).ca = s.ca
      ∧ (l.foldl State.makeCtx s).wp = s.wp ∧ (l.foldl State.makeCtx s).ii = s.ii
      ∧ (l.foldl State.makeCtx s).cp = s.cp ∧ (l.foldl State.makeCtx s).fu = s.fu
      ∧ (l.foldl State.makeCtx s).hu = s.hu := by
  induction l generalizing s with
  | nil => simp
  | cons a r ih => simp [ih]

@[simp] theorem State.removeCtx_frame (s : State) (x : Stream) :
    (s.removeCtx x).pending = s.pending ∧ (s.removeCtx x).now = s.now ∧ (s.removeCtx x).role = s.role
      ∧ (s.removeCtx x).sa = s.sa ∧ (s.removeCtx x).pu = s.pu ∧ (s.removeCtx x).cu = s.cu ∧ (s.removeCtx x).ts = s.ts
      ∧ (s.removeCtx x).ca = s.ca ∧ (s.removeCtx x).wp = s.wp ∧ (s.removeCtx x).ii = s.ii ∧ (s.removeCtx x).cp = s.cp
      ∧ (s.removeCtx x).fu = s.fu ∧ (s.removeCtx x).hu = s.hu := by
  simp [State.removeCtx]

/-- The same for a list of them. -/
@[simp] theorem State.foldl_removeCtx_frame (s : State) (l : List Stream) :
    (l.foldl State.removeCtx s).pending = s.pending ∧ (l.foldl State.removeCtx s).now = s.now
      ∧ (l.foldl State.removeCtx s).role = s.role ∧ (l.foldl State.removeCtx s).sa = s.sa
      ∧ (l.foldl State.removeCtx s).pu = s.pu ∧ (l.foldl State.removeCtx s).cu = s.cu
      ∧ (l.foldl State.removeCtx s).ts = s.ts ∧ (l.foldl State.removeCtx s).ca = s.ca
      ∧ (l.foldl State.removeCtx s).wp = s.wp ∧ (l.foldl State.removeCtx s).ii = s.ii
      ∧ (l.foldl State.removeCtx s).cp = s.cp ∧ (l.foldl State.removeCtx s).fu = s.fu
      ∧ (l.foldl State.removeCtx s).hu = s.hu := by
  induction l generalizing s with
  | nil => simp
  | cons a r ih => simp [ih]

@[simp] theorem State.recomputeLost_frame (s : State) :
    s.recomputeLost.pending = s.pending ∧ s.recomputeLost.now = s.now ∧ s.recomputeLost.role = s.role
      ∧ s.recomputeLost.pu = s.pu ∧ s.recomputeLost.fp = s.fp ∧ s.recomputeLost.cu = s.cu ∧ s.recomputeLost.ts = s.ts
      ∧ s.recomputeLost.ca = s.ca ∧ s.recomputeLost.wp = s.wp ∧ s.recomputeLost.ii = s.ii ∧ s.recomputeLost.cp = s.cp
      ∧ s.recomputeLost.fu = s.fu ∧ s.recomputeLost.sr = s.sr ∧ s.recomputeLost.hu = s.hu := by
  simp [State.recomputeLost]

@[simp] theorem State.streamsChanged_frame (s : State) :
    s.streamsChanged.pending = s.pending ∧ s.streamsChanged.now = s.now ∧ s.streamsChanged.role = s.role
      ∧ s.streamsChanged.pu = s.pu ∧ s.streamsChanged.fp = s.fp ∧ s.streamsChanged.cu = s.cu
      ∧ s.streamsChanged.ts = s.ts ∧ s.streamsChanged.ca = s.ca ∧ s.streamsChanged.wp = s.wp
      ∧ s.streamsChanged.ii = s.ii ∧ s.streamsChanged.fu = s.fu ∧ s.streamsChanged.sr = s.sr := by
  simp [State.streamsChanged]

@[simp] theorem State.requestRepair_frame (s : State) (c : Ctx) :
    (s.requestRepair c).pending = s.pending ∧ (s.requestRepair c).now = s.now ∧ (s.requestRepair c).role = s.role
      ∧ (s.requestRepair c).pu = s.pu ∧ (s.requestRepair c).cu = s.cu ∧ (s.requestRepair c).ts = s.ts
      ∧ (s.requestRepair c).ca = s.ca ∧ (s.requestRepair c).wp = s.wp ∧ (s.requestRepair c).ii = s.ii
      ∧ (s.requestRepair c).cp = s.cp ∧ (s.requestRepair c).fu = s.fu ∧ (s.requestRepair c).hu = s.hu := by
  simp [State.requestRepair]

@[simp] theorem State.needRepair_frame (s : State) (x : Stream) :
    (s.needRepair x).pending = s.pending ∧ (s.needRepair x).now = s.now ∧ (s.needRepair x).role = s.role
      ∧ (s.needRepair x).pu = s.pu ∧ (s.needRepair x).cu = s.cu ∧ (s.needRepair x).ts = s.ts
      ∧ (s.needRepair x).ca = s.ca ∧ (s.needRepair x).wp = s.wp ∧ (s.needRepair x).ii = s.ii
      ∧ (s.needRepair x).cp = s.cp ∧ (s.needRepair x).fu = s.fu ∧ (s.needRepair x).hu = s.hu := by
  unfold State.needRepair; (repeat' split) <;> simp

/-- What steps 1 and 2 of R140 leave alone. -/
theorem State.takeSeq_frame {s t : State} {x : Stream} {q : BitVec 16} (h : s.takeSeq x q = some t) :
    t.pending = s.pending ∧ t.now = s.now ∧ t.role = s.role ∧ t.pu = s.pu ∧ t.cu = s.cu ∧ t.ts = s.ts ∧ t.ca = s.ca
      ∧ t.wp = s.wp ∧ t.ii = s.ii ∧ t.cp = s.cp ∧ t.fu = s.fu ∧ t.hu = s.hu := by
  unfold State.takeSeq at h
  (repeat' split at h) <;> simp at h <;> subst h <;> simp

@[simp] theorem State.takeEpoch_frame (s : State) (c : Ctx) (f : CloseContent) :
    (s.takeEpoch c f).pending = s.pending ∧ (s.takeEpoch c f).now = s.now ∧ (s.takeEpoch c f).role = s.role
      ∧ (s.takeEpoch c f).pu = s.pu ∧ (s.takeEpoch c f).cu = s.cu ∧ (s.takeEpoch c f).ts = s.ts
      ∧ (s.takeEpoch c f).ca = s.ca ∧ (s.takeEpoch c f).wp = s.wp ∧ (s.takeEpoch c f).ii = s.ii
      ∧ (s.takeEpoch c f).cp = s.cp ∧ (s.takeEpoch c f).fu = s.fu ∧ (s.takeEpoch c f).hu = s.hu := by
  simp [State.takeEpoch]

@[simp] theorem State.closeLive_frame (s : State) (x : Stream) :
    (s.closeLive x).pending = s.pending ∧ (s.closeLive x).now = s.now ∧ (s.closeLive x).role = s.role
      ∧ (s.closeLive x).pu = s.pu ∧ (s.closeLive x).cu = s.cu ∧ (s.closeLive x).ts = s.ts ∧ (s.closeLive x).ca = s.ca
      ∧ (s.closeLive x).wp = s.wp ∧ (s.closeLive x).ii = s.ii ∧ (s.closeLive x).cp = s.cp ∧ (s.closeLive x).fu = s.fu
      ∧ (s.closeLive x).hu = s.hu := by
  unfold State.closeLive; (repeat' split) <;> simp

@[simp] theorem State.takeClose_frame (s : State) (x : Stream) (f : CloseContent) :
    (s.takeClose x f).pending = s.pending ∧ (s.takeClose x f).now = s.now ∧ (s.takeClose x f).role = s.role
      ∧ (s.takeClose x f).pu = s.pu ∧ (s.takeClose x f).cu = s.cu ∧ (s.takeClose x f).ts = s.ts
      ∧ (s.takeClose x f).ca = s.ca ∧ (s.takeClose x f).wp = s.wp ∧ (s.takeClose x f).ii = s.ii
      ∧ (s.takeClose x f).fu = s.fu := by
  unfold State.takeClose; (repeat' split) <;> simp

@[simp] theorem State.takeTile_frame (s : State) (x : Stream) (p : List Byte) :
    (s.takeTile x p).pending = s.pending ∧ (s.takeTile x p).now = s.now ∧ (s.takeTile x p).role = s.role
      ∧ (s.takeTile x p).pu = s.pu ∧ (s.takeTile x p).cu = s.cu ∧ (s.takeTile x p).ts = s.ts
      ∧ (s.takeTile x p).ca = s.ca ∧ (s.takeTile x p).wp = s.wp ∧ (s.takeTile x p).ii = s.ii
      ∧ (s.takeTile x p).cp = s.cp ∧ (s.takeTile x p).fu = s.fu ∧ (s.takeTile x p).hu = s.hu := by
  unfold State.takeTile; (repeat' split) <;> simp

@[simp] theorem State.tile_frame (s : State) (m : RxMsg) :
    (s.tile m).pending = s.pending ∧ (s.tile m).now = s.now ∧ (s.tile m).role = s.role ∧ (s.tile m).pu = s.pu
      ∧ (s.tile m).cu = s.cu ∧ (s.tile m).ts = s.ts ∧ (s.tile m).ca = s.ca ∧ (s.tile m).wp = s.wp
      ∧ (s.tile m).ii = s.ii ∧ (s.tile m).cp = s.cp ∧ (s.tile m).fu = s.fu ∧ (s.tile m).hu = s.hu := by
  unfold State.tile
  split
  · simp
  · rename_i u hu; simp [State.takeSeq_frame hu]

@[simp] theorem State.close_frame (s : State) (m : RxMsg) :
    (s.close m).pending = s.pending ∧ (s.close m).now = s.now ∧ (s.close m).role = s.role ∧ (s.close m).pu = s.pu
      ∧ (s.close m).cu = s.cu ∧ (s.close m).ts = s.ts ∧ (s.close m).ca = s.ca ∧ (s.close m).wp = s.wp
      ∧ (s.close m).ii = s.ii ∧ (s.close m).fu = s.fu := by
  unfold State.close
  split
  · simp
  · rename_i u hu; simp [State.takeSeq_frame hu]

@[simp] theorem State.hearSource_frame (s : State) (m : RxMsg) :
    (s.hearSource m).pending = s.pending ∧ (s.hearSource m).now = s.now ∧ (s.hearSource m).role = s.role
      ∧ (s.hearSource m).pu = s.pu ∧ (s.hearSource m).fp = s.fp ∧ (s.hearSource m).cu = s.cu
      ∧ (s.hearSource m).ts = s.ts ∧ (s.hearSource m).ca = s.ca ∧ (s.hearSource m).wp = s.wp
      ∧ (s.hearSource m).ii = s.ii ∧ (s.hearSource m).fu = s.fu := by
  simp [State.hearSource]

@[simp] theorem State.takeBySr_frame (s : State) (m : RxMsg) :
    (s.takeBySr m).pending = s.pending ∧ (s.takeBySr m).now = s.now ∧ (s.takeBySr m).role = s.role
      ∧ (s.takeBySr m).pu = s.pu ∧ (s.takeBySr m).cu = s.cu ∧ (s.takeBySr m).ts = s.ts
      ∧ (s.takeBySr m).ca = s.ca ∧ (s.takeBySr m).wp = s.wp ∧ (s.takeBySr m).ii = s.ii
      ∧ (s.takeBySr m).fu = s.fu := by
  unfold State.takeBySr; split <;> simp

@[simp] theorem State.drainStreams_frame (s : State) (l : List Stream) :
    (s.drainStreams l).pending = s.pending ∧ (s.drainStreams l).now = s.now ∧ (s.drainStreams l).role = s.role
      ∧ (s.drainStreams l).pu = s.pu ∧ (s.drainStreams l).cu = s.cu ∧ (s.drainStreams l).ts = s.ts
      ∧ (s.drainStreams l).ca = s.ca ∧ (s.drainStreams l).wp = s.wp ∧ (s.drainStreams l).ii = s.ii
      ∧ (s.drainStreams l).fu = s.fu := by
  have key : ∀ (l : List RxEntry) (s : State),
      (l.foldl (fun s e => s.takeBySr e.msg) s).pending = s.pending
        ∧ (l.foldl (fun s e => s.takeBySr e.msg) s).now = s.now
        ∧ (l.foldl (fun s e => s.takeBySr e.msg) s).role = s.role
        ∧ (l.foldl (fun s e => s.takeBySr e.msg) s).pu = s.pu
        ∧ (l.foldl (fun s e => s.takeBySr e.msg) s).cu = s.cu
        ∧ (l.foldl (fun s e => s.takeBySr e.msg) s).ts = s.ts
        ∧ (l.foldl (fun s e => s.takeBySr e.msg) s).ca = s.ca
        ∧ (l.foldl (fun s e => s.takeBySr e.msg) s).wp = s.wp
        ∧ (l.foldl (fun s e => s.takeBySr e.msg) s).ii = s.ii
        ∧ (l.foldl (fun s e => s.takeBySr e.msg) s).fu = s.fu := by
    intro l; induction l with
    | nil => simp
    | cons a r ih => intro s; simp [ih]
  simp [State.drainStreams, key]

/-- An entry is of one of some streams exactly when it is a TILE or FRAME-CLOSE of one. -/
theorem RxEntry.isOf_iff (e : RxEntry) (l : List Stream) :
    e.isOf l = true ↔ (e.msg.kind = .tile ∨ e.msg.kind = .frameClose) ∧ e.msg.stream ∈ l := by
  simp [RxEntry.isOf]

/-- Without a message of the streams, nothing of a buffer stands up to the last one. -/
theorem upToLastOf_of_none {l : List Stream} :
    ∀ {r : List RxEntry}, (∀ e ∈ r, e.isOf l = false) → upToLastOf l r = [] ∧ behindLastOf l r = r
  | [], _ => ⟨rfl, rfl⟩
  | e :: r, h => by
    have : (e.isOf l || r.any fun d => d.isOf l) = false := by
      simpa using ⟨h e (.head _), fun d hd => h d (.tail _ hd)⟩
    simp [upToLastOf, behindLastOf, this]

/-- A buffer is cut behind the last message of the streams. -/
theorem upToLastOf_append {l : List Stream} {e : RxEntry} {r : List RxEntry} (he : e.isOf l = true)
    (hr : ∀ d ∈ r, d.isOf l = false) :
    ∀ a : List RxEntry, upToLastOf l (a ++ e :: r) = a ++ [e] ∧ behindLastOf l (a ++ e :: r) = r
  | [] => by simp [upToLastOf, behindLastOf, he, upToLastOf_of_none hr]
  | d :: a => by simp [upToLastOf, behindLastOf, he, upToLastOf_append he hr a]

@[simp] theorem State.updateCtxs_frame (s : State) (l : List Stream) :
    (s.updateCtxs l).pending = s.pending ∧ (s.updateCtxs l).now = s.now ∧ (s.updateCtxs l).role = s.role
      ∧ (s.updateCtxs l).pu = s.pu ∧ (s.updateCtxs l).cu = s.cu ∧ (s.updateCtxs l).ts = s.ts
      ∧ (s.updateCtxs l).ca = s.ca ∧ (s.updateCtxs l).wp = s.wp ∧ (s.updateCtxs l).ii = s.ii
      ∧ (s.updateCtxs l).cp = s.cp ∧ (s.updateCtxs l).fu = s.fu ∧ (s.updateCtxs l).hu = s.hu := by
  simp [State.updateCtxs]

@[simp] theorem State.activity_frame (s : State) :
    s.activity.pending = s.pending ∧ s.activity.now = s.now ∧ s.activity.role = s.role ∧ s.activity.sa = s.sa
      ∧ s.activity.pu = s.pu ∧ s.activity.fp = s.fp ∧ s.activity.cu = s.cu ∧ s.activity.ts = s.ts
      ∧ s.activity.ca = s.ca ∧ s.activity.wp = s.wp ∧ s.activity.ii = s.ii ∧ s.activity.cp = s.cp
      ∧ s.activity.fu = s.fu ∧ s.activity.sr = s.sr := by
  unfold State.activity; (repeat' split) <;> simp

@[simp] theorem State.putPort_frame (s : State) (i : Fin 2) (p : HostPort) :
    (s.putPort i p).pending = s.pending ∧ (s.putPort i p).now = s.now ∧ (s.putPort i p).role = s.role
      ∧ (s.putPort i p).sa = s.sa ∧ (s.putPort i p).pu = s.pu ∧ (s.putPort i p).fp = s.fp ∧ (s.putPort i p).cu = s.cu
      ∧ (s.putPort i p).ts = s.ts ∧ (s.putPort i p).ca = s.ca ∧ (s.putPort i p).wp = s.wp ∧ (s.putPort i p).cp = s.cp
      ∧ (s.putPort i p).fu = s.fu ∧ (s.putPort i p).sr = s.sr ∧ (s.putPort i p).hu = s.hu := by
  simp [State.putPort]

@[simp] theorem State.takeButtons_frame (s : State) (i : Fin 2) (m : MouseMotion) :
    (s.takeButtons i m).pending = s.pending ∧ (s.takeButtons i m).now = s.now ∧ (s.takeButtons i m).role = s.role
      ∧ (s.takeButtons i m).sa = s.sa ∧ (s.takeButtons i m).pu = s.pu ∧ (s.takeButtons i m).fp = s.fp
      ∧ (s.takeButtons i m).cu = s.cu ∧ (s.takeButtons i m).ts = s.ts ∧ (s.takeButtons i m).ca = s.ca
      ∧ (s.takeButtons i m).wp = s.wp ∧ (s.takeButtons i m).ii = s.ii ∧ (s.takeButtons i m).fu = s.fu
      ∧ (s.takeButtons i m).sr = s.sr ∧ (s.takeButtons i m).hu = s.hu := by
  simp [State.takeButtons]

@[simp] theorem State.takeMotion_frame (s : State) (i : Fin 2) (m : MouseMotion) :
    (s.takeMotion i m).pending = s.pending ∧ (s.takeMotion i m).now = s.now ∧ (s.takeMotion i m).role = s.role
      ∧ (s.takeMotion i m).pu = s.pu ∧ (s.takeMotion i m).cu = s.cu ∧ (s.takeMotion i m).ts = s.ts
      ∧ (s.takeMotion i m).ca = s.ca ∧ (s.takeMotion i m).wp = s.wp ∧ (s.takeMotion i m).sr = s.sr
      ∧ (s.takeMotion i m).hu = s.hu := by
  unfold State.takeMotion; split <;> simp

@[simp] theorem State.changeLayout_frame (s : State) (n : Nat) :
    (s.changeLayout n).pending = s.pending ∧ (s.changeLayout n).now = s.now ∧ (s.changeLayout n).role = s.role
      ∧ (s.changeLayout n).cu = s.cu ∧ (s.changeLayout n).ts = s.ts ∧ (s.changeLayout n).ca = s.ca
      ∧ (s.changeLayout n).wp = s.wp := by
  simp [State.changeLayout]

@[simp] theorem State.selectLayout_frame (s : State) (n : Nat) :
    (s.selectLayout n).pending = s.pending ∧ (s.selectLayout n).now = s.now ∧ (s.selectLayout n).role = s.role
      ∧ (s.selectLayout n).cu = s.cu ∧ (s.selectLayout n).ts = s.ts ∧ (s.selectLayout n).ca = s.ca
      ∧ (s.selectLayout n).wp = s.wp := by
  unfold State.selectLayout; split <;> simp

@[simp] theorem State.sendAttnClear_frame (s : State) :
    s.sendAttnClear.pending = s.pending ∧ s.sendAttnClear.now = s.now ∧ s.sendAttnClear.role = s.role
      ∧ s.sendAttnClear.pu = s.pu ∧ s.sendAttnClear.cu = s.cu ∧ s.sendAttnClear.ts = s.ts ∧ s.sendAttnClear.ca = s.ca
      ∧ s.sendAttnClear.wp = s.wp ∧ s.sendAttnClear.ii = s.ii ∧ s.sendAttnClear.cp = s.cp ∧ s.sendAttnClear.fu = s.fu
      ∧ s.sendAttnClear.sr = s.sr ∧ s.sendAttnClear.hu = s.hu := by
  unfold State.sendAttnClear; (repeat' split) <;> simp

@[simp] theorem State.command_frame (s : State) (c : Command) :
    (s.command c).pending = s.pending ∧ (s.command c).now = s.now ∧ (s.command c).role = s.role
      ∧ (s.command c).cu = s.cu ∧ (s.command c).ts = s.ts ∧ (s.command c).ca = s.ca ∧ (s.command c).wp = s.wp := by
  unfold State.command; (repeat' split) <;> simp

@[simp] theorem State.handPassed_frame (s : State) :
    s.handPassed.pending = s.pending ∧ s.handPassed.now = s.now ∧ s.handPassed.role = s.role ∧ s.handPassed.sa = s.sa
      ∧ s.handPassed.pu = s.pu ∧ s.handPassed.fp = s.fp ∧ s.handPassed.cu = s.cu ∧ s.handPassed.ts = s.ts
      ∧ s.handPassed.ca = s.ca ∧ s.handPassed.wp = s.wp ∧ s.handPassed.cp = s.cp ∧ s.handPassed.sr = s.sr
      ∧ s.handPassed.hu = s.hu := by
  unfold State.handPassed; split <;> simp

@[simp] theorem State.rawChanged_frame (s : State) (b : Bool) :
    (s.rawChanged b).pending = s.pending ∧ (s.rawChanged b).now = s.now ∧ (s.rawChanged b).role = s.role
      ∧ (s.rawChanged b).cu = s.cu ∧ (s.rawChanged b).ts = s.ts ∧ (s.rawChanged b).ca = s.ca
      ∧ (s.rawChanged b).wp = s.wp := by
  unfold State.rawChanged; dsimp only; (repeat' split) <;> simp

@[simp] theorem State.takeKeys_frame (s : State) (i : Fin 2) (b : List Byte) :
    (s.takeKeys i b).pending = s.pending ∧ (s.takeKeys i b).now = s.now ∧ (s.takeKeys i b).role = s.role
      ∧ (s.takeKeys i b).sa = s.sa ∧ (s.takeKeys i b).pu = s.pu ∧ (s.takeKeys i b).fp = s.fp
      ∧ (s.takeKeys i b).cu = s.cu ∧ (s.takeKeys i b).ts = s.ts ∧ (s.takeKeys i b).ca = s.ca
      ∧ (s.takeKeys i b).wp = s.wp ∧ (s.takeKeys i b).cp = s.cp ∧ (s.takeKeys i b).fu = s.fu
      ∧ (s.takeKeys i b).sr = s.sr ∧ (s.takeKeys i b).hu = s.hu := by
  simp [State.takeKeys]

@[simp] theorem State.recomputeDevices_frame (s : State) :
    s.recomputeDevices.pending = s.pending ∧ s.recomputeDevices.now = s.now ∧ s.recomputeDevices.role = s.role
      ∧ s.recomputeDevices.pu = s.pu ∧ s.recomputeDevices.fp = s.fp ∧ s.recomputeDevices.cu = s.cu
      ∧ s.recomputeDevices.ts = s.ts ∧ s.recomputeDevices.ca = s.ca ∧ s.recomputeDevices.wp = s.wp
      ∧ s.recomputeDevices.ii = s.ii ∧ s.recomputeDevices.cp = s.cp ∧ s.recomputeDevices.fu = s.fu
      ∧ s.recomputeDevices.sr = s.sr ∧ s.recomputeDevices.hu = s.hu := by
  simp [State.recomputeDevices]

@[simp] theorem State.clearPort_frame (s : State) (i : Fin 2) (p : HostPort) :
    (s.clearPort i p).pending = s.pending ∧ (s.clearPort i p).now = s.now ∧ (s.clearPort i p).role = s.role
      ∧ (s.clearPort i p).cu = s.cu ∧ (s.clearPort i p).ts = s.ts ∧ (s.clearPort i p).ca = s.ca
      ∧ (s.clearPort i p).wp = s.wp := by
  simp [State.clearPort]

@[simp] theorem State.unsupportedPort_frame (s : State) (i : Fin 2) (p : HostPort) :
    (s.unsupportedPort i p).pending = s.pending ∧ (s.unsupportedPort i p).now = s.now
      ∧ (s.unsupportedPort i p).role = s.role ∧ (s.unsupportedPort i p).pu = s.pu ∧ (s.unsupportedPort i p).fp = s.fp
      ∧ (s.unsupportedPort i p).cu = s.cu ∧ (s.unsupportedPort i p).ts = s.ts ∧ (s.unsupportedPort i p).ca = s.ca
      ∧ (s.unsupportedPort i p).wp = s.wp ∧ (s.unsupportedPort i p).cp = s.cp ∧ (s.unsupportedPort i p).fu = s.fu
      ∧ (s.unsupportedPort i p).sr = s.sr ∧ (s.unsupportedPort i p).hu = s.hu := by
  simp [State.unsupportedPort]

@[simp] theorem State.enumerationFails_frame (s : State) (i : Fin 2) :
    (s.enumerationFails i).pending = s.pending ∧ (s.enumerationFails i).now = s.now
      ∧ (s.enumerationFails i).role = s.role ∧ (s.enumerationFails i).pu = s.pu ∧ (s.enumerationFails i).fp = s.fp
      ∧ (s.enumerationFails i).cu = s.cu ∧ (s.enumerationFails i).ts = s.ts ∧ (s.enumerationFails i).ca = s.ca
      ∧ (s.enumerationFails i).wp = s.wp ∧ (s.enumerationFails i).cp = s.cp ∧ (s.enumerationFails i).fu = s.fu
      ∧ (s.enumerationFails i).sr = s.sr ∧ (s.enumerationFails i).hu = s.hu := by
  unfold State.enumerationFails; dsimp only; split <;> simp

@[simp] theorem State.transferFails_frame (s : State) (i : Fin 2) (t : Transfer) :
    (s.transferFails i t).pending = s.pending ∧ (s.transferFails i t).now = s.now
      ∧ (s.transferFails i t).role = s.role ∧ (s.transferFails i t).cu = s.cu ∧ (s.transferFails i t).ts = s.ts
      ∧ (s.transferFails i t).ca = s.ca ∧ (s.transferFails i t).wp = s.wp := by
  unfold State.transferFails; dsimp only; split <;> simp

@[simp] theorem State.judgeAtDesk_frame (s : State) :
    s.judgeAtDesk.pending = s.pending ∧ s.judgeAtDesk.now = s.now ∧ s.judgeAtDesk.role = s.role
      ∧ s.judgeAtDesk.pu = s.pu ∧ s.judgeAtDesk.cu = s.cu ∧ s.judgeAtDesk.ts = s.ts ∧ s.judgeAtDesk.ca = s.ca
      ∧ s.judgeAtDesk.wp = s.wp ∧ s.judgeAtDesk.sr = s.sr ∧ s.judgeAtDesk.hu = s.hu := by
  unfold State.judgeAtDesk; split <;> simp

@[simp] theorem State.refuse_frame (s : State) :
    s.refuse.pending = s.pending ∧ s.refuse.now = s.now ∧ s.refuse.role = s.role ∧ s.refuse.cu = s.cu
      ∧ s.refuse.ts = s.ts ∧ s.refuse.ca = s.ca ∧ s.refuse.wp = s.wp ∧ s.refuse.ii = s.ii ∧ s.refuse.cp = s.cp
      ∧ s.refuse.fu = s.fu ∧ s.refuse.sr = s.sr ∧ s.refuse.hu = s.hu := by
  simp [State.refuse]

@[simp] theorem State.acceptCommon_frame (s : State) (b : List Byte) :
    (s.acceptCommon b).pending = s.pending ∧ (s.acceptCommon b).now = s.now ∧ (s.acceptCommon b).role = s.role
      ∧ (s.acceptCommon b).pu = s.pu ∧ (s.acceptCommon b).cu = s.cu ∧ (s.acceptCommon b).ts = s.ts
      ∧ (s.acceptCommon b).ca = s.ca ∧ (s.acceptCommon b).wp = s.wp ∧ (s.acceptCommon b).ii = s.ii
      ∧ (s.acceptCommon b).cp = s.cp ∧ (s.acceptCommon b).fu = s.fu ∧ (s.acceptCommon b).sr = s.sr
      ∧ (s.acceptCommon b).hu = s.hu := by
  simp [State.acceptCommon]

@[simp] theorem State.acceptDesk_frame (s : State) (b : List Byte) (h : Fin 4) (l : Lead) :
    (s.acceptDesk b h l).pending = s.pending ∧ (s.acceptDesk b h l).now = s.now ∧ (s.acceptDesk b h l).role = s.role
      ∧ (s.acceptDesk b h l).pu = s.pu ∧ (s.acceptDesk b h l).cu = s.cu ∧ (s.acceptDesk b h l).ts = s.ts
      ∧ (s.acceptDesk b h l).ca = s.ca ∧ (s.acceptDesk b h l).wp = s.wp ∧ (s.acceptDesk b h l).sr = s.sr := by
  simp [State.acceptDesk]

@[simp] theorem State.acceptSource_frame (s : State) (b : List Byte) :
    (s.acceptSource b).pending = s.pending ∧ (s.acceptSource b).now = s.now ∧ (s.acceptSource b).role = s.role
      ∧ (s.acceptSource b).pu = s.pu ∧ (s.acceptSource b).cu = s.cu ∧ (s.acceptSource b).ii = s.ii
      ∧ (s.acceptSource b).cp = s.cp ∧ (s.acceptSource b).fu = s.fu ∧ (s.acceptSource b).sr = s.sr
      ∧ (s.acceptSource b).hu = s.hu := by
  simp [State.acceptSource]

@[simp] theorem State.checkDesk_frame (s : State) (b : List Byte) :
    (s.checkDesk b).pending = s.pending ∧ (s.checkDesk b).now = s.now ∧ (s.checkDesk b).role = s.role
      ∧ (s.checkDesk b).cu = s.cu ∧ (s.checkDesk b).ts = s.ts ∧ (s.checkDesk b).ca = s.ca ∧ (s.checkDesk b).wp = s.wp
      ∧ (s.checkDesk b).sr = s.sr := by
  unfold State.checkDesk; dsimp only; (repeat' split) <;> simp

@[simp] theorem State.checkSource_frame (s : State) (b : List Byte) :
    (s.checkSource b).pending = s.pending ∧ (s.checkSource b).now = s.now ∧ (s.checkSource b).role = s.role
      ∧ (s.checkSource b).cu = s.cu ∧ (s.checkSource b).ii = s.ii ∧ (s.checkSource b).cp = s.cp
      ∧ (s.checkSource b).fu = s.fu ∧ (s.checkSource b).sr = s.sr ∧ (s.checkSource b).hu = s.hu := by
  unfold State.checkSource; split <;> simp

@[simp] theorem State.beginDesk_frame (s : State) :
    s.beginDesk.pending = s.pending ∧ s.beginDesk.now = s.now ∧ s.beginDesk.role = s.role ∧ s.beginDesk.pu = s.pu
      ∧ s.beginDesk.cu = s.cu ∧ s.beginDesk.ts = s.ts ∧ s.beginDesk.ca = s.ca ∧ s.beginDesk.wp = s.wp := by
  simp [State.beginDesk]

end Sys2Proof.Machine
end

