-- ==== Sys2Proof/Laws/Effects.lean ====
section
/-!
SUPPORT. What the shared operations do: one lemma for each that says everything it can do.
-/

namespace Sys2Proof.Machine

/-- A message handed to class 0 is discarded while the link is DOWN, added where there is room, or dropped with TX-DROP
latched (R173, R177). -/
theorem State.hand0_cases (s : State) (m : Out0) :
    (s.fp.linkUp = false ∧ s.hand0 m = s)
      ∨ (s.fp.linkUp = true ∧ s.fp.class0.length < 16
          ∧ s.hand0 m = s.setFP { s.fp with class0 := s.fp.class0 ++ [m] })
      ∨ (s.fp.linkUp = true ∧ 16 ≤ s.fp.class0.length ∧ s.hand0 m = s.latch .txDrop) := by
  unfold State.hand0 Config.class0Max
  split
  · left; simp_all
  · split
    · right; left; simp_all
    · right; right; simp_all

/-- A FRAME-CLOSE handed to class 2, in the same three ways (R173, R177). -/
theorem State.handFrameClose_cases (s : State) (m : Out2) :
    (s.fp.linkUp = false ∧ s.handFrameClose m = s)
      ∨ (s.fp.linkUp = true ∧ s.fp.class2.length < 4
          ∧ s.handFrameClose m = s.setFP { s.fp with class2 := s.fp.class2 ++ [m] })
      ∨ (s.fp.linkUp = true ∧ 4 ≤ s.fp.class2.length ∧ s.handFrameClose m = s.latch .txDrop) := by
  unfold State.handFrameClose Config.class2Max
  split
  · left; simp_all
  · split
    · right; left; simp_all
    · right; right; simp_all

/-- A PRESENCE entry asked of class 2: none while the link is DOWN or one is there, added where there is room, else in
the place of the newest entry with TX-DROP latched (R173, R177). -/
theorem State.handPresence_cases (s : State) :
    ((s.fp.linkUp = false ∨ Out2.presence ∈ s.fp.class2) ∧ s.handPresence = s)
      ∨ (s.fp.linkUp = true ∧ Out2.presence ∉ s.fp.class2 ∧ s.fp.class2.length < 4
          ∧ s.handPresence = s.setFP { s.fp with class2 := s.fp.class2 ++ [.presence] })
      ∨ (s.fp.linkUp = true ∧ Out2.presence ∉ s.fp.class2 ∧ 4 ≤ s.fp.class2.length
          ∧ s.handPresence
            = (s.setFP { s.fp with class2 := s.fp.class2.dropLast ++ [.presence] }).latch .txDrop) := by
  unfold State.handPresence Config.class2Max
  split
  · left; simp_all
  · split
    · left; simp_all
    · split
      · right; left; simp_all
      · right; right; simp_all

/-- A block that takes a message of a kind leaves the buffer without it, and nothing else changes (R171, R172). -/
theorem State.take_eq {s u : State} {t : Taker} {k : Kind} {m : RxMsg} (h : s.take t k = some (m, u)) :
    u = s.setFP { s.fp with rx := afterTaking t s.fp.rx } ∧ m.kind = k
      ∧ ∃ e ∈ s.fp.rx, e.msg = m ∧ t ∈ e.takers := by
  have key : ∀ (l : List RxEntry) (e : RxEntry), oldestFor t l = some e → e ∈ l ∧ t ∈ e.takers := by
    intro l
    induction l with
    | nil => intro e he; simp [oldestFor] at he
    | cons a r ih =>
      intro e he
      simp only [oldestFor] at he
      split at he
      · rename_i ha; cases he; exact ⟨by simp, by simpa using ha⟩
      · have := ih e he; exact ⟨by simp [this.1], this.2⟩
  unfold State.take at h
  split at h
  · cases h
  · rename_i e he
    split at h
    · rename_i hk
      cases h
      exact ⟨rfl, hk, e, (key _ _ he).1, rfl, (key _ _ he).2⟩
    · cases h

/-- Room in class 1 (R173, R177). -/
theorem State.roomInClass1_iff (s : State) :
    s.roomInClass1 = true ↔ s.fp.linkUp = false ∨ s.fp.class1.length < 4 := by
  rw [State.roomInClass1, Bool.or_eq_true, Bool.not_eq_true', decide_eq_true_iff]
  exact Iff.rfl

/-- Attention is driven by what SA holds (R187). -/
theorem SA.drive_attnN (a : SA) :
    a.drive.attnN = false ↔ a.start = .halted ∨ ∃ m, a.mask = some m ∧ a.latched &&& ~~~m ≠ 0 := by
  cases hm : a.mask <;> simp [SA.drive, SA.attention, hm, or_iff_not_imp_left]

/-- A timer is due when it has run its own time (00_scope.md, TIME). -/
theorem timerDue_iff (now : Time) (t : Timer) (us : Nat) : timerDue now t us = true ↔ ranFor now t us := by
  cases t with
  | none => simp [timerDue, ranFor]
  | some u =>
    simp only [timerDue, ranFor, elapsed, Option.some.injEq, exists_eq_left']
    exact decide_eq_true_iff

/-- A timer that is not due has not run its own time. -/
theorem timerDue_eq_false_iff (now : Time) (t : Timer) (us : Nat) :
    timerDue now t us = false ↔ ¬ ranFor now t us := by
  rw [← timerDue_iff, Bool.not_eq_true]

/-- A timer's expiry joins the queue when the timer has run its own time, and nothing else does (log 2). -/
theorem mem_ifDue_iff (now : Time) (t : Timer) (us : Nat) (c d : Instr) :
    d ∈ ifDue now t us c ↔ ranFor now t us ∧ d = c := by
  rw [← timerDue_iff, ifDue]
  split <;> simp_all

/-- The age limit of the workstation queue is passed when the oldest entry without a recovery mark has waited more than
250 ms (R98). -/
theorem WP.tooOld_iff (w : WP) (now : Time) :
    w.tooOld now = true ↔ ∃ l e r, w.queue = l ++ e :: r ∧ (∀ d ∈ l, d.recovery = true) ∧ e.recovery = false
      ∧ 250000 < (now - e.entered).toNat := by
  have key : ∀ e, w.watched = some e ↔
      ∃ l r, w.queue = l ++ e :: r ∧ (∀ d ∈ l, d.recovery = true) ∧ e.recovery = false := by
    intro e
    rw [WP.watched, List.find?_eq_some_iff_append]
    constructor
    · rintro ⟨he, l, r, hq, hl⟩
      exact ⟨l, r, hq, fun d hd => by simpa using hl d hd, by simpa using he⟩
    · rintro ⟨l, r, hq, hl, he⟩
      exact ⟨by simp [he], l, r, hq, fun d hd => by simp [hl d hd]⟩
  unfold WP.tooOld
  constructor
  · intro h
    split at h
    · cases h
    · rename_i e he
      obtain ⟨l, r, hq, hl, hr⟩ := (key e).1 he
      exact ⟨l, e, r, hq, hl, hr, of_decide_eq_true h⟩
  · rintro ⟨l, e, r, hq, hl, he, h⟩
    rw [(key e).2 ⟨l, r, hq, hl, he⟩]
    exact decide_eq_true h

/-! ### Tile rows (R118) -/

/-- Taking a line of a row leaves the row in progress in step with the lines. -/
theorem Channel.lineTaken_rowsOk {c : Channel} {h : Nat} (g : c.line < h) : c.lineTaken.rowsOk h := by
  refine ⟨g, fun a _ => congrArg some ?_, fun r e => ?_⟩ <;> simp only [Channel.lineTaken, Option.some.injEq] at *
  · omega
  · unfold tilesAlong
    exact ⟨by omega, .inl (by omega)⟩

/-- So does the beginning of a row at its first line. -/
theorem Channel.rowBegins_rowsOk {c : Channel} {z : Size} {r : Nat} (k : c.rowsOk z.h) (b : c.rowBegins z r = true) :
    ({ c with row := some r } : Channel).rowsOk z.h := by
  simp only [Channel.rowBegins, Bool.and_eq_true, decide_eq_true_eq] at b
  refine ⟨k.1, fun a _ => absurd (by simp [b.2]) a, ?_⟩
  rintro x ⟨⟩
  exact ⟨b.1, .inl ⟨b.2.ge, by simp only [b.2]; omega⟩⟩

/-- So does the completion of a row whose last line has been written. -/
theorem Channel.rowDone_rowsOk {c : Channel} {z : Size} {r : Nat} (k : c.rowsOk z.h) (w : c.rowWritten z r = true) :
    (c.rowDone r).rowsOk z.h := by
  refine ⟨k.1, fun a b => ?_, fun x e => by cases e⟩
  simp only [Channel.rowDone, Channel.rowWritten, Bool.or_eq_true, Bool.and_eq_true, decide_eq_true_eq] at *
  omega

/-- So does a frame end, for all the lines of the frame have been taken. -/
theorem Channel.frameEnd_rowsOk {c : Channel} {h : Nat} (k : c.rowsOk h) (e : c.line = h) :
    ({ c with line := 0 } : Channel).rowsOk h := by
  refine ⟨Nat.zero_le _, fun a => absurd rfl a, fun r g => ?_⟩
  have := k.2.2 r g
  unfold tilesAlong at *
  exact ⟨this.1, .inr ⟨rfl, by omega⟩⟩

end Sys2Proof.Machine
end

