-- ==== Sys2Proof/Laws/Memory.lean ====
section
/-!
SUPPORT. The frame stores: a read after a write, after a clearing and after a pixel, and that every operation on a store
keeps the canonical form.
-/

namespace Sys2Proof.Machine

/-- The canonical form of a list, said of its head and of the rest. -/
theorem Memory.wf_cons (c : Host.Cell) (m : Memory) :
    Memory.wf (c :: m) = true ↔ c.2 ≠ 0 ∧ (∀ d ∈ m, c.1 < d.1) ∧ Memory.wf m = true := by
  induction m generalizing c with
  | nil => simp [Memory.wf]
  | cons d r ih =>
    have hd := ih d
    simp only [Memory.wf, Bool.and_eq_true, decide_eq_true_eq, List.forall_mem_cons]
    constructor
    · rintro ⟨⟨h0, h1⟩, h2⟩
      exact ⟨by simpa using h0, ⟨h1, fun e he => lt_trans h1 ((hd.1 h2).2.1 e he)⟩, h2⟩
    · rintro ⟨h0, ⟨h1, -⟩, h2⟩
      exact ⟨⟨by simpa using h0, h1⟩, h2⟩

/-- The empty store is in canonical form. -/
@[simp] theorem Memory.wf_nil : Memory.wf [] = true := rfl

/-- Below every listed address a store reads 0. -/
theorem Memory.read_below (m : Memory) (a : Nat) (h : ∀ d ∈ m, a < d.1) : m.read a = 0 := by
  induction m with
  | nil => rfl
  | cons c r ih =>
    have hc := h c (by simp)
    have : c.1 ≠ a := by omega
    simp [Memory.read, this, ih fun d hd => h d (by simp [hd])]

/-- Where the addresses of a written store lie. -/
theorem Memory.write_keys (m : Memory) (a : Nat) (b : Byte) (d : Host.Cell) (h : d ∈ m.write a b) :
    d.1 = a ∨ d ∈ m := by
  induction m with
  | nil =>
    by_cases hb : b = 0 <;> simp [Memory.write, hb] at h
    simp [h]
  | cons c r ih =>
    simp only [Memory.write] at h
    split at h
    · rcases List.mem_cons.1 h with h | h
      · simp [h]
      · rcases ih h with h | h <;> simp [h]
    · (repeat' split at h) <;> simp only [List.mem_cons] at h ⊢ <;>
        first | tauto | (rcases h with h | h <;> simp [h])

/-- A write keeps the canonical form. -/
theorem Memory.wf_write (m : Memory) (a : Nat) (b : Byte) (h : m.wf = true) : (m.write a b).wf = true := by
  induction m with
  | nil =>
    simp only [Memory.write]
    split
    · rfl
    · rename_i hb
      exact (Memory.wf_cons _ _).2 ⟨hb, by simp, rfl⟩
  | cons c r ih =>
    obtain ⟨h0, h1, h2⟩ := (Memory.wf_cons c r).1 h
    simp only [Memory.write]
    split
    · rename_i hk
      refine (Memory.wf_cons _ _).2 ⟨h0, fun d hd => ?_, ih h2⟩
      rcases Memory.write_keys r a b d hd with hd | hd
      · rw [hd]; exact hk
      · exact h1 d hd
    · split
      · split
        · exact h2
        · rename_i hk hb
          exact (Memory.wf_cons _ _).2 ⟨hb, fun d hd => hk ▸ h1 d hd, h2⟩
      · split
        · exact h
        · rename_i hk hk' hb
          refine (Memory.wf_cons _ _).2 ⟨hb, fun d hd => ?_, h⟩
          rcases List.mem_cons.1 hd with hd | hd
          · rw [hd]; show a < c.1; omega
          · have := h1 d hd; show a < d.1; omega

/-- A byte read after a write: the byte written at its address, every other as before. -/
theorem Memory.read_write (m : Memory) (a : Nat) (b : Byte) (x : Nat) (h : m.wf = true) :
    (m.write a b).read x = if x = a then b else m.read x := by
  induction m with
  | nil =>
    by_cases hb : b = 0
    · simp [Memory.write, hb, Memory.read]
    · simp only [Memory.write, if_neg hb, Memory.read, eq_comm (a := a)]
  | cons c r ih =>
    obtain ⟨h0, h1, h2⟩ := (Memory.wf_cons c r).1 h
    simp only [Memory.write]
    split
    · rename_i hk
      simp only [Memory.read, ih h2]
      split <;> rename_i hx
      · rw [if_neg]; omega
      · rfl
    · split
      · rename_i hk
        split
        · rename_i hb
          split
          · rename_i hx
            rw [hb, hx, Memory.read_below r a fun d hd => hk ▸ h1 d hd]
          · rename_i hx
            have : c.1 ≠ x := by omega
            simp [Memory.read, this]
        · by_cases hx : x = a
          · simp [Memory.read, hx]
          · have h3 : a ≠ x := Ne.symm hx
            have h4 : c.1 ≠ x := by omega
            simp [Memory.read, hx, h3, h4]
      · rename_i hk hk'
        have hlt : a < c.1 := by omega
        split
        · rename_i hb
          split
          · rename_i hx
            rw [hb, hx]
            refine Memory.read_below _ _ fun d hd => ?_
            rcases List.mem_cons.1 hd with hd | hd
            · rw [hd]; exact hlt
            · exact lt_trans hlt (h1 d hd)
          · rfl
        · by_cases hx : x = a
          · simp [Memory.read, hx]
          · simp [Memory.read, hx, Ne.symm hx]

/-- A clearing keeps the canonical form. -/
theorem Memory.wf_clear (m : Memory) (lo hi : Nat) (h : m.wf = true) : (m.clear lo hi).wf = true := by
  induction m with
  | nil => rfl
  | cons c r ih =>
    obtain ⟨h0, h1, h2⟩ := (Memory.wf_cons c r).1 h
    have hr : Memory.wf (Memory.clear r lo hi) = true := ih h2
    simp only [Memory.clear, List.filter_cons]
    split
    · exact (Memory.wf_cons _ _).2 ⟨h0, fun d hd => h1 d (List.mem_filter.1 hd).1, hr⟩
    · exact hr

/-- A byte read after a clearing: 0 inside, every other as before. -/
theorem Memory.read_clear (m : Memory) (lo hi x : Nat) :
    (m.clear lo hi).read x = if lo ≤ x ∧ x < hi then 0 else m.read x := by
  induction m with
  | nil => simp [Memory.clear, Memory.read]
  | cons c r ih =>
    have ih' : Memory.read (List.filter (fun c => !(lo ≤ c.1 && c.1 < hi)) r) x
        = if lo ≤ x ∧ x < hi then 0 else Memory.read r x := ih
    simp only [Memory.clear, List.filter_cons]
    by_cases hc : lo ≤ c.1 ∧ c.1 < hi
    · have : (!(decide (lo ≤ c.1) && decide (c.1 < hi))) = false := by simp [hc.1, hc.2]
      rw [this]
      simp only [Bool.false_eq_true, if_false, ih', Memory.read]
      split
      · rfl
      · rename_i hx
        rw [if_neg]
        rintro rfl
        exact hx hc
    · have : (!(decide (lo ≤ c.1) && decide (c.1 < hi))) = true := by
        simp only [Bool.not_eq_true', Bool.and_eq_false_iff, decide_eq_false_iff_not]; omega
      rw [this]
      simp only [if_true, Memory.read, ih']
      by_cases hx : c.1 = x
      · subst hx; simp [hc]
      · simp [hx]

/-- Clearing a region keeps the canonical form. -/
theorem Memory.wf_clearRegion (m : Memory) (n : Nat) (h : m.wf = true) : (m.clearRegion n).wf = true :=
  Memory.wf_clear m _ _ h

/-- A pixel written keeps the canonical form. -/
theorem Memory.wf_setPixel (m : Memory) (n x y : Nat) (c : Colour) (h : m.wf = true) :
    (m.setPixel n x y c).wf = true := by
  unfold Memory.setPixel
  split
  · exact Memory.wf_write _ _ _ (Memory.wf_write _ _ _ (Memory.wf_write _ _ _ h))
  · exact h

/-- A row written keeps the canonical form. -/
theorem Memory.wf_setRow (m : Memory) (n x y : Nat) (l : List Colour) (h : m.wf = true) :
    (m.setRow n x y l).wf = true := by
  induction l generalizing m x with
  | nil => exact h
  | cons c r ih => exact ih _ _ (Memory.wf_setPixel m n x y c h)

/-- A tile written keeps the canonical form. -/
theorem Memory.wf_setTile (m : Memory) (n : Nat) (t : Tile) (w k : Nat) (l : List Colour) (h : m.wf = true) :
    (m.setTile n t w k l).wf = true := by
  unfold Memory.setTile
  generalize List.range k = rows
  induction rows generalizing m with
  | nil => exact h
  | cons i r ih => exact ih _ (Memory.wf_setRow _ _ _ _ _ h)

/-- A byte read after a pixel is written: the pixel's bytes at its three addresses, every other byte as before. -/
theorem Memory.read_setPixel (m : Memory) (n x y : Nat) (c : Colour) (a : Nat) (h : m.wf = true)
    (hx : x < Config.pitch) (hy : y < Config.regionRows) :
    (m.setPixel n x y c).read a
      = if a = pixelAddress n x y + 2 then c.b
        else if a = pixelAddress n x y + 1 then c.g
        else if a = pixelAddress n x y then c.r else m.read a := by
  have h1 := Memory.wf_write m (pixelAddress n x y) c.r h
  have h2 := Memory.wf_write _ (pixelAddress n x y + 1) c.g h1
  simp [Memory.setPixel, hx, hy, Memory.read_write _ _ _ _ h2, Memory.read_write _ _ _ _ h1, Memory.read_write _ _ _ _ h]

/-- The stores of the machine after reset are in canonical form. -/
theorem Memory.wf_reset : State.reset.cu.store.wf = true ∧ State.reset.sr.store.wf = true := ⟨rfl, rfl⟩

end Sys2Proof.Machine
end

