-- ==== Sys2Proof/WellFormed.lean ====
section
/-!
DEFINITION. Which commands are well formed: every operand lies in the range its rule gives it. A command that is not
well formed describes an event the outside world cannot bring about (a valid line without a valid pixel, a station 0).
-/

namespace Sys2Proof

/-- A station number of an endpoint: 1..1023 (00_scope.md, TERMS). -/
def stationOk (s : Nat) : Bool := 1 ≤ s && s ≤ 1023

/-- The counts of a frame (R107, R108): every valid line holds a valid pixel, and the valid lines are lines. -/
def FrameCounts.wellFormed (c : FrameCounts) : Bool :=
  c.validLines.all (fun n => 1 ≤ n) && c.validLines.length ≤ c.totalLines

/-- The check of a command's operands. DESIGN CHOICE: R36 gives an endpoint's poll interval no range; a description in
which one is 0 is not well formed, for no poll could be made at it (log 41). -/
def Instr.wellFormed : Instr → Bool
  | .askTimerExpiry st | .refusedTimerExpiry st | .absenceTimerExpiry st | .holdOffTimerExpiry st => stationOk st
  | .viewerEntryExpiry d | .waitEntryExpiry d | .notHolderNoteExpiry d => stationOk d
  | .staleTimerExpiry x | .lostTimerExpiry x | .repairTimerExpiry x => stationOk x.station
  | .enumerationComplete _ l => l.all (fun i => 1 ≤ i.interval)
  | .pollAnsweredWithNoData _ t => t ≠ .lampReport
  | .frameSync _ c => c.wellFormed
  | .validLineEnd _ px => !px.isEmpty
  | .tileRowBegin _ r => r < 100
  | .syncPeriodEnd _ _ hi lo => 1 ≤ hi && 1 ≤ lo
  | .reset _ | .imageReadComplete _ | .linkUp | .linkDown | .listenTimerExpiry | .frameReceived _ _
  | .presenceTakenByCa | .presenceTakenByFu | .presenceTakenBySr | .tileTaken | .frameCloseTaken
  | .repairRequestTaken | .refreshWindowExpiry | .controlRequestTaken | .controlReleaseTaken | .inputTaken
  | .attnClearTaken | .controlVerdictTaken | .controlWithdrawnTaken | .lampsTaken | .transmitArbiterTake
  | .presenceTimerExpiry | .hostDeviceConnect _ | .hostDeviceDisconnect _ | .enumerationFailure _
  | .transferUnanswered _ _ | .pollTransferFailure _ _ | .keyboardReport _ _ | .leadSeenTimerExpiry
  | .commandTimerExpiry | .mouseReport _ _ | .inputIntervalExpiry | .lampReportComplete _ | .lampRetryExpiry _
  | .minuteTimerExpiry | .tileRowComplete _ | .syncTimerExpiry _ | .tileChoice | .idleTimerExpiry
  | .busPowerAppears | .busPowerLost | .busReset | .setAddress _ | .setConfiguration _ | .setFeatureRemoteWake
  | .clearFeatureRemoteWake | .getDescriptor | .getReport _ | .setIdleOrProtocol | .unsupportedStandardRequest
  | .keyboardOutputReport _ | .keyboardPoll _ | .pointerPoll _ | .queueAgeOverrun | .busIdleSuspend | .busResume
  | .resumeSignallingEnd | .headLineStart _ => true

end Sys2Proof
end

