-- ==== Sys2Proof/Tests/Slice0.lean ====
section
/-!
SUPPORT. The model's own tests: the smoke tests of well-formedness, examples the spec works out itself, and for each
statement with hypotheses a state and operands that meet them, clause by clause.
-/

namespace Sys2Proof.Tests

open Sys2Proof.Machine

/-! ### Well-formedness: each check refuses an ill-formed command -/

theorem test_wf_station_zero : (Instr.askTimerExpiry 0).wellFormed = false := by decide
theorem test_wf_station_above : (Instr.holdOffTimerExpiry 1024).wellFormed = false := by decide
theorem test_wf_desk_zero : (Instr.waitEntryExpiry 0).wellFormed = false := by decide
theorem test_wf_stream_station : (Instr.lostTimerExpiry ⟨1024, 1⟩).wellFormed = false := by decide
theorem test_wf_interval : (Instr.enumerationComplete 0 [⟨.bootMouse, 0⟩]).wellFormed = false := by decide
theorem test_wf_poll : (Instr.pollAnsweredWithNoData 1 .lampReport).wellFormed = false := by decide
theorem test_wf_empty_line : (Instr.validLineEnd 0 []).wellFormed = false := by decide
theorem test_wf_valid_line_of_none : (Instr.frameSync 0 ⟨[0], 1⟩).wellFormed = false := by decide
theorem test_wf_lines : (Instr.frameSync 0 ⟨[640, 640], 1⟩).wellFormed = false := by decide
theorem test_wf_row : (Instr.tileRowBegin 0 100).wellFormed = false := by decide
theorem test_wf_period : (Instr.syncPeriodEnd 1 .vsync 1 0).wellFormed = false := by decide
theorem test_wf_ok : (Instr.askTimerExpiry 1023).wellFormed = true := by decide

/-- No row gives bits, so no word spells a command and placing one changes nothing. -/
theorem test_decode_none : decodeTableWord 16 0xFFFF = none ∧ State.reset.withFetchWord 8 1 = State.reset :=
  ⟨rfl, rfl⟩

/-! ### States built for the tests -/

/-- An endpoint of station `own` that serves. -/
def endpoint (r : Role) (own : Nat) : State :=
  { State.reset with
    role := r
    sa := { SA.reset with
      start := .serving, imageOk := true, fabricUp := true, serving := true, mask := some 0, pulse := some 0 }
    fp := { FP.reset with own := own, typeCode := 0x88B5, started := true, linkUp := true } }

/-- A message from a station. -/
def msg (k : Kind) (sender : Nat) (r : Role) (p : List Byte) : RxMsg :=
  { kind := k, sender := sender, role := r, channel := 0, seq := 5, payload := p }

/-- A state with one message waiting for a block. -/
def waiting (s : State) (t : Taker) (m : RxMsg) : State := s.setFP { s.fp with rx := [⟨m, [t]⟩] }

/-- Source 17 of the example of competing desks (05). -/
def source : State :=
  (endpoint .source 17).setCA { CA.reset with
    permits := [⟨5, 2⟩, ⟨6, 2⟩, ⟨9, 2⟩, ⟨12, 3⟩, ⟨14, 1⟩, ⟨21, 1⟩, ⟨30, 1⟩], grace := 10, waitLife := 30 }

/-- Source 17 held by a desk under an id, with a wait list. -/
def heldBy (d r : Nat) (i : Byte) (l : List WaitEntry) : State :=
  source.setCA { source.ca with slot := some (newSlot d r i 0), wait := l }

/-- The head rectangle of a mode at an origin. -/
def head (cx cy w h : Nat) : HeadRec := { mode := 0, cx := cx, cy := cy, w := w, h := h, validity := .valid }

/-- A head that is not used. -/
def unused : HeadRec := { HeadRec.reset with mode := 255, validity := .unused }

/-- The gains of the examples (02). -/
def gains : Gains := ⟨4, 12, 40, 16, 24, 40, 64⟩

/-- The stream of the desk's layout. -/
def stream : Stream := ⟨17, 0⟩

/-- A context of that stream, LIVE at 640 × 480 with epoch 1, its last sequence 4. -/
def liveCtx : Ctx :=
  { newCtx stream 0 with state := .live, epoch := some 1, mode := some ⟨640, 480⟩, lastSeq := some 4, stale := some 0,
                         lost := some 0 }

/-- A record of its source in a state. -/
def recordIn (st : RecState) : SrcRec :=
  { newRecord 17 1 0 with
    state := st, id := 3, holdOff := none, ask := if st = .asking then some 0 else none }

/-- Desk 5, with one head of 640 × 480 that shows the stream, and a record and a context of it. -/
def desk (r : SrcRec) (c : Ctx) : State :=
  let s := endpoint .desk 5
  let s := s.setFP { s.fp with subs := [stream] }
  let s := s.setCP { CP.reset with
    heads := ⟨head 0 0 640 480, unused, unused, unused⟩, layouts := [⟨some stream, none, none, none⟩], head := some 0
    x := 320, y := 240, gains := gains, resist := 8 }
  let s := (s.setFU { FU.reset with records := [r], intervalMs := 1 }).setSR { SR.reset with ctxs := [c] }
  let s := s.setHU { HU.reset with tBlank := 1, minute := some 0 }
  let p := { HostPort.reset with state := .polling, vbusEn := true, keyboard := some ⟨0, 8⟩, mouse := some ⟨1, 8⟩ }
  (s.setII { II.reset with ports := ⟨p, HostPort.reset⟩, lead := .key 0x47 }).placeAll.recomputeField.recomputeHeads

/-- A state at a reading of the microsecond counter. -/
def later (s : State) (t : Time) : State := { s with now := t }

/-- The desk with nothing remarkable. -/
def calm : State := desk (recordIn .idle) liveCtx

/-! ### Examples of the spec -/

/-- The CRC-32 of 13, ENCODING over the bytes 0x31..0x39; its value there is general knowledge of this CRC, not in the
spec (PRESUMED). -/
theorem test_crc : crc32 [0x31, 0x32, 0x33, 0x34, 0x35, 0x36, 0x37, 0x38, 0x39] = 0xCBF43926#32 := by decide +kernel

/-- 01, PLACEMENTS, the second, fourth and last lines. -/
theorem test_placements :
    placement 0 ⟨1280, 1024⟩ 1920 1080 = ⟨0, 1, 1280, 1024, 320, 28⟩
      ∧ placement 0 ⟨1921, 1080⟩ 1920 1080 = ⟨0, 2, 961, 540, 479, 270⟩
      ∧ placement 0 ⟨2560, 1600⟩ 1024 768 = ⟨0, 2, 1024, 768, 0, 0⟩ := by decide

/-- The heads of the L-shaped desk (01). -/
def lDesk : CP :=
  { CP.reset with
    heads := ⟨head 0 0 1920 1080, head 1920 0 2560 1440, head 0 1080 1920 1080, head 4480 200 1280 1024⟩
    gains := gains, resist := 30, head := some 1 }

/-- 01, ADJACENCY OF AN L-SHAPED DESK. -/
theorem test_adjacency :
    lDesk.neighbour 0 .right 1079 = some 1 ∧ lDesk.neighbour 1 .left 1079 = some 0
      ∧ lDesk.neighbour 1 .left 1080 = some 2 ∧ lDesk.neighbour 1 .right 199 = none
      ∧ lDesk.neighbour 1 .right 200 = some 3 ∧ lDesk.neighbour 1 .right 1224 = none
      ∧ lDesk.neighbour 0 .bottom 1919 = some 2 ∧ lDesk.neighbour 2 .top 0 = some 0
      ∧ lDesk.neighbour 3 .left 1223 = some 1 ∧ lDesk.neighbour 0 .left 5 = none := by decide

/-- Two heads side by side, the pointer on head 1 (02). -/
def pairDesk (x : Nat) : CP :=
  { CP.reset with
    heads := ⟨unused, head 0 0 1920 1080, head 1920 0 1920 1080, unused⟩, gains := gains, resist := 8, head := some 1
    x := x, y := 600, carryX := 5, carryY := -7 }

/-- 02, ONE REPORT FROM THE MOUSE: the crossing. -/
theorem test_pointer_crosses :
    (pairDesk 1915).move 1 9 (-3)
      = { pairDesk 1920 with head := some 2, carryX := 0, carryY := 0 } := by decide

/-- 02, PUSH OVER TWO REPORTS: the first report, and the crossing of the second. -/
theorem test_pointer_pushes :
    (pairDesk 1912).move 1 9 (-3)
        = { pairDesk 1919 with y := 596, carryX := 13, carryY := -15, push := 6, edge := some .right }
      ∧ ({ pairDesk 1919 with y := 596, carryX := 13, carryY := -15, push := 6, edge := some .right } : CP).move 1 3 0
        = { pairDesk 1920 with y := 596, head := some 2, carryX := 0, carryY := 0 } := by decide

/-- 02, EDGES THAT HOLD THE POINTER, the third line: both axes push into the corner. -/
theorem test_pointer_corner :
    (({ lDesk with head := some 0, x := 1919, y := 1079 } : CP).moveAxis 0 .x 20).1
        = { lDesk with head := some 0, x := 1919, y := 1079, push := 20, edge := some .right }
      ∧ (({ lDesk with head := some 0, x := 1919, y := 1079, push := 20, edge := some .right } : CP).moveAxis 0 .y 20).1
        = { lDesk with head := some 0, x := 1919, y := 1079, push := 20, edge := some .bottom } := by decide

/-- 06, MAPPING ACROSS TWO CHANNELS. -/
theorem test_logical :
    extentOf ⟨⟨0, 0, some ⟨2560, 1440⟩⟩, ⟨2560, 0, some ⟨1920, 1080⟩⟩⟩ = some ⟨4480, 1440⟩
      ∧ logicalAxis 0 520 2560 4480 = 3803 ∧ logicalAxis 0 840 1440 1440 = 19114
      ∧ logicalAxis 2560 1918 1920 4480 = 32753 ∧ logicalAxis 0 2000 1920 4480 = 14036 := by decide

/-- 05, COMPETING DESKS at 6.0: desk 12 preempts desk 9, the tail is displaced, and desk 9 stands at the head. -/
theorem test_preempts :
    ((heldBy 9 2 4 [⟨5, 2, 12, 1⟩, ⟨14, 1, 3, 2⟩, ⟨21, 1, 8, 4⟩, ⟨30, 1, 2, 5⟩]).request 12 7).ca.wait
        = [⟨9, 2, 4, 0⟩, ⟨5, 2, 12, 1⟩, ⟨14, 1, 3, 2⟩, ⟨21, 1, 8, 4⟩]
      ∧ ((heldBy 9 2 4 [⟨5, 2, 12, 1⟩, ⟨14, 1, 3, 2⟩, ⟨21, 1, 8, 4⟩, ⟨30, 1, 2, 5⟩]).request 12 7).fp.class0
        = [.controlWithdrawn 30 .displaced 2, .controlWithdrawn 9 .preemptedQueued 4, .controlVerdict 12 .granted 7,
           .lamps 12 0] := by decide

/-- 05, COMPETING DESKS at 1.0 and 3.0: a desk joins, and a desk without a permit is refused. -/
theorem test_joins :
    ((heldBy 9 2 4 []).request 5 12).fp.class0 = [.controlVerdict 5 (.queued 1) 12]
      ∧ ((heldBy 9 2 4 []).request 40 9).fp.class0 = [.controlVerdict 40 .noPermit 9] := by decide

/-- 05, INPUT ADMISSION: newer and older sequences. -/
theorem test_newer :
    newer 0 1 = true ∧ newer 1 1 = false ∧ newer 1 3 = true ∧ newer 3 2 = false ∧ newer 65534 1 = true
      ∧ newer 65534 32766 = false := by decide

/-- 06, A FULL QUEUE: the second and third offers. -/
theorem test_full_queue :
    let e (k : List Byte) : QueueEntry := ⟨⟨0, k⟩, 0, false⟩
    let w : WP := { WP.reset with queue := List.replicate 30 (e []) ++ [e [5], e [5, 6]] }
    (w.offer ⟨0, [5, 6]⟩ 0).queue.length = 32
      ∧ ((w.offer ⟨0, [6]⟩ 0).queue.drop 30) = [e [5], e [6]]
      ∧ (((w.offer ⟨0, [6]⟩ 0).offer ⟨0, [5]⟩ 0).queue.drop 30) = [e [5]] := by decide

/-- 08, CODING FOUR TILES: costs of one, four, three and five colours. -/
theorem test_coding :
    let c (n : Nat) : Colour := ⟨byteOf n, 0, 0⟩
    tileCost (codingPayload (List.replicate 256 (c 0))) = 27
      ∧ tileCost (codingPayload ((List.range 256).map fun i => c (i % 4))) = 100
      ∧ tileCost (codingPayload ((List.range 128).map fun i => c (i % 3))) = 65
      ∧ tileCost (codingPayload ((List.range 256).map fun i => c (i % 5))) = 792 := by decide +kernel

/-- 07, THE DIRTY SET OVER ONE FRAME: row 3 completes, then row 7. -/
theorem test_dirty :
    let d (c r a : Nat) : DirtyTile := ⟨⟨c, r⟩, BitVec.ofNat 32 a⟩
    insertDirty ⟨6, 3⟩ 4 (insertDirty ⟨5, 3⟩ 4 [d 0 7 3, d 9 7 3]) = [d 0 7 3, d 9 7 3, d 5 3 4, d 6 3 4]
      ∧ insertDirty ⟨2, 7⟩ 4 [d 0 7 3, d 9 7 3, d 6 3 4] = [d 0 7 3, d 9 7 3, d 6 3 4, d 2 7 4] := by decide

/-- 09, LOSS ACROSS THE WRAP: distances 1, 2 and 65,535 in a LIVE context. -/
theorem test_sequence :
    ({ liveCtx with lastSeq := some 65533 } : Ctx).checkSeq 65534 = some false
      ∧ ({ liveCtx with lastSeq := some 65534 } : Ctx).checkSeq 0 = some true
      ∧ ({ liveCtx with lastSeq := some 3 } : Ctx).checkSeq 2 = none := by decide

/-- 13, A VERDICT ON THE WIRE: the frame source 17 sends desk 5, its check sequence apart. -/
def wireVerdict : List Byte :=
  [0x02, 0x5A, 0x71, 0x00, 0x00, 0x05, 0x02, 0x5A, 0x71, 0x00, 0x00, 0x11, 0x88, 0xB5, 6, 1, 0x00, 0x11, 0x00, 0x05, 0,
   0x01, 0, 0, 0, 4, 0, 0, 0, 0, 1, 12, 0, 0] ++ List.replicate 26 0

/-- 13, A VERDICT ON THE WIRE, as it is built at the source and read at the desk. -/
theorem test_wire :
    buildFrame 17 0x88B5 .source (endpointAddress 5) .controlVerdict 5 0 0 (verdictBytes .granted 12) = wireVerdict
      ∧ readEnvelope 5 (wireVerdict ++ [0, 0, 0, 0])
        = some { msg .controlVerdict 17 .source [1, 12, 0, 0] with seq := 0 }
      ∧ readVerdict [4, 12, 0, 0] = none := by decide +kernel

/-- 11, FRAMES ARRIVING AT A DESK: a group not subscribed is dropped, a PRESENCE of the own station is a clash. -/
theorem test_frames :
    framePasses 5 0x88B5 [⟨17, 0⟩, ⟨23, 1⟩] true (streamAddress ⟨31, 0⟩ ++ wireVerdict.drop 6 ++ zeros 4) = false
      ∧ (calm.accept (msg .presence 5 .desk (zeros 19))).sa.latched = Cond.stationClash.bit
      ∧ (calm.accept (msg .controlRequest 9 .desk [1, 1])) = calm := by decide +kernel

/-- 10, ONE LINE OF A HEAD: the focus frame and the glyph's rows and columns. -/
theorem test_line :
    inFrame 4 1920 1080 3 400 = true ∧ inFrame 4 1920 1080 4 400 = false ∧ inFrame 4 1920 1080 1915 400 = false
      ∧ inFrame 4 1920 1080 1916 400 = true ∧ inFrame 4 1920 1080 900 2 = true
      ∧ (⟨List.replicate 256 1, 1, 1, ⟨0, 0, 0⟩, ⟨0, 0, 0⟩, false⟩ : Glyph).code 700 395 698 400 = 0
      ∧ (⟨List.replicate 256 1, 1, 1, ⟨0, 0, 0⟩, ⟨0, 0, 0⟩, false⟩ : Glyph).code 700 395 699 400 = 1
      ∧ (⟨List.replicate 256 1, 1, 1, ⟨0, 0, 0⟩, ⟨0, 0, 0⟩, false⟩ : Glyph).code 700 395 714 409 = 1
      ∧ (⟨List.replicate 256 1, 1, 1, ⟨0, 0, 0⟩, ⟨0, 0, 0⟩, false⟩ : Glyph).code 700 395 714 410 = 0 := by decide

/-- 05, TAKING EVENTS, "PRESENCE, then expiry": the entry is refreshed and the expiry is not reached. -/
theorem test_presence_before_expiry :
    let s := (source.setCA { source.ca with viewers := [⟨5, 1, 0⟩] })
    (exec (.viewerEntryExpiry 5) (later s 999999) = .next (later s 999999))
      ∧ exec (.viewerEntryExpiry 5) (later s 1000000) ≠ .next (later s 1000000) := by
  refine ⟨rfl, fun h => ?_⟩
  have := congrArg (fun o => match o with | .next t => t.ca.viewers.length | _ => 0) h
  exact absurd this (by decide)

/-- 06, R98: after a poll took the old head, a younger entry is not overrun; at more than 250 ms it is. -/
theorem test_overrun_age :
    let s := source.setWP { source.wp with queue := [⟨⟨2, []⟩, 0, false⟩] }
    exec .queueAgeOverrun (later s 250000) = .next (later s 250000)
      ∧ ∃ t, exec .queueAgeOverrun (later s 250001) = .next t ∧ t.wp.queue = [⟨.released, 250001, true⟩] :=
  ⟨rfl, _, rfl, rfl⟩

/-- 11, R171: at a layout change SR takes its messages in the order in which FP accepted them, up to the last of a removed
stream. -/
theorem test_drain_order :
    let e (k : Kind) (p : Nat) : RxEntry := ⟨msg k p .source [], [.sr]⟩
    upToLastOf [stream] [e .presence 17, e .tile 23, e .tile 17, e .frameClose 23]
        = [e .presence 17, e .tile 23, e .tile 17]
      ∧ behindLastOf [stream] [e .presence 17, e .tile 23, e .tile 17, e .frameClose 23] = [e .frameClose 23] := by decide

/-! ### Witnesses: every statement's hypotheses are met, clause by clause -/

/-- Whether a block takes a given message of a kind. -/
def takes (s : State) (t : Taker) (k : Kind) (m : RxMsg) : Bool :=
  match s.take t k with
  | none => false
  | some (n, _) => n = m

/-- Tables of a serving desk whose parts stand in the layout's own order. -/
theorem tables_in_order (s : State) (h : s.servingAs .desk = true) (h1 : (s.sr.ctxs.map Ctx.stream).Nodup)
    (h2 : s.sr.ctxs.map Ctx.stream = s.cp.streams) (h3 : (s.sr.ctxs.map Ctx.region).Nodup)
    (h4 : s.fp.subs = s.sr.ctxs.map Ctx.stream) (h5 : (s.fu.records.map SrcRec.station).Nodup)
    (h6 : s.fu.records.map SrcRec.station = s.cp.sources) : s.TablesRule := by
  unfold State.TablesRule
  rw [if_pos h]
  exact ⟨h1, fun x => by rw [h2], h3, h4, h5, fun p => by rw [h6]⟩

/-- The calm desk keeps its tables. -/
theorem calm_tables : calm.TablesRule :=
  tables_in_order _ (by decide) (by decide) (by decide) (by decide) (by decide) (by decide) (by decide)

/-- A desk that holds its source, with an INPUT due. -/
def holding : State :=
  let s := desk { recordIn .holding with seq := 9 } liveCtx
  s.setFU { s.fu with fresh := true, interval := some 0 }

/-- Source 17 held by desk 9, with an INPUT of a desk under an id and sequence. -/
def inputAt (accepted : Option (BitVec 16)) (d : Nat) (i : Byte) (q : BitVec 16) : State :=
  let s := heldBy 9 2 4 []
  waiting (s.setCA { s.ca with slot := some { newSlot 9 2 4 0 with accepted := accepted } }) .ca
    { msg .input d .desk ([i] ++ zeros 15) with seq := q }

/-- A source channel LOCKED at 640 × 480. -/
def locked : Channel := { Channel.reset with state := .locked, mode := some ⟨640, 480, 525, 16667⟩ }

/-- Source 17 with channel 0 in a given context. -/
def channelAt (c : Channel) : State := source.setChannel 0 c

/-- The counts of a regular frame of 640 × n. -/
def frameOf (n : Nat) : FrameCounts := ⟨List.replicate n 640, n + 45⟩

theorem witness_StepIdles :
    State.reset.pending = [] ∧ ofItself .idleTimerExpiry = true ∧ ¬ (heldBy 9 2 4 []).isDue .idleTimerExpiry
      ∧ (later calm 60000000).isDue .minuteTimerExpiry ∧ ¬ (later calm 59999999).isDue .minuteTimerExpiry :=
  ⟨rfl, rfl, (timerDue_eq_false_iff _ _ _).1 (by decide), (timerDue_iff _ _ _).1 (by decide),
    (timerDue_eq_false_iff _ _ _).1 (by decide)⟩

theorem witness_EveryCommandCompletes :
    (∀ r, Instr.idleTimerExpiry ≠ .reset r) ∧ ∃ t, exec .idleTimerExpiry (heldBy 9 2 4 []) = .next t :=
  ⟨fun _ h => (by cases h), _, rfl⟩

theorem witness_RolesApart :
    (ofSource .busPowerAppears = true ∧ ∃ t, exec .busPowerAppears source = .next t ∧ t.wp ≠ source.wp)
      ∧ (ofDesk (.hostDeviceConnect 1) = true ∧ ∃ t, exec (.hostDeviceConnect 1) calm = .next t) :=
  ⟨⟨rfl, _, rfl, by decide⟩, rfl, _, rfl⟩

theorem witness_OnlyResetUndoesTheStart :
    (calm.sa.start = .serving ∧ calm.sa.imageOk = true ∧ calm.sa.fabricUp = true ∧ calm.sa.serving = true
        ∧ calm.sa.start ≠ .reading ∧ ∃ t, exec .linkUp calm = .next t)
      ∧ (State.reset.enterHalted.sa.start = .halted ∧ ∃ t, exec .linkUp State.reset.enterHalted = .next t) :=
  ⟨⟨rfl, rfl, rfl, rfl, by decide, _, rfl⟩, rfl, _, rfl⟩

theorem witness_LatchedBitsStay :
    (calm.latch .txDrop).ii.snapshotsOk ∧ ∃ t, exec .linkUp (calm.latch .txDrop) = .next t :=
  ⟨by unfold II.snapshotsOk; decide, _, rfl⟩

theorem witness_OnlyTheHolderReachesTheWorkstation :
    let s := inputAt none 5 4 0
    s.servingAs .source = true ∧ takes s .ca .input { msg .input 5 .desk ([4] ++ zeros 15) with seq := 0 } = true
      ∧ ∀ h ∈ s.ca.slot, h.desk ≠ 5 := by decide

theorem witness_InputGoesToHeldSources :
    holding.fu.recordsOk ∧ ∃ t, exec .inputIntervalExpiry (later holding 1000) = .next t ∧ holding.fp.class1 = []
      ∧ t.fp.class1.length = 1 := by
  refine ⟨?_, _, rfl, rfl, by decide⟩
  simp [FU.recordsOk, SrcRec.ok, holding, desk, recordIn, newRecord, FU.reset, State.setFU, State.recomputeHeads,
    State.recomputeField, State.placeAll, State.setHU, State.setCP, State.setSR, State.setII]

theorem witness_AttentionKept : calm.AttnRule ∧ (calm.latch .txDrop).AttnRule ∧ ∃ t, step calm = .next t := by
  refine ⟨⟨⟨by decide +kernel, ?_⟩, by decide +kernel⟩, ⟨⟨fun _ => .inr ⟨0, by decide +kernel, by decide +kernel⟩, by decide +kernel⟩, by decide +kernel⟩, _, rfl⟩
  rintro (h | ⟨m, h, h'⟩)
  · exact absurd h (by decide +kernel)
  · exact absurd (by decide +kernel : calm.sa.latched = 0) (fun h0 => h' (by rw [h0]; simp))

theorem witness_BoundsKept :
    calm.sa.stagesMatch = true ∧ calm.fp.bounded = true ∧ calm.storesWf = true ∧ calm.ts.withinDepth = true
      ∧ (∃ t, step calm = .next t) ∧ FP.bounded { calm.fp with
        class0 := List.replicate 16 (.attnClear 17), class2 := [.presence] ++ List.replicate 3 (.frameClose 0 0 0 ⟨1, 1⟩ 0) }
        = true := by
  refine ⟨?_, ?_, ?_, ?_, ⟨_, rfl⟩, ?_⟩ <;> decide

theorem witness_WorkstationKept :
    WP.inRange { WP.reset with x := 32767, wheel := -32768, queue := [⟨⟨0, [5]⟩, 0, false⟩, ⟨⟨0, [6]⟩, 0, true⟩] } = true
      ∧ source.wp.inRange = true ∧ ∃ t, step source = .next t := ⟨by decide +kernel, by decide +kernel, _, rfl⟩

theorem witness_ArbiterTablesKept :
    (heldBy 9 2 4 [⟨5, 2, 12, 1⟩, ⟨14, 1, 3, 2⟩, ⟨21, 1, 8, 4⟩, ⟨30, 1, 2, 5⟩]).ca.tablesOk
      ∧ ∃ t, step (heldBy 9 2 4 []) = .next t := by
  refine ⟨⟨by decide, by decide, by decide, ?_, by decide, by decide, by decide, by decide⟩, _, rfl⟩
  rintro h hh
  cases hh
  decide

theorem witness_PointerKept :
    calm.PointerRule ∧ calm.cp.inRange = true ∧ calm.servingAs .desk = true ∧ ∃ t, step calm = .next t :=
  ⟨by unfold State.PointerRule; decide, by decide, by decide, _, rfl⟩

theorem witness_DeskTablesKept : calm.TablesRule ∧ ∃ t, step calm = .next t := ⟨calm_tables, _, rfl⟩

theorem witness_DerivedKept : calm.TablesRule ∧ calm.DerivedRule ∧ ∃ t, step calm = .next t :=
  ⟨calm_tables, by unfold State.DerivedRule; decide, _, rfl⟩

theorem witness_RecordsKept : calm.fu.recordsOk ∧ ∃ t, step calm = .next t := by
  refine ⟨?_, _, rfl⟩
  simp [FU.recordsOk, SrcRec.ok, calm, desk, recordIn, newRecord, FU.reset, State.setFU, State.recomputeHeads,
    State.recomputeField, State.placeAll, State.setHU, State.setCP, State.setSR, State.setII]

theorem witness_SnapshotsKept : calm.ii.snapshotsOk ∧ calm.ii.timersOk ∧ ∃ t, step calm = .next t :=
  ⟨by unfold II.snapshotsOk; decide, by unfold II.timersOk; decide, _, rfl⟩

theorem witness_BlankKept : calm.TablesRule ∧ calm.BlankRule ∧ ∃ t, step calm = .next t :=
  ⟨calm_tables, by unfold State.BlankRule; decide, _, rfl⟩

/-- Source 17 at frame 1 of a LOCKED channel 0, whose last tile row is written in part, with two dirty tiles of different
ages. -/
def tiled : State :=
  let s := channelAt { locked with row := some 29, frame := 1, line := 471 }
  s.setTS { s.ts with ch := ⟨{ TsChannel.reset with
    sigs := List.replicate 1200 none, dirty := [⟨⟨3, 0⟩, 0⟩, ⟨⟨2, 0⟩, 1⟩], cursor := ⟨39, 29⟩ }, TsChannel.reset⟩ }

theorem witness_TileSetsKept :
    tiled.TilesRule ∧ (∀ i, agesInOrder (tiled.cu.ch.get i).frame (tiled.ts.ch.get i).dirty)
      ∧ (∀ i, ∀ d ∈ (tiled.ts.ch.get i).dirty, d.wait (tiled.cu.ch.get i).frame ≠ 4294967295)
      ∧ ∃ t, step tiled = .next t := by
  refine ⟨?_, ?_, by decide, _, rfl⟩
  · intro i
    match i with
    | 0 =>
      refine ⟨fun _ => ⟨⟨640, 480, 525, 16667⟩, rfl, by decide, ⟨by decide, fun _ _ => rfl, ?_⟩, by decide +kernel,
        by decide, by decide +kernel, by decide, by decide +kernel⟩, fun h => absurd rfl h⟩
      rintro r ⟨⟩
      decide
    | 1 => exact ⟨fun h => absurd h (by decide), fun _ => ⟨rfl, rfl, rfl⟩⟩
  · intro i
    match i with
    | 0 => unfold agesInOrder; decide
    | 1 => exact .nil

/-- An image of a role and body, as a flash holds it (13, THE CONFIGURATION IMAGE). -/
def image (r : Role) (b : List Byte) : List Byte :=
  bytes32 0x50453432 ++ [byteOf (roleCode r), 0] ++ bytes16 b.length ++ bytes32 (crc32 b).toNat ++ b

/-- A desk's body: station 5, one mode of 640 × 480, head 0 in use and head 1 as given (R191). -/
def deskBody (head1 : Byte) : List Byte :=
  bytes16 5 ++ bytes16 0x88B5 ++ zeros 4
    ++ (bytes16 640 ++ bytes16 480 ++ bytes16 16 ++ bytes16 96 ++ bytes16 48 ++ bytes16 10 ++ bytes16 2 ++ bytes16 33
      ++ [1, 1, 1, 1]) ++ zeros 140
    ++ ([0, 0, 0, 0, 0] ++ [head1, 0, 0, 0, 0] ++ [255, 0, 0, 0, 0] ++ [255, 0, 0, 0, 0])
    ++ [0, 17, 0] ++ zeros 93 ++ [1] ++ [4, 12, 40, 16, 24, 40, 64] ++ [8] ++ [0, 0x47] ++ [0, 0, 1] ++ zeros 20 ++ [4]
    ++ zeros 82 ++ [1, 1] ++ zeros 6 ++ [0] ++ [1]

/-- A source's body: station 17, one permit (R191). -/
def sourceBody : List Byte :=
  bytes16 17 ++ bytes16 0x88B5 ++ zeros 4 ++ [0, 5, 2] ++ zeros 45 ++ [10, 30] ++ zeros 8 ++ bytes16 1000
    ++ bytes32 8192 ++ [2]

/-- Byte `i` of a number's low byte is its value below 256. -/
theorem byteOf_toNat (n : Nat) : (byteOf n).toNat = n % 256 := by simp [byteOf]

/-- An image of a body of its role's length passes the header and CRC checks. -/
theorem imageBody_image (r : Role) (b : List Byte) (h : b.length = bodyBytes r) : imageBody r (image r b) = some b := by
  have hl : (image r b).length = 12 + bodyBytes r := by simp [image, bytes32, bytes16, h]; omega
  have hf : flashBytes (image r b) (12 + bodyBytes r) = image r b := by simp [flashBytes, ← hl]
  have hd : (image r b).drop 12 = b := by simp [image, bytes32, bytes16]
  have hc : (crc32 b).toNat < 4294967296 := (crc32 b).isLt
  have hb : bodyBytes r < 65536 ∧ roleCode r < 256 := by cases r <;> decide
  unfold imageBody
  simp only [hf, hd]
  rw [if_pos]
  simp [image, bytes32, bytes16, word32, word16, byteAt, Config.imageMagic, byteOf_toNat, h]
  omega

/-- A flash whose magic is wrong holds no image. -/
theorem imageBody_none (r : Role) (f : List Byte) (h : word32 (flashBytes f (12 + bodyBytes r)) 0 ≠ Config.imageMagic) :
    imageBody r f = none := by simp [imageBody, h]

theorem witness_ImageRefused :
    State.reset.sa.start = .reading ∧ imageBody .desk [] = none
      ∧ imageBody .source (image .source (zeros 73)) = some (zeros 73) ∧ sourceOk (zeros 73) = false
      ∧ imageBody .desk (image .desk (zeros 411)) = some (zeros 411) ∧ deskOk (zeros 411) = false :=
  ⟨rfl, imageBody_none _ _ (by decide +kernel),
    imageBody_image _ _ List.length_replicate, by decide +kernel, imageBody_image _ _ List.length_replicate,
    by decide +kernel⟩

theorem witness_DeskImageAccepted :
    imageBody .desk (image .desk (deskBody 255)) = some (deskBody 255) ∧ deskOk (deskBody 255) = true
      ∧ lowestValid (readHeads (deskBody 255)) = some 0 ∧ anyInvalid (readHeads (deskBody 255)) = false
      ∧ imageBody .desk (image .desk (deskBody 8)) = some (deskBody 8) ∧ deskOk (deskBody 8) = true
      ∧ lowestValid (readHeads (deskBody 8)) = some 0 ∧ anyInvalid (readHeads (deskBody 8)) = true
      ∧ State.reset.role = .desk
      -- both kinds of lead, a head assigned and one that is not, a VALID head and one that is not
      ∧ byteAt (deskBody 8) 293 = 0
      ∧ (let b := ((deskBody 8).set 293 1).set 294 4
         imageBody .desk (image .desk b) = some b ∧ deskOk b = true ∧ lowestValid (readHeads b) = some 0)
      ∧ word16 (deskBody 8) 188 = 17 ∧ word16 (deskBody 8) 191 = 0
      ∧ ((readHeads (deskBody 8)).get 0).validity = .valid ∧ ((readHeads (deskBody 8)).get 1).validity ≠ .valid :=
  ⟨imageBody_image _ _ (by decide +kernel), by decide +kernel, by decide +kernel, by decide +kernel,
    imageBody_image _ _ (by decide +kernel), by decide +kernel, by decide +kernel,
    by decide +kernel, rfl, by decide +kernel,
    ⟨imageBody_image _ _ (by decide +kernel), by decide +kernel, by decide +kernel⟩, by decide +kernel,
    by decide +kernel, by decide +kernel, by decide +kernel⟩

theorem witness_SourceImageAccepted :
    imageBody .source (image .source sourceBody) = some sourceBody ∧ sourceOk sourceBody = true :=
  ⟨imageBody_image _ _ (by decide +kernel), by decide +kernel⟩

/-- A serving endpoint with its link DOWN. -/
def downLink : State := calm.setFP { calm.fp with linkUp := false }

/-- An endpoint that listens, its link as given. -/
def listening (r : Role) (up : Bool) (l : Timer) : State :=
  (((endpoint r 17).setSA { SA.reset with start := .listening, imageOk := true, listen := l }).setFP
    { FP.reset with own := 17, typeCode := 0x88B5, started := true, linkUp := up })

theorem witness_LinkAndPresenceTimer :
    ((listening .desk false none).fp.started = true ∧ (listening .desk false none).fp.linkUp = false
        ∧ (listening .desk false none).sa.start = .listening ∧ (listening .desk false none).sa.listen = none
        ∧ (listening .desk false (some 7)).sa.listen = some 7)
      ∧ (downLink.fp.started = true ∧ downLink.fp.linkUp = false ∧ downLink.sa.start = .serving)
      ∧ calm.fp.linkUp = true
      ∧ (let s := later (calm.setPU ⟨some 0⟩) 250000
         s.pu.timer = some 0 ∧ 250000 ≤ (s.now - 0).toNat)
      -- a PRESENCE asked for: one entry already, room, and a full class; a FRAME-CLOSE with room and without
      ∧ Out2.presence ∈ calm.askPresence.fp.class2 ∧ (Out2.presence ∉ calm.fp.class2 ∧ calm.fp.class2.length < 4)
      ∧ (let l : List Out2 := List.replicate 4 (.frameClose 0 0 0 ⟨1, 1⟩ 0)
         Out2.presence ∉ l ∧ l = List.replicate 3 (.frameClose 0 0 0 ⟨1, 1⟩ 0) ++ [.frameClose 0 0 0 ⟨1, 1⟩ 0]
           ∧ 4 ≤ (calm.setFP { calm.fp with class2 := l }).fp.class2.length)
      -- class 0 with room and without
      ∧ (calm.setFP { calm.fp with class0 := List.replicate 15 (.attnClear 17) }).fp.class0.length < 16
      ∧ 16 ≤ (calm.setFP { calm.fp with class0 := List.replicate 16 (.attnClear 17) }).fp.class0.length := by decide

theorem witness_ServingBegins :
    (let s := later (listening .desk true (some 0)) 1000000
     s.sa.start = .listening ∧ s.sa.listen = some 0 ∧ 1000000 ≤ (s.now - 0).toNat ∧ s.role = .desk ∧ s.NoTables
       ∧ s.fp.linkUp = true ∧ s.fp.class2 = [] ∧ s.fu.autoRequest = false)
      ∧ (let s := later (listening .source true (some 0)) 1000000
         s.sa.start = .listening ∧ s.sa.listen = some 0 ∧ 1000000 ≤ (s.now - 0).toNat ∧ s.role = .source
           ∧ s.fp.linkUp = true ∧ s.fp.class2 = [] ∧ s.wp.vbus = false
           ∧ (s.setWP { s.wp with vbus := true }).wp.vbus = true) := by
  unfold State.NoTables; decide

/-- A frame to desk 5 that passes its checks: LAMPS of source 17. -/
def lampsFrame (target : Nat) : List Byte :=
  buildFrame 17 0x88B5 .source (endpointAddress 5) .lamps target 0 0 [2] ++ zeros 4

/-- A PRESENCE frame of a station in a role. -/
def presenceFrame (st : Nat) (r : Role) (p : List Byte) : List Byte :=
  buildFrame st 0x88B5 r allAddress .presence 0 0 0 p ++ zeros 4

/-- The calm desk with a buffer that holds `n` bytes in one message. -/
def fullBuffer (n : Nat) : State :=
  calm.setFP { calm.fp with rx := [⟨{ msg .lamps 17 .source [] with payload := List.replicate (n - 16) 0 }, [.fu]⟩] }

theorem fullBuffer_held (n : Nat) (h : 16 ≤ n) : (fullBuffer n).fp.rxHeld = n := by
  simp [fullBuffer, State.setFP, FP.rxHeld, RxMsg.size, msg]; omega

theorem witness_FrameReceivedResult :
    -- a stopped port, a DOWN link, a failing check
    State.reset.fp.started = false ∧ downLink.fp.linkUp = false
      ∧ framePasses 5 0x88B5 [stream] false (lampsFrame 5) = false
      -- a frame that passes, malformed and well formed
      ∧ (calm.fp.started = true ∧ calm.fp.linkUp = true ∧ calm.fp.own = 5 ∧ calm.fp.typeCode = 0x88B5)
      ∧ framePasses 5 0x88B5 calm.fp.subs true (lampsFrame 6) = true ∧ readEnvelope 5 (lampsFrame 6) = none
      ∧ framePasses 5 0x88B5 calm.fp.subs true (lampsFrame 5) = true
      ∧ readEnvelope 5 (lampsFrame 5) = some { msg .lamps 17 .source [2] with seq := 0 }
      ∧ ({ msg .lamps 17 .source [2] with seq := 0 } : RxMsg).size = 17
      -- a clash while listening and while serving
      ∧ (framePasses 17 0x88B5 [] true (presenceFrame 17 .desk (zeros 19)) = true
          ∧ readEnvelope 17 (presenceFrame 17 .desk (zeros 19)) = some { msg .presence 17 .desk (zeros 19) with seq := 0 }
          ∧ (listening .desk true none).sa.start = .listening ∧ (listening .desk true none).fp.own = 17
          ∧ source.fp.own = 17 ∧ source.sa.start ≠ .listening)
      -- serving: a bad PRESENCE, a good one without a taker, a message with one
      ∧ presenceOk .desk (zeros 19) = false ∧ presenceOk .desk (zeros 5 ++ [1] ++ zeros 13) = true
      ∧ calm.takersOf (msg .presence 9 .desk (zeros 5 ++ [1] ++ zeros 13)) = []
      ∧ calm.takersOf (msg .lamps 17 .source [2]) = [.fu] ∧ calm.sa.start = .serving := by decide +kernel

/-- The two sides of the receive buffer's bound, for the message of 17 bytes above. -/
theorem witness_FrameReceivedResult_buffer :
    262144 < (fullBuffer 262128).fp.rxHeld + 17 ∧ (fullBuffer 262127).fp.rxHeld + 17 ≤ 262144 := by
  rw [fullBuffer_held _ (by decide), fullBuffer_held _ (by decide)]; decide

theorem witness_ArbiterTakesLowestClass :
    downLink.fp.linkUp = false ∧ source.servingAs .desk = false ∧ source.fp.linkUp = true
      ∧ (∃ m r, (source.hand0 (.attnClear 5)).fp.class0 = m :: r)
      ∧ (∃ m r, (calm.hand1 ⟨17, 0, 0, .released, 0, none, 0⟩).fp.class1 = m :: r)
      ∧ (calm.hand1 ⟨17, 0, 0, .released, 0, none, 0⟩).fp.class0 = []
      ∧ (∃ r, calm.askPresence.fp.class2 = .presence :: r) ∧ calm.askPresence.fp.class0 = []
      ∧ calm.askPresence.fp.class1 = []
      ∧ (∃ r, (source.handFrameClose (.frameClose 1 2 3 ⟨640, 480⟩ 4)).fp.class2 = .frameClose 1 2 3 ⟨640, 480⟩ 4 :: r)
      ∧ (∃ m, (source.handTile ⟨0, 1, .fill, 0, 0, 0, [1, 2, 3]⟩).fp.class3 = some m) :=
  ⟨rfl, rfl, rfl, ⟨_, _, rfl⟩, ⟨_, _, rfl⟩, rfl, ⟨_, rfl⟩, rfl, rfl, ⟨_, rfl⟩, _, rfl⟩

/-- A source's PRESENCE from desk 5 that lists streams of this source by their channels. -/
def viewing (v : List Viewer) (l : List Nat) : State :=
  waiting (source.setCA { source.ca with viewers := v }) .ca (msg .presence 5 .desk
    (zeros 5 ++ [1, byteOf l.length] ++ padTo 12 (l.flatMap fun c => [0, 17, byteOf c])))

theorem witness_ViewerHeard :
    (source.servingAs .source = true)
      -- no channel listed; channel 1 listed: kept, gained, new, and with a full table
      ∧ (takes (viewing [] []) .ca .presence (msg .presence 5 .desk (zeros 5 ++ [1, 0] ++ zeros 12)) = true)
      ∧ presenceStreams (zeros 5 ++ [1, 0] ++ zeros 12) = []
      ∧ presenceStreams (zeros 5 ++ [1, 1] ++ padTo 12 [0, 17, 1]) = [⟨17, 1⟩]
      ∧ (∀ c : Fin 2, (2 : Channels).getLsbD c.val = true ↔ (⟨17, c⟩ : Stream) ∈ [(⟨17, 1⟩ : Stream)])
      ∧ (∀ c : Fin 2, (0 : Channels).getLsbD c.val = true ↔ (⟨17, c⟩ : Stream) ∈ ([] : List Stream))
      ∧ ((viewing [⟨5, 3, 0⟩] [1]).ca.viewers.find? (fun v => v.desk = 5) = some ⟨5, 3, 0⟩ ∧ (2 : Channels) &&& ~~~3 = 0)
      ∧ ((viewing [⟨5, 1, 0⟩] [1]).ca.viewers.find? (fun v => v.desk = 5) = some ⟨5, 1, 0⟩ ∧ (2 : Channels) &&& ~~~1 ≠ 0)
      ∧ (∀ v ∈ (viewing (List.replicate 31 ⟨6, 1, 0⟩) [1]).ca.viewers, v.desk ≠ 5)
      ∧ (viewing (List.replicate 31 ⟨6, 1, 0⟩) [1]).ca.viewers.length < 32
      ∧ 32 ≤ (viewing (List.replicate 32 ⟨6, 1, 0⟩) [1]).ca.viewers.length := by decide +kernel

/-- A CONTROL-REQUEST of a desk at a source in a state. -/
def asks (s : State) (d : Nat) (i w : Byte) : State := waiting s .ca (msg .controlRequest d .desk [i, w])

theorem witness_RequestAnswered :
    takes (asks source 5 1 4) .ca .controlRequest (msg .controlRequest 5 .desk [1, 4]) = true
      ∧ 3 < byteAt [1, 4] 1 ∧ byteAt [1, 3] 1 ≤ 3
      ∧ source.ca.rank 40 = 0 ∧ source.ca.rank 5 ≠ 0
      ∧ (∃ h, (heldBy 5 2 4 []).ca.slot = some h ∧ h.desk = 5)
      ∧ ((heldBy 9 2 4 [⟨5, 2, 12, 1⟩]).ca.holds 5 = false ∧ (heldBy 9 2 4 [⟨5, 2, 12, 1⟩]).ca.waits 5 = true)
      ∧ (source.ca.slot = none ∧ source.ca.waits 5 = false)
      ∧ (source.fp.linkUp = true ∧ source.fp.class0.length ≤ 14 ∧ source.wp.port = .detached
          ∧ (source.setWP source.wp.busReset).wp.port ≠ .detached) :=
  ⟨by decide, by decide, by decide, by decide, by decide, ⟨_, rfl, rfl⟩, by decide, by decide, by decide⟩

/-- Four waiting desks of which the last has a rank. -/
def fourWaiting (r : Nat) : List WaitEntry := [⟨6, 3, 12, 1⟩, ⟨14, 3, 3, 2⟩, ⟨21, 3, 8, 4⟩] ++ [⟨30, r, 2, 5⟩]

theorem witness_RequestTakesOver :
    -- preemption: room, a displaced tail, no room
    ((heldBy 9 2 4 []).ca.rank 12 = 3 ∧ (heldBy 9 2 4 []).ca.waits 12 = false ∧ (heldBy 9 2 4 []).ca.wait.length < 4)
      ∧ (4 ≤ (heldBy 9 2 4 (fourWaiting 1)).ca.wait.length ∧ (heldBy 9 2 4 (fourWaiting 1)).ca.waits 12 = false)
      ∧ (4 ≤ (heldBy 9 2 4 (fourWaiting 2)).ca.wait.length ∧ (heldBy 9 2 4 (fourWaiting 2)).ca.waits 12 = false)
      ∧ takes (asks (heldBy 9 2 4 (fourWaiting 2)) 12 7 0) .ca .controlRequest (msg .controlRequest 12 .desk [7, 0]) = true
      -- the takeover of an idle holder of the same rank, and a holder that is not idle
      ∧ (let s := (heldBy 9 2 4 []).setCA { (heldBy 9 2 4 []).ca with idleExpired := true }
         s.ca.rank 5 = 2 ∧ s.ca.waits 5 = false ∧ s.ca.idleExpired = true)
      ∧ (let s := (heldBy 9 2 4 []).setCA { (heldBy 9 2 4 []).ca with idle := some 0 }
         s.ca.rank 5 = 2 ∧ s.ca.idleExpired = false ∧ ranFor 10000000 s.ca.idle (1000000 * s.ca.grace)
           ∧ ¬ ranFor 9999999 s.ca.idle (1000000 * s.ca.grace))
      -- joining: a lower rank, a displaced tail, a full list
      ∧ ((heldBy 9 2 4 (fourWaiting 1)).ca.rank 5 = 2 ∧ (heldBy 9 2 4 (fourWaiting 1)).ca.waits 5 = false)
      ∧ ((heldBy 9 2 4 (fourWaiting 1)).ca.rank 21 = 1 ∧ (heldBy 9 2 4 []).ca.waits 21 = false)
      ∧ ((heldBy 9 2 4 (fourWaiting 2)).ca.waits 5 = false ∧ (2 : Nat) ≤ 2) := by
  simp only [← timerDue_iff]; decide

theorem witness_SlotEmptied :
    (let s := (heldBy 9 2 4 [⟨5, 2, 12, 1⟩]).setCA { (heldBy 9 2 4 [⟨5, 2, 12, 1⟩]).ca with viewers := [⟨5, 1, 0⟩, ⟨9, 1, 0⟩] }
     s.ca.wait.filter (fun e => s.ca.views e.desk) = [⟨5, 2, 12, 1⟩] ∧ s.ca.views 9 = true ∧ s.ca.holds 9 = true
       ∧ s.ca.views 5 = true ∧ s.ca.holds 5 = false
       ∧ takes (waiting s .ca (msg .controlRelease 9 .desk [4])) .ca .controlRelease (msg .controlRelease 9 .desk [4])
         = true
       -- viewers heard 1000 ms ago
       ∧ (∃ v ∈ s.ca.viewers, v.desk = 9 ∧ 1000000 ≤ ((1000000 : Time) - v.heard).toNat)
       ∧ (∃ v ∈ s.ca.viewers, v.desk = 5 ∧ 1000000 ≤ ((1000000 : Time) - v.heard).toNat))
      ∧ (heldBy 9 2 4 [⟨5, 2, 12, 1⟩]).ca.wait.filter (fun e => (heldBy 9 2 4 [⟨5, 2, 12, 1⟩]).ca.views e.desk) = []
      ∧ (heldBy 9 2 4 []).servingAs .source = true := by decide

theorem witness_InputAdmitted :
    let i : InputContent := ⟨4, .released, 0, none, 0⟩
    let f (b : Byte) : List Byte := [4] ++ zeros 8 ++ [1, b, 0, 9, 0, 8, 0]
    readInput (f 2) = none ∧ readInput ([4] ++ zeros 15) = some i
      ∧ readInput (f 1) = some { i with field := some ⟨1, 9, 8⟩ }
      ∧ takes (inputAt none 9 4 5) .ca .input (msg .input 9 .desk ([4] ++ zeros 15)) = true
      ∧ (inputAt none 9 4 5).ca.slot = some { newSlot 9 2 4 0 with accepted := none }
      -- accepted at the distances 1 and 32767, discarded at 0, 32768 and under another id
      ∧ ((5 : BitVec 16) - 4).toNat = 1 ∧ ((5 : BitVec 16) - 32774).toNat = 32767
      ∧ ((5 : BitVec 16) - 5).toNat = 0 ∧ ((5 : BitVec 16) - 32773).toNat = 32768 ∧ (4 : Byte) ≠ 3
      -- a detached port and a connected one; the queue empty, with room, and full; a LOCKED channel and one that is not
      ∧ source.wp.port = .detached ∧ source.wp.busReset.port ≠ .detached ∧ source.wp.queue = []
      ∧ (let q : List QueueEntry := List.replicate 30 ⟨⟨0, [5]⟩, 0, false⟩
         (q.length < 32 ∧ 32 ≤ (⟨⟨0, [6]⟩, 0, false⟩ :: ⟨⟨0, [7]⟩, 0, false⟩ :: q).length
           ∧ (⟨0, [7]⟩ : Snapshot) ≠ ⟨0, [6]⟩ ∧ i.snapshot ≠ ⟨0, [7]⟩))
      -- a wake 100 ms after the last
      ∧ (let w : WP := { source.wp with port := .suspended .configured, remoteWake := true, resumeGap := some 0 }
         w.port = .suspended .configured ∧ w.remoteWake = true ∧ (1 : Buttons) ≠ w.buttons
           ∧ w.resumeGap = some 0 ∧ 100000 ≤ ((100000 : Time) - 0).toNat)
      ∧ (let w := source.wp.lockChange 1 (some ⟨640, 480⟩)
         (w.places.get 1).mode = some ⟨640, 480⟩ ∧ w.extent = some ⟨640, 480⟩ ∧ (w.places.get 0).mode = none)
      -- a desk that does not hold, with and without a note
      ∧ (inputAt none 5 4 5).ca.holds 5 = false ∧ (inputAt none 5 4 5).ca.noted 5 = false
      ∧ CA.noted { (inputAt none 5 4 5).ca with notes := [⟨5, 0, some 0⟩] } 5 = true := by decide

theorem witness_ArbiterTimersAndClear :
    takes (waiting (heldBy 9 2 4 []) .ca (msg .attnClear 9 .desk [])) .ca .attnClear (msg .attnClear 9 .desk []) = true
      ∧ (heldBy 9 2 4 []).ca.holds 9 = true ∧ (heldBy 9 2 4 []).ca.holds 5 = false
      ∧ (let s := later (heldBy 9 2 4 [⟨5, 2, 12, 1⟩]) 30000001
         s.ca.wait.find? (fun e => e.desk = 5) = some ⟨5, 2, 12, 1⟩
           ∧ 1000000 * s.ca.waitLife ≤ (s.now - 1).toNat)
      ∧ (let s := later (source.setCA (CA.startIdle source.ca 0)) 10000000
         s.ca.idle = some 0 ∧ 1000000 * s.ca.grace ≤ (s.now - 0).toNat)
      ∧ (let s := later (source.setCA { source.ca with notes := [⟨5, 0, some 0⟩] }) 100000
         s.ca.notes = [⟨5, 0, some 0⟩] ∧ 100000 ≤ (s.now - 0).toNat) := by decide

theorem witness_RefreshResult :
    let k : TsChannel := { TsChannel.reset with dirty := [⟨⟨39, 29⟩, 0⟩] }
    (locked.state = .locked ∧ locked.mode = some ⟨640, 480, 525, 16667⟩ ∧ (k.dirty.map DirtyTile.tile).Nodup
        ∧ ∀ d ∈ k.dirty, d.tile ∈ gridTiles ⟨640, 480⟩)
      ∧ Channel.reset.state ≠ .locked
      ∧ takes (waiting source .ts (msg .repairRequest 5 .desk [])) .ts .repairRequest (msg .repairRequest 5 .desk []) = true
      ∧ source.ts.window = none ∧ source.fullRefresh.ts.window = some 0
      ∧ 500000 ≤ ((later source.fullRefresh 500000).now - 0).toNat
      ∧ source.fullRefresh.ts.refreshPending = false
      ∧ source.fullRefresh.refreshTrigger.ts.refreshPending = true := by decide +kernel

/-- Source 17 with channel 0 LOCKED, row 0 completed, and some dirty tiles and tokens. -/
def ready (d : List DirtyTile) (allowance tokens : Nat) : State :=
  let s := channelAt { locked with completed := [0] }
  s.setTS { s.ts with
    tokens := tokens, ch := ⟨{ TsChannel.reset with dirty := d, allowance := allowance }, TsChannel.reset⟩ }

theorem witness_TileChosen :
    (let s := ready [⟨⟨3, 0⟩, 0⟩] 0 216
     s.tsReady = true ∧ s.tileChoice = some ⟨0, ⟨3, 0⟩, true⟩ ∧ (s.cu.ch.get 0).state = .locked
       ∧ (s.cu.ch.get 0).mode = some ⟨640, 480, 525, 16667⟩
       ∧ 8 * (24 + (s.codeTile ⟨0, ⟨3, 0⟩, true⟩ ⟨640, 480⟩).payload.length) = s.ts.tokens)
      ∧ (let s := ready [] 1 215
         s.tileChoice = some ⟨0, ⟨0, 0⟩, false⟩
           ∧ s.ts.tokens < 8 * (24 + (s.codeTile ⟨0, ⟨0, 0⟩, false⟩ ⟨640, 480⟩).payload.length))
      ∧ calm.tsReady = false ∧ (ready [] 0 0).tileChoice = none
      -- equal waits, and the greater wait on channel 1
      ∧ (let c : Channel := { locked with completed := [0], frame := 9 }
         let k (a : BitVec 32) : TsChannel := { TsChannel.reset with dirty := [⟨⟨3, 0⟩, a⟩] }
         dirtyCandidate c (k 7) = some ⟨⟨3, 0⟩, 7⟩ ∧ (c.frame - 7).toNat ≤ (c.frame - 7).toNat
           ∧ (c.frame - 7).toNat < (c.frame - 6).toNat
           -- one dirty candidate, behind a tile whose row is being written; and none
           ∧ dirtyCandidate c { k 7 with dirty := [⟨⟨0, 1⟩, 6⟩, ⟨⟨3, 0⟩, 7⟩] } = some ⟨⟨3, 0⟩, 7⟩
           ∧ dirtyCandidate c { k 7 with dirty := [⟨⟨0, 1⟩, 6⟩] } = none
           ∧ rollingCandidate c { k 7 with allowance := 1 } = some ⟨0, 0⟩ ∧ rollingCandidate c (k 7) = none) := by
  decide +kernel

theorem witness_FrameSyncResult :
    let m : Meas := ⟨640, 480, 525, 16667⟩
    -- one frame sync at 0, the next at `u`: the counts of a MEASURING channel, the lines taken of a LOCKED one
    let measuring : Channel := { Channel.reset with state := .measuring, sync := some 0 }
    let next (c : Channel) (u : Nat) : Option Meas := c.measurement (frameOf 480) (later source u).now
    source.servingAs .source = true ∧ (source.cu.ch.get 0).state = .noSignal
      ∧ measuring.measurement ⟨[640, 639], 500⟩ 16667 = none ∧ next measuring 16667 = some m
      ∧ measuring.measurement (frameOf 479) 16667 = some ⟨640, 479, 524, 16667⟩
      ∧ next { locked with sync := some 0, line := 480 } 16667 = some m
      ∧ next { locked with sync := some 0, line := 479 } 16667 = some { m with h := 479 }
      ∧ next { locked with sync := some 0 } 16667 = some { m with w := 0, h := 0 }
      -- the longest frame that is measured, and one that is longer
      ∧ next measuring 100000 = some { m with period := 100000 } ∧ measuring.syncOverdue 100000 = false
      ∧ measuring.syncOverdue 100001 = true ∧ timerDue 100001 measuring.sync 100000 = true
      -- measuring: no reference, one that differs, one that agrees at the period's bound, runs below and at 2
      ∧ Channel.reset.ref = none ∧ m.agrees ⟨640, 479, 524, 16667⟩ = false
      ∧ m.agrees { m with period := 16687 } = true ∧ m.agrees { m with period := 16688 } = false
      ∧ (1 + 1 < 3 ∧ 3 ≤ 2 + 1) ∧ m.withinLimits = true ∧ Meas.withinLimits { m with h := 479 } = false
      ∧ (let c : Channel := { locked with state := .unsupported, mode := none, ref := some m }
         c.state = .unsupported ∧ c.ref = some m ∧ m.agrees m = true
           ∧ Meas.agrees ⟨640, 479, 524, 16667⟩ m = false)
      ∧ locked.state = .locked ∧ locked.mode = some m := by decide +kernel

theorem witness_ValidLineResult :
    let c : Channel := { locked with line := 479 }
    (channelAt c).servingAs .source = true ∧ (channelAt c).cu.ch.get 0 = c ∧ c.line < 480
      ∧ (List.replicate 640 (⟨1, 2, 3⟩ : Colour)).length = 640 ∧ (channelAt c).cu.store.wf = true
      ∧ (640 : Nat) ≤ 2560 ∧ (480 : Nat) ≤ 1600
      ∧ (480 : Nat) ≤ ({ c with line := 480 } : Channel).line ∧ (List.replicate 641 (⟨1, 2, 3⟩ : Colour)).length ≠ 640 := by
  decide +kernel

theorem witness_RowsAndSync :
    (tilesAlong 480 = 30 ∧ (29 : Nat) < 30 ∧ tilesAlong 640 = 40
        ∧ (TsChannel.locked TsChannel.reset ⟨640, 480⟩).sigs.length = 40 * 30)
      -- a row's first line, its last line written, and the line before; between frames
      ∧ ({ locked with line := 464 } : Channel).line = 16 * 29 ∧ (480 : Nat) = min (16 * (29 + 1)) 480
      ∧ (479 : Nat) ≠ min (16 * (29 + 1)) 480 ∧ (479 : Nat) ≠ 0 ∧ (locked.line = 0 ∧ 29 + 1 = tilesAlong 480)
      ∧ (let c : Channel := { locked with row := some 29, line := 480 }
         (channelAt c).cu.ch.get 0 = c ∧ c.row = some 29)
      ∧ (let k := TsChannel.locked TsChannel.reset ⟨640, 480⟩
         k.sigs[29 * 40 + 39]? = some none ∧ k.sigs[29 * 40 + 40]? = none)
      ∧ ({ locked with sync := some 0 } : Channel).sync = some 0 ∧ 100000 ≤ ((100000 : Time) - 0).toNat
      ∧ ({ Channel.reset with sync := some 0 } : Channel).state ≠ .locked
      ∧ ({ Channel.reset with state := .unsupported } : Channel).state = .unsupported := by decide +kernel

theorem witness_BusPowerAndReset :
    (source.servingAs .source = true ∧ source.wp.port = .detached ∧ source.ca.slot = none)
      ∧ (let s := heldBy 9 2 4 []
         s.servingAs .source = true ∧ s.wp.port = .detached ∧ (∃ h, s.ca.slot = some h) ∧ s.fp.linkUp = true
           ∧ s.fp.class0.length < 16)
      ∧ (let s := (heldBy 9 2 4 []).setWP { source.wp.busReset with lamps := 2 }
         s.wp.port ≠ .detached ∧ (∃ h, s.ca.slot = some h) ∧ s.fp.linkUp = true ∧ s.fp.class0.length < 16
           ∧ s.wp.lamps ≠ 0) :=
  ⟨⟨rfl, rfl, rfl⟩, ⟨rfl, rfl, ⟨_, rfl⟩, rfl, by decide⟩, by decide, ⟨_, rfl⟩, rfl, by decide, by decide⟩

/-- Source 17 with its workstation port in a state. -/
def portIn (p : PortState) : State := (heldBy 9 2 4 []).setWP { WP.reset with port := p, vbus := true }

theorem witness_WorkstationRequests :
    (portIn .detached).servingAs .source = true
      ∧ (portIn (.connected .default)).wp.port = .connected .default
      ∧ (1 ≤ (127 : BitVec 16).toNat ∧ (127 : BitVec 16).toNat ≤ 127) ∧ 127 < (128 : BitVec 16).toNat
      ∧ (portIn (.connected .addressed)).wp.port ≠ .detached ∧ (5 : BitVec 16) ≠ 0
      ∧ (portIn (.connected .configured)).wp.port ≠ .connected .default
      ∧ ((2 : Byte).setWidth 5 ≠ (portIn (.connected .configured)).wp.lamps)
      ∧ ((0x20 : Byte).setWidth 5 = (portIn (.connected .configured)).wp.lamps)
      ∧ (portIn (.connected .configured)).ca.slot.isSome = true ∧ source.ca.slot = none
      ∧ 1 < (2 : BitVec 16).toNat ∧ (∃ b, (portIn (.suspended .configured)).wp.port = .suspended b) :=
  ⟨rfl, rfl, by decide, by decide, by decide, by decide, by decide, by decide, by decide, rfl, rfl, by decide, _, rfl⟩

theorem witness_PollsAnswered :
    let s := portIn (.connected .configured)
    s.servingAs .source = true ∧ s.wp.port = .connected .configured ∧ s.wp.queue = []
      ∧ (∃ e r, (s.setWP (s.wp.offer ⟨2, []⟩ 0)).wp.queue = e :: r)
      ∧ ({ s.wp with delivered := some s.wp.pointerNow } : WP).delivered = some ⟨s.wp.x, s.wp.y, s.wp.buttons⟩
      ∧ s.wp.wheel = 0 ∧ s.wp.delivered ≠ some ⟨s.wp.x, s.wp.y, s.wp.buttons⟩ :=
  ⟨rfl, rfl, rfl, ⟨_, _, rfl⟩, rfl, rfl, by decide⟩

theorem witness_OverrunAndSuspend :
    (let s := later (source.setWP { source.wp with
       queue := [⟨.released, 0, true⟩, ⟨⟨2, []⟩, 0, false⟩, ⟨⟨3, []⟩, 7, false⟩] }) 250001
     s.servingAs .source = true ∧ s.wp.queue = [⟨.released, 0, true⟩] ++ ⟨⟨2, []⟩, 0, false⟩ :: [⟨⟨3, []⟩, 7, false⟩]
       ∧ (∀ d ∈ [(⟨.released, 0, true⟩ : QueueEntry)], d.recovery = true) ∧ 250000 < (s.now - 0).toNat)
      ∧ (portIn (.connected .default)).wp.port = .connected .default
      ∧ (portIn (.suspended .addressed)).wp.port = .suspended .addressed
      ∧ ({ WP.reset with resuming := some 0 } : WP).resuming = some 0 ∧ 10000 ≤ ((10000 : Time) - 0).toNat := by decide

/-- The calm desk with a port's record. -/
def port0 (p : HostPort) : State := calm.putPort 0 p

/-- The record of the calm desk's served port. -/
def served : HostPort := calm.ii.ports.get 0

theorem witness_HostPortStates :
    (calm.ii.ports.get 1).state = .off ∧ (port0 { HostPort.reset with state := .detached }).ii.ports.zero.state = .detached
      ∧ served.state ≠ .off ∧ served.state ≠ .detached ∧ calm.ii.raw = calm.ii.unionKeys
      ∧ (port0 { HostPort.reset with state := .enumerating }).ii.ports.zero.state = .enumerating
      ∧ (∀ j ∈ [(⟨.other, 8⟩ : Interface)], j.kind = .other)
      ∧ ((⟨.bootMouse, 8⟩ : Interface) ∈ [(⟨.other, 8⟩ : Interface), ⟨.bootMouse, 8⟩] ∧ IfaceKind.bootMouse ≠ .other)
      ∧ ((1 : Nat) + 1 < 3 ∧ 3 ≤ (2 : Nat) + 1) := by decide

theorem witness_TransfersResult :
    served.makes .keyboardPoll = true ∧ ({ served with lampFlight := some 1 } : HostPort).makes .lampReport = true
      ∧ ((1 : Nat) + 1 < 3 ∧ 3 ≤ (2 : Nat) + 1) ∧ Transfer.keyboardPoll ≠ .lampReport
      ∧ ({ HostPort.reset with state := .enumerating } : HostPort).state = .enumerating
      ∧ (calm.ii.shown = 0 ∧ (1 : Lamps) ≠ calm.ii.shown ∧ served.lampRetry = none ∧ served.state = .polling
          ∧ served.keyboard.isSome = true)
      ∧ ({ served with lampRetry := some 0 } : HostPort).lampRetry = some 0 ∧ 100000 ≤ ((100000 : Time) - 0).toNat := by
  decide

theorem witness_KeyboardReportTaken :
    served.state = .polling ∧ served.keyboard.isSome = true ∧ (zeros 7).length < 8 ∧ 8 ≤ (zeros 8).length
      ∧ calm.ii.snapshotsOk ∧ calm.ii.hotkey ≠ .command
      ∧ calm.ii.rollsOver 0 ([0, 0] ++ List.replicate 6 1) = true ∧ calm.ii.rollsOver 0 [2, 0, 4, 5, 6, 7, 8, 9] = false
      ∧ calm.hu.blank = false ∧ served.lastReport ≠ some (zeros 8) ∧ calm.hu.tBlank ≠ 0
      ∧ (calm.setHU { calm.hu with blank := true }).hu.blank = true
      -- a rollover report that differs from the last one, one that does not, and T_blank 0
      ∧ (let roll : List Byte := [0, 0] ++ List.replicate 6 1
         served.lastReport ≠ some roll ∧ (port0 { served with lastReport := some roll }).ii.rollsOver 0 roll = true
           ∧ (calm.setHU { calm.hu with tBlank := 0 }).hu.tBlank = 0)
      -- offers: no focus record, one that is not HOLDING, an empty queue, one with room, a full one
      ∧ (calm.setCP { calm.cp with head := none }).focusRecord = none ∧ calm.focusRecord = some (recordIn .idle)
      ∧ (holding.focusRecord = some { recordIn .holding with seq := 9 } ∧ holding.fu.queue = []
          ∧ (recordIn .holding).noted.snapshot = .released ∧ (⟨0, [4]⟩ : Snapshot) ≠ .released)
      ∧ (let q (n : Nat) : List Snapshot := List.replicate n .released ++ [⟨0, [4]⟩]
         (⟨0, [5]⟩ : Snapshot) ≠ ⟨0, [4]⟩ ∧ (q 14).length < 16 ∧ 16 ≤ (q 15).length) := by
  unfold II.snapshotsOk; decide

theorem witness_HotkeyMachine :
    let lead : Snapshot := ⟨0, [0x47]⟩
    let down (h : Hotkey) (tap : Bool) : State :=
      calm.setII { calm.ii with
        ports := calm.ii.ports.set 0 { served with keys := lead }, raw := lead, passed := lead, hotkey := h, tap := tap }
    let next (s : State) (b : List Byte) : Snapshot :=
      II.unionKeys { s.ii with ports := s.ii.ports.set 0 { s.ii.ports.get 0 with keys := reportSnapshot b } }
    -- the lead released, with and without the tap, in NORMAL and in LEAD-SEEN
    (next (down .normal true) (zeros 8) = .released ∧ Snapshot.released ≠ lead ∧ (down .normal false).ii.tap = false
        ∧ (down .leadSeen true).ii.hotkey = .leadSeen)
      -- the lead pressed, and another key
      ∧ (next calm [0, 0, 0x47, 0, 0, 0, 0, 0] = lead ∧ lead = calm.ii.lead.alone ∧ calm.ii.raw = .released)
      ∧ (Snapshot.minus (⟨0, [4]⟩ : Snapshot) .released).minus calm.ii.lead.alone ≠ .released
      -- COMMAND: a release, confine, acknowledge, select, request and release
      ∧ (next (down .command false) (zeros 8)).keys = []
      ∧ (next calm [0, 0, 0x06, 0, 0, 0, 0, 0]).keys = [0x06] ∧ commandOf 0x06 = .confine
      ∧ commandOf 0x04 = .acknowledge ∧ commandOf 0x1E = .select 1 ∧ commandOf 0x60 = .select 8
      ∧ commandOf 0x09 = .request ∧ commandOf 0x15 = .release
      ∧ calm.cp.focusSource = some 17 ∧ calm.fu.record 17 = some (recordIn .idle)
      ∧ (desk (recordIn .asking) liveCtx).fu.record 17 = some (recordIn .asking)
      ∧ (desk (recordIn .queued) liveCtx).fu.record 17 = some (recordIn .queued)
      ∧ (desk (recordIn .holding) liveCtx).fu.record 17 = some (recordIn .holding)
      ∧ (calm.fp.linkUp = true ∧ calm.fp.class0.length < 16 ∧ calm.fp.class1.length < 4)
      ∧ 4 ≤ (calm.setFP { calm.fp with class1 := List.replicate 4 ⟨17, 0, 0, .released, 0, none, 0⟩ }).fp.class1.length
      ∧ (II.leadSeen { calm.ii with leadSeen := some 0 } = some 0 ∧ II.command { calm.ii with command := some 0 } = some 0
          ∧ 500000 ≤ ((500000 : Time) - 0).toNat ∧ 2000000 ≤ ((2000000 : Time) - 0).toNat) := by
  decide +kernel

theorem witness_MouseReportTaken :
    served.state = .polling ∧ served.mouse.isSome = true ∧ (zeros 2).length < 3
      ∧ mouseMotion [1, 0x80, 0x7F] = some ⟨1, -127, 127, 0⟩
      ∧ MouseMotion.isActivity ⟨1, -127, 127, 0⟩ (calm.cp.portButtons.get 0) = true
      ∧ MouseMotion.isActivity ⟨0, 0, 0, 0⟩ (calm.cp.portButtons.get 0) = false
      ∧ calm.hu.blank = false ∧ calm.cp.head = some 0 ∧ 3 ≤ (zeros 3).length
      ∧ (calm.setHU { calm.hu with blank := true }).hu.blank = true
      -- a crossing to a head without an assignment, which changes the focus source
      ∧ (let c : CP := { calm.cp with heads := ⟨head 0 0 640 480, head 640 0 640 480, unused, unused⟩, x := 639 }
         c.focusSource = some 17 ∧ (c.move 0 127 0).head = some 1 ∧ (c.move 0 127 0).focusSource = none) := by decide

theorem witness_PointerMoves :
    (gains.t1 < gains.t2 ∧ gains.t2 < gains.t3)
      ∧ ((pairDesk 1915).heads.get 1).contains 1915 600 = true
      -- inside; crossing right, left, bottom and top; pushing; held
      ∧ (wholePixels 221 = 13 ∧ (1900 : Int) + 13 < 1920)
      ∧ ((pairDesk 1915).neighbour 1 .right 600 = some 2 ∧ (8 : Int) < 0 + (1915 + 13 - 1919))
      ∧ (lDesk.neighbour 1 .left 1300 = some 2 ∧ lDesk.neighbour 0 .bottom 1919 = some 2 ∧ lDesk.neighbour 2 .top 0 = some 0)
      ∧ ((pairDesk 1912).neighbour 1 .right 600 = some 2 ∧ (0 : Int) + (1911 + 16 - 1919) ≤ 8)
      ∧ ((0 : Int) < 1920 - (1920 - 3) ∧ (0 : Int) + 3 ≤ (lDesk.resist : Int) ∧ lDesk.neighbour 1 .left 1079 = some 0
          ∧ (0 : Int) < 1079 + 3 - (0 + 1080 - 1) ∧ (0 : Int) < 1080 - (1080 - 3))
      ∧ (lDesk.neighbour 1 .right 100 = none ∧ lDesk.neighbour 0 .left 5 = none ∧ wholePixels 15 = 0)
      ∧ (lDesk.neighbour 2 .bottom 5 = none ∧ lDesk.neighbour 0 .top 5 = none)
      ∧ ((pairDesk 0).confine = false ∧ (pairDesk 0).buttons = 0)
      -- both axes in one report, at the corner of head 0: x rests, moves inside, pushes up to R_e, or is held; then y
      -- rests, moves inside, pushes, crosses or is held at the column x left
      ∧ (let c : CP := { lDesk with head := some 0, x := 1919, y := 1079 }
         let w (dx dy : Int) : Int × Int :=
           let g := c.gains.choose (max dx.natAbs dy.natAbs)
           (wholePixels (dx * g), wholePixels (dy * g))
         (c.heads.get 0).contains c.x c.y = true ∧ w 0 4 = (0, 4) ∧ w (-4) 4 = (-4, 4) ∧ w 4 (-4) = (4, -4)
           ∧ w 4 4 = (4, 4) ∧ w 1 127 = (4, 508) ∧ (0 : Int) ≤ 1919 - 4 ∧ (0 : Int) ≤ 1079 - 4
           ∧ (c.neighbour 0 .right c.y).isSome = true ∧ (0 : Int) < 1919 + 4 - (0 + 1920 - 1)
           ∧ (26 : Int) + (1919 + 4 - (0 + 1920 - 1)) ≤ c.resist ∧ c.neighbour 0 .bottom 1915 = some 2
           ∧ (0 : Int) < 1079 + 4 - (0 + 1080 - 1) ∧ (0 : Int) + (1079 + 4 - (0 + 1080 - 1)) ≤ c.resist
           ∧ (c.resist : Int) < 0 + (1079 + 508 - (0 + 1080 - 1)))
      -- LEFT and TOP: the corner of head 2, which has a neighbour above and none to its left, and head 1's left edge
      ∧ (let c : CP := { lDesk with head := some 2, x := 0, y := 1080 }
         (c.heads.get 2).contains c.x c.y = true ∧ c.neighbour 2 .left c.y = none ∧ (0 : Int) < 0 - (0 - 4)
           ∧ c.neighbour 2 .top 0 = some 0 ∧ (0 : Int) + (1080 - (1080 - 4)) ≤ c.resist
           ∧ (c.resist : Int) < 0 + (1080 - (1080 - 508)))
      ∧ (let c : CP := { lDesk with head := some 1, x := 1920, y := 0 }
         (c.heads.get 1).contains c.x c.y = true ∧ (c.neighbour 1 .left c.y).isSome = true
           ∧ (0 : Int) < 1920 - (1920 - 4) ∧ (0 : Int) + (1920 - (1920 - 4)) ≤ c.resist
           ∧ c.neighbour 1 .top 1920 = none ∧ (0 : Int) < 0 - (0 - 4)) := by decide

/-- 02, EDGES THAT HOLD THE POINTER, second, third and last line, at a gain of one pixel a count: x held and then y
inside; both axes pushed into one corner; both with confine on. -/
theorem test_both_axes :
    let c : CP := { lDesk with gains := ⟨4, 12, 40, 16, 16, 16, 16⟩ }
    ({ c with x := 4470, y := 100 } : CP).move 1 20 150 = { c with x := 4479, y := 250 }
      ∧ ({ c with head := some 0, x := 1919, y := 1079 } : CP).move 0 20 20
        = { c with head := some 0, x := 1919, y := 1079, push := 20, edge := some .bottom }
      ∧ ({ c with x := 1920, y := 1300, push := 12, edge := some .left, confine := true } : CP).move 1 (-40) 5
        = { c with x := 1920, y := 1305, confine := true } := by decide

/-- A source's PRESENCE at the desk, which names a holder and one waiting station. -/
def presenceAt (r : SrcRec) (d : Nat) (i : Byte) (w : Nat) : State :=
  waiting (desk r liveCtx) .fu (msg .presence 17 .source (zeros 15 ++ bytes16 d ++ [i, 1] ++ padTo 8 (bytes16 w) ++ [0]))

theorem witness_Reconciled :
    let p (d : Nat) (w : Nat) : List Byte := zeros 15 ++ bytes16 d ++ [7, 1] ++ padTo 8 (bytes16 w) ++ [0]
    (∀ st : RecState, (presenceAt (recordIn st) 5 7 9).servingAs .desk = true
        ∧ takes (presenceAt (recordIn st) 5 7 9) .fu .presence (msg .presence 17 .source (p 5 9)) = true
        ∧ (presenceAt (recordIn st) 5 7 9).fu.record 17 = some (recordIn st) ∧ (recordIn st).holdOff = none
        ∧ (recordIn st).state = st)
      ∧ (newRecord 17 1 0).holdOff.isSome = true
      ∧ presenceHolder (p 5 9) = some (5, 7) ∧ 5 ∉ presenceWaiting (p 5 9)
      ∧ presenceHolder (p 9 5) = some (9, 7) ∧ 5 ∈ presenceWaiting (p 9 5) ∧ presenceHolder (p 0 9) = none := by
  refine ⟨?_, ?_⟩
  · intro st; cases st <;> decide
  · decide

theorem witness_RecordMoves :
    holding.fu.recordsOk ∧ holding.fu.record 17 = some { recordIn .holding with seq := 9 }
      ∧ (recordIn .holding).state ≠ .idle ∧ holding.cp.focusSource = some 17
      ∧ (calm.fu.record 17 = some (recordIn .idle) ∧ (recordIn .idle).state ≠ .holding)
      ∧ (calm.setCP { calm.cp with head := none }).cp.focusSource ≠ some 17 :=
  ⟨witness_InputGoesToHeldSources.1, by decide, by decide, by decide, by decide, by decide⟩

theorem witness_VerdictsAndWithdrawals :
    let v (st : RecState) (p : List Byte) : State := waiting (desk (recordIn st) liveCtx) .fu (msg .controlVerdict 17 .source p)
    let w (st : RecState) (p : List Byte) : State :=
      waiting (desk (recordIn st) liveCtx) .fu (msg .controlWithdrawn 17 .source p)
    (v .asking [1, 3, 0, 0]).servingAs .desk = true
      ∧ takes (v .asking [1, 3, 0, 0]) .fu .controlVerdict (msg .controlVerdict 17 .source [1, 3, 0, 0]) = true
      ∧ readVerdict [0, 3, 0, 0] = none ∧ readVerdict [2, 3, 0, 0] = none ∧ readVerdict [2, 3, 4, 0] = some (.queued 4)
      ∧ readVerdict [1, 3, 0, 0] = some .granted ∧ readVerdict [3, 3, 0, 2] = some .listFull
      ∧ readVerdict [3, 3, 0, 1] = some .noPermit ∧ calm.fu.record 9 = none ∧ (recordIn .asking).id = 3 ∧ (4 : Byte) ≠ 3
      ∧ takes (w .holding [2, 3]) .fu .controlWithdrawn (msg .controlWithdrawn 17 .source [2, 3]) = true
      ∧ reasonOf 0 = none ∧ reasonOf 7 = none ∧ reasonOf 2 = some .preemptedQueued ∧ reasonOf 4 = some .expired
      ∧ reasonOf 5 = some .displaced ∧ reasonOf 1 = some .preempted := by decide

theorem witness_LampsStored :
    let s := waiting holding .fu (msg .lamps 17 .source [2])
    s.servingAs .desk = true ∧ takes s .fu .lamps (msg .lamps 17 .source [2]) = true ∧ calm.fu.record 9 = none
      ∧ s.fu.record 17 = some { recordIn .holding with seq := 9 }
      ∧ (holding.putRecord { recordIn .holding with lamps := 2 }).lampsShown ≠ 0
      ∧ (Instr.linkUp ≠ .lampsTaken ∧ ∃ t, exec .linkUp holding = .next t ∧ t.fu.record 17 = holding.fu.record 17) :=
  ⟨by decide, by decide, by decide, by decide, by decide, by decide, _, rfl, rfl⟩

theorem witness_FocusChange :
    -- each record state; room in class 1, none, and a link that is DOWN
    (∀ st : RecState, (desk (recordIn st) liveCtx).fu.record 17 = some (recordIn st) ∧ (recordIn st).state = st)
      ∧ (holding.fp.class1.length < 4 ∧ holding.fp.linkUp = true ∧ downLink.fp.linkUp = false)
      ∧ (let s := holding.setFP { holding.fp with class1 := List.replicate 4 ⟨17, 0, 0, .released, 0, none, 0⟩ }
         s.fp.linkUp = true ∧ 4 ≤ s.fp.class1.length)
      -- a leave not yet in the order and one in it, which then runs
      ∧ (17 ∉ holding.fu.leaveOrder ∧ (recordIn .holding).leave ≠ some .release)
      ∧ (let r := { recordIn .holding with leave := some .release }
         let s := (desk r liveCtx).setFU { (desk r liveCtx).fu with leaveOrder := [17] }
         s.fu.leaveOrder = 17 :: [] ∧ s.fu.record 17 = some r ∧ r.leave = some .release ∧ 17 ∈ s.fu.leaveOrder)
      -- focus changes to the source, from none and from another
      ∧ (none ≠ calm.cp.focusSource ∧ some 9 ≠ calm.cp.focusSource)
      ∧ (let s := calm.setFU { calm.fu with autoRequest := true }
         s.focusRecord = some (recordIn .idle) ∧ s.fu.autoRequest = true ∧ (recordIn .idle).absent = false)
      ∧ calm.fu.autoRequest = false ∧ (some 17 ≠ (calm.setCP { calm.cp with head := none }).cp.focusSource) := by
  refine ⟨?_, by decide, by decide, by decide, by decide, by decide, by decide, by decide, by decide⟩
  intro st; cases st <;> decide

/-- The calm desk with a second layout, which shows channel 1 of source 23. -/
def twoLayouts (r : SrcRec) : State :=
  let s := desk r liveCtx
  s.setCP { s.cp with layouts := [⟨some stream, none, none, none⟩, ⟨some ⟨23, 1⟩, none, none, none⟩], layout := 1 }

theorem witness_LayoutChange :
    let s := twoLayouts (recordIn .holding)
    let c : CP := { s.cp with layout := 2 }
    s.TablesRule ∧ s.servingAs .desk = true ∧ 2 ≠ s.cp.layout ∧ s.fp.rx = []
      -- a message of the stream that goes, behind a PRESENCE that SR has yet to take; and each taken as by its command
      ∧ (let p : RxEntry := ⟨msg .presence 17 .source (zeros 26), [.fu, .sr]⟩
         let e : RxEntry := ⟨msg .tile 17 .source (zeros 8), [.sr]⟩
         e.msg.kind = .tile ∧ e.msg.stream ∈ (s.sr.ctxs.map Ctx.stream).filter (fun x => x ∉ c.streams)
           ∧ ([p, e].filterMap fun d => d.without .sr) = [⟨p.msg, [.fu]⟩]
           ∧ takes (waiting s .sr e.msg) .sr .tile e.msg = true
           ∧ takes (waiting s .sr p.msg) .sr .presence p.msg = true
           ∧ takes (waiting s .sr (msg .frameClose 17 .source [])) .sr .frameClose (msg .frameClose 17 .source []) = true)
      -- a stream that goes and one that is new; one that stays
      ∧ (stream ∉ c.streams ∧ s.sr.ctx stream = some liveCtx)
      ∧ c.streams.filter (fun x => (s.sr.ctx x).isNone) = [⟨23, 1⟩]
      ∧ (let d : CP := { s.cp with layout := 3, layouts := s.cp.layouts ++ [⟨some stream, none, none, none⟩] }
         stream ∈ d.streams ∧ 17 ∈ d.sources ∧ d.focusSource = s.cp.focusSource)
      -- a record that goes, HOLDING, QUEUED, ASKING or IDLE, and one that is new
      ∧ (17 ∉ c.sources ∧ s.fp.linkUp = true ∧ s.fp.class0.length ≤ 8 ∧ s.fp.class1 = []
          ∧ ∀ st : RecState, (twoLayouts (recordIn st)).fu.record 17 = some (recordIn st))
      ∧ (23 ∈ c.sources ∧ s.fu.record 23 = none ∧ s.fu.autoRequest = false)
      ∧ (let r := { recordIn .holding with leave := some .release }
         r.state = .holding ∧ r.leave.isSome = true) := by
  refine ⟨tables_in_order _ ?_ ?_ ?_ ?_ ?_ ?_ ?_, ?_, ?_, ?_, ?_, ?_, ?_, ?_,
    ⟨?_, ?_, ?_, ?_, fun st => by cases st <;> decide⟩, ?_, ?_⟩ <;> decide

theorem witness_DeskTimersExpire :
    -- a record's timers
    (desk (recordIn .asking) liveCtx).fu.record 17 = some (recordIn .asking) ∧ (recordIn .asking).ask = some 0
      ∧ (recordIn .asking).sends < 3 ∧ 3 ≤ ({ recordIn .asking with sends := 3 } : SrcRec).sends
      ∧ ({ recordIn .idle with refusedTimer := some 0 } : SrcRec).refusedTimer = some 0
      ∧ (recordIn .idle).absence = some 0 ∧ (newRecord 17 1 0).holdOff = some 0
      -- a context's timers
      ∧ calm.sr.ctx stream = some liveCtx ∧ liveCtx.stale = some 0 ∧ liveCtx.state = .live ∧ liveCtx.lost = some 0
      ∧ ({ liveCtx with state := .stale } : Ctx).state = .stale
      ∧ (({ liveCtx with repair := some 0, owed := true } : Ctx).owed = true ∧ liveCtx.owed = false)
      -- 5 seconds after their start each has run its own time
      ∧ 5000000 ≤ ((later calm 5000000).now - 0).toNat
      -- a PRESENCE taken by SR
      ∧ (let p (n : Byte) : List Byte := zeros 5 ++ [n] ++ zeros 22
         let s := waiting calm .sr (msg .presence 17 .source (p 1))
         s.servingAs .desk = true ∧ takes s .sr .presence (msg .presence 17 .source (p 1)) = true
           ∧ presenceChannelState (p 1) 0 ≠ 2 ∧ presenceChannelState (p 2) 0 = 2) := by decide

theorem witness_PacedInput :
    (holding.fu.interval = some 0 ∧ 1000 * holding.fu.intervalMs ≤ ((1000 : Time) - 0).toNat)
      ∧ (let s := holding.setFU { holding.fu with interval := none }
         ∃ r, s.focusRecord = some r ∧ r.state = .holding ∧ r.leave = none ∧ s.fu.leaveOrder = [] ∧ s.fu.interval = none
           ∧ s.fp.linkUp = true ∧ s.fp.class1.length < 4 ∧ s.fu.fresh = true)
      ∧ (let s := holding.setFU { holding.fu with interval := none, fresh := false, queue := [.released] }
         s.fu.fresh = false ∧ s.fu.queue = [.released])
      ∧ (let s := holding.setFP { holding.fp with class1 := List.replicate 4 ⟨17, 0, 0, .released, 0, none, 0⟩ }
         s.fp.linkUp = true ∧ 4 ≤ s.fp.class1.length)
      ∧ (holding.setFP { holding.fp with linkUp := false }).fp.linkUp = false
      ∧ (calm.cp.field ≠ (recordIn .idle).noted.field ∧ calm.cp.wheel = 0 ∧ calm.fu.queue = []) :=
  ⟨by decide, ⟨_, rfl, rfl, rfl, rfl, rfl, rfl, by decide, rfl⟩, by decide, by decide, rfl, by decide⟩

/-- Each way a sequence is taken: next in order, a first one, a resynchronisation in WAITING and in STALE, and a loss
with the repair timer stopped and running. -/
theorem witness_SeqTaken (u : State) (m : RxMsg) (h : m.seq = 5) :
    (∃ v q, SeqTaken u v m liveCtx q) ∧ (∃ v q, SeqTaken u v m (newCtx stream 0) q)
      ∧ (∃ v q, SeqTaken u v m { liveCtx with state := .waiting, lastSeq := some 5 } q)
      ∧ (∃ v q, SeqTaken u v m { liveCtx with state := .stale, lastSeq := some 32773 } q)
      ∧ (∃ v q, SeqTaken u v m { liveCtx with lastSeq := some 3 } q)
      ∧ (∃ v q, SeqTaken u v m { liveCtx with lastSeq := some 32774, repair := some 0 } q) :=
  ⟨⟨_, _, .inl ⟨.inr ⟨4, rfl, .inl (by rw [h]; decide)⟩, rfl, rfl⟩⟩, ⟨_, _, .inl ⟨.inl rfl, rfl, rfl⟩⟩,
    ⟨_, _, .inl ⟨.inr ⟨5, rfl, .inr ⟨rfl, by rw [h]; decide⟩⟩, rfl, rfl⟩⟩,
    ⟨_, _, .inr ⟨⟨32773, rfl, .inr ⟨.inl rfl, by rw [h]; decide⟩⟩, .inl ⟨rfl, rfl, rfl⟩⟩⟩,
    ⟨_, _, .inr ⟨⟨3, rfl, .inl (by rw [h]; decide)⟩, .inl ⟨rfl, rfl, rfl⟩⟩⟩,
    ⟨_, _, .inr ⟨⟨32774, rfl, .inl (by rw [h]; decide)⟩, .inr ⟨rfl, rfl, rfl⟩⟩⟩⟩

/-- A FRAME-CLOSE of the stream at the desk, with an epoch, width and sequence. -/
def closeAt (c : Ctx) (e : Byte) (w : Nat) (q : BitVec 16) : State :=
  waiting (desk (recordIn .idle) c) .sr
    { msg .frameClose 17 .source (zeros 4 ++ [e] ++ bytes16 w ++ bytes16 480 ++ [0, 0]) with seq := q }

theorem witness_FrameCloseTaken :
    let p (w : Nat) : List Byte := zeros 4 ++ [1] ++ bytes16 w ++ bytes16 480 ++ [0, 0]
    (closeAt liveCtx 1 640 5).servingAs .desk = true
      ∧ takes (closeAt liveCtx 1 640 5) .sr .frameClose (msg .frameClose 17 .source (p 640)) = true
      ∧ (closeAt liveCtx 1 640 5).sr.ctx stream = some liveCtx ∧ liveCtx.state = .live
      -- distances 0, 32768 and 1, and no sequence yet
      ∧ liveCtx.lastSeq = some 4 ∧ ((4 : BitVec 16) - 4).toNat = 0 ∧ ((32772 : BitVec 16) - 4).toNat = 32768
      ∧ ((5 : BitVec 16) - 4).toNat = 1 ∧ (newCtx stream 0).lastSeq = none
      ∧ (readClose (p 639)).ok = false ∧ (readClose (p 640)).ok = true
      ∧ (liveCtx.epoch = some (readClose (p 640)).epoch ∧ liveCtx.mode = some (readClose (p 640)).mode)
      ∧ (liveCtx.mode ≠ some (readClose (p 641)).mode ∧ (readClose (p 641)).ok = true)
      ∧ (liveCtx.repair = none ∧ ({ liveCtx with repair := some 0 } : Ctx).repair ≠ none)
      ∧ ({ liveCtx with state := .lost } : Ctx).state = .lost
      ∧ ((closeAt liveCtx 1 640 5).fu.leaveOrder = [] ∧ (closeAt liveCtx 1 640 5).fp.class0.length < 16)
      ∧ ((closeAt liveCtx 1 640 5).cp.shown 0 = some stream ∧ (closeAt liveCtx 1 640 5).cp.shown 1 ≠ some stream) := by
  decide +kernel

theorem witness_TileWritten :
    let p (e col : Byte) : List Byte := [e, 1, col, 29, 0, 0, 0, 0, 10, 20, 30]
    let s := waiting calm .sr (msg .tile 17 .source (p 1 39))
    s.servingAs .desk = true ∧ takes s .sr .tile (msg .tile 17 .source (p 1 39)) = true ∧ s.sr.ctx stream = some liveCtx
      ∧ liveCtx.mode = some ⟨640, 480⟩ ∧ liveCtx.epoch = some ((p 1 39).getD 0 0) ∧ liveCtx.epoch ≠ some ((p 2 39).getD 0 0)
      ∧ decodeTile ⟨640, 480⟩ (p 1 40) = none ∧ (decodeTile ⟨640, 480⟩ (p 1 39)).isSome = true
      ∧ (newCtx stream 0).mode = none ∧ liveCtx.repair = none ∧ s.sr.store.wf = true
      ∧ ({ liveCtx with repair := some 0 } : Ctx).repair.isSome = true := by decide +kernel

theorem witness_PlacementRule :
    (640 ≤ 640 ∧ 480 ≤ 480) ∧ ¬ (641 ≤ 640 ∧ 480 ≤ 480)
      ∧ placement 1 ⟨640, 480⟩ 640 480 = ⟨1, 1, 640, 480, 0, 0⟩
      ∧ placement 1 ⟨641, 480⟩ 640 480 = ⟨1, 2, 321, 240, 159, 120⟩ := by decide

theorem witness_HeadsAndBlanking :
    (let o : HeadOut := { calm.hu.heads.h0 with running := true }
     let s := (calm.setHU { calm.hu with heads := calm.hu.heads.set 0 o }).setCP
       { calm.cp with modes := [⟨640, 480, 16, 96, 48, 10, 2, 33, 1, 1, 1, 1⟩] }
     (s.hu.heads.get 0).running = true ∧ s.cp.head = some 0 ∧ s.cp.head ≠ some 1 ∧ (s.hu.heads.get 0).line = 0
       ∧ (s.cp.modeOf 0).vTotal = 525 ∧ (524 : Nat) + 1 = 525)
      ∧ calm.hu.minute = some 0 ∧ 60000000 ≤ ((later calm 60000000).now - 0).toNat
      ∧ calm.hu.count + 1 = calm.hu.tBlank ∧ calm.hu.count + 1 ≠ 2
      ∧ calm.sa.start = .serving ∧ (calm.cp.heads.get 0).validity = .valid ∧ (calm.cp.heads.get 1).validity ≠ .valid := by
  decide

end Sys2Proof.Tests
end

section
/-!
PROOF. Placement (01_the_desk_canvas.md, R13): the scale of a PLACED record, the two facts about one direction of it (the
ceiling quotient that gives the displayed size, the halved leftover that gives the offset), and the rule assembled from
them.
-/

namespace Sys2Proof.Machine

/-! ### The fields of a PLACED record -/

section Fields
variable (g : Fin 4) (z : Size) (hw hh : Nat)

@[simp] theorem placement_region : (placement g z hw hh).region = g := rfl

theorem placement_k : (placement g z hw hh).k = if z.w ≤ hw ∧ z.h ≤ hh then 1 else 2 := by
  simp [placement]

theorem placement_k_pos : 0 < (placement g z hw hh).k := by
  rw [placement_k]; split <;> decide

theorem placement_k_le_two : (placement g z hw hh).k ≤ 2 := by
  rw [placement_k]; split <;> decide

theorem placement_dw : (placement g z hw hh).dw
    = min hw ((z.w + (placement g z hw hh).k - 1) / (placement g z hw hh).k) := rfl

theorem placement_dh : (placement g z hw hh).dh
    = min hh ((z.h + (placement g z hw hh).k - 1) / (placement g z hw hh).k) := rfl

theorem placement_ox : (placement g z hw hh).ox = (hw - (placement g z hw hh).dw) / 2 := rfl

theorem placement_oy : (placement g z hw hh).oy = (hh - (placement g z hw hh).dh) / 2 := rfl

theorem placement_dw_le : (placement g z hw hh).dw ≤ hw := Nat.min_le_left ..

theorem placement_dh_le : (placement g z hw hh).dh ≤ hh := Nat.min_le_left ..

end Fields

/-! ### One direction -/

/-- The model's rounded-up quotient is a ceiling: `k` times it reaches `n` and passes it by less than `k`. -/
theorem ceilQuotient_bounds {k : Nat} (hk : 0 < k) (n : Nat) :
    n ≤ k * ((n + k - 1) / k) ∧ k * ((n + k - 1) / k) < n + k := by
  have hdiv := Nat.div_add_mod (n + k - 1) k
  have hmod := Nat.mod_lt (n + k - 1) hk
  omega

/-- A scale of at most 2 leaves at least half: what keeps a halved stream at 320 × 240 or more. -/
theorem le_of_two_mul_le_of_scaled {k c m n : Nat} (hk : k ≤ 2) (hreach : n ≤ k * c) (h : 2 * m ≤ n) : m ≤ c := by
  have hhalf : k * c ≤ 2 * c := Nat.mul_le_mul_right c hk
  omega

/-- An image of `d` of a head's `n` pixels, at half the leftover rounded down, lies in the head. -/
theorem half_leftover_bounds {d n : Nat} (hd : d ≤ n) :
    2 * ((n - d) / 2) ≤ n - d ∧ n - d ≤ 2 * ((n - d) / 2) + 1 ∧ (n - d) / 2 + d ≤ n := by
  omega

/-- Settles O59 (R13): the two directions are one argument, from the scale's bounds and the displayed size's. -/
theorem placementRule : Obligations.PlacementRule := by
  rintro g z hw hh p rfl
  have hpos := placement_k_pos g z hw hh
  have hk := placement_k_le_two g z hw hh
  obtain ⟨hwReach, hwLeast⟩ := ceilQuotient_bounds hpos z.w
  obtain ⟨hhReach, hhLeast⟩ := ceilQuotient_bounds hpos z.h
  obtain ⟨oxLow, oxHigh, oxIn⟩ := half_leftover_bounds (placement_dw_le g z hw hh)
  obtain ⟨oyLow, oyHigh, oyIn⟩ := half_leftover_bounds (placement_dh_le g z hw hh)
  rw [← placement_ox] at oxLow oxHigh oxIn
  rw [← placement_oy] at oyLow oyHigh oyIn
  exact ⟨placement_region .., fun hfit => (placement_k ..).trans (if_pos hfit),
    fun hover => (placement_k ..).trans (if_neg hover),
    ⟨_, _, hwReach, hwLeast, hhReach, hhLeast, placement_dw .., placement_dh ..,
      le_of_two_mul_le_of_scaled (m := 320) hk hwReach, le_of_two_mul_le_of_scaled (m := 240) hk hhReach⟩,
    oxLow, oxHigh, oyLow, oyHigh, oxIn, oyIn⟩

end Sys2Proof.Machine
end

section
/-!
PROOF. A mouse report taken (02_the_pointer_path.md, R17): what the move reads and leaves of the wheel sum, what the
work of FU leaves of the pointer and of the intake, what a mouse report brings before CP takes it, and the statement
about MOUSE_REPORT assembled from them.
-/

namespace Sys2Proof.Machine

/-! ### The wheel sum apart from the move (R19, R23) -/

/-- The canvas and pointer unit with the wheel sum `n`. -/
@[simps] def CP.withWheel (c : CP) (n : Int) : CP := { c with wheel := n }

section Move
variable (c : CP) (n : Int) (h : Fin 4) (a : Axis)

@[simp] theorem CP.setPush_withWheel (p : Nat) (e : Option Edge) :
    (c.withWheel n).setPush p e = (c.setPush p e).withWheel n := rfl

@[simp] theorem CP.setCoord_withWheel (v : Nat) : (c.withWheel n).setCoord a v = (c.setCoord a v).withWheel n := by
  cases a <;> rfl

@[simp] theorem CP.coord_withWheel : (c.withWheel n).coord a = c.coord a := by cases a <;> rfl

@[simp] theorem CP.other_withWheel : (c.withWheel n).other a = c.other a := by cases a <;> rfl

@[simp] theorem CP.openTo_withWheel (e : Edge) (v : Nat) : (c.withWheel n).openTo h e v = c.openTo h e v := rfl

@[simp] theorem CP.cross_withWheel (high : Bool) : (c.withWheel n).cross h a high = (c.cross h a high).withWheel n := by
  cases a <;> rfl

/-- A push neither reads nor changes the wheel sum (R25). -/
theorem CP.pushAgainst_withWheel (high : Bool) (e : Nat) :
    (c.withWheel n).pushAgainst h a high e
      = ((c.pushAgainst h a high e).1.withWheel n, (c.pushAgainst h a high e).2) := by
  simp only [CP.pushAgainst, CP.openTo_withWheel, CP.other_withWheel, CP.setCoord_withWheel, CP.setPush_withWheel,
    CP.cross_withWheel, CP.withWheel_edge, CP.withWheel_push, CP.withWheel_heads, CP.withWheel_resist]
  split
  · rfl
  · generalize (if c.edge = some (a.edge high) then c.push else 0) + e = push
    split <;> rfl

/-- Nor does a motion on one axis (R24). -/
theorem CP.moveAxis_withWheel (k : Int) :
    (c.withWheel n).moveAxis h a k = ((c.moveAxis h a k).1.withWheel n, (c.moveAxis h a k).2) := by
  simp only [CP.moveAxis, CP.coord_withWheel, CP.pushAgainst_withWheel, CP.setCoord_withWheel, CP.setPush_withWheel,
    CP.withWheel_edge, CP.withWheel_heads]
  split
  · rfl
  split
  · rfl
  split
  · rfl
  split
  · rfl
  · split <;> rfl

/-- The unit with the carries that a report's motion leaves (R22). -/
def CP.carried (c : CP) (dx dy : Int) : CP :=
  { c with
    carryX := carryLeft (dx * c.gains.choose (max dx.natAbs dy.natAbs) + c.carryX)
    carryY := carryLeft (dy * c.gains.choose (max dx.natAbs dy.natAbs) + c.carryY) }

/-- The move is the motion in x, and then the one in y unless x crossed (R23). -/
theorem CP.move_eq (dx dy : Int) :
    c.move h dx dy =
      let g : Nat := c.gains.choose (max dx.natAbs dy.natAbs)
      let r := (c.carried dx dy).moveAxis h .x (wholePixels (dx * g + c.carryX))
      if r.2 then r.1 else (r.1.moveAxis h .y (wholePixels (dy * g + c.carryY))).1 := by
  unfold CP.move
  dsimp only
  split <;> rename_i hx <;> simp [CP.carried, hx]

/-- The whole move takes place beside the wheel sum (R23). -/
theorem CP.move_withWheel (dx dy : Int) : (c.withWheel n).move h dx dy = (c.move h dx dy).withWheel n := by
  have hcarried : (c.withWheel n).carried dx dy = (c.carried dx dy).withWheel n := rfl
  simp only [CP.move_eq, hcarried, CP.moveAxis_withWheel, CP.withWheel_gains, CP.withWheel_carryX, CP.withWheel_carryY]
  split <;> rfl

/-- What two units have in common that differ in the wheel sum alone. -/
theorem CP.pointer_eq_of_withWheel_eq {c d : CP} (hcd : c.withWheel n = d.withWheel n) :
    c.x = d.x ∧ c.y = d.y ∧ c.head = d.head ∧ c.field = d.field :=
  ⟨(congrArg CP.x hcd :), (congrArg CP.y hcd :), (congrArg CP.head hcd :), (congrArg CP.field hcd :)⟩

end Move

/-! ### The pointer field (R30, R33) -/

/-- The mapping reads neither the field it gives nor the wheel sum. -/
theorem State.mapPointer_recomputeField (s : State) : s.recomputeField.mapPointer = s.mapPointer := rfl

theorem State.mapPointer_withWheel (s : State) (n : Int) : (s.setCP (s.cp.withWheel n)).mapPointer = s.mapPointer := rfl

/-- It reads nothing but CP, apart from the wheel sum, and SR. -/
theorem State.mapPointer_congr {s t : State} (hcp : t.cp.withWheel 0 = s.cp.withWheel 0) (hsr : t.sr = s.sr) :
    t.mapPointer = s.mapPointer := by
  rw [← t.mapPointer_withWheel 0, ← s.mapPointer_withWheel 0, hcp]
  simp only [State.mapPointer, State.setCP_cp, State.setCP_sr, hsr]

/-! ### What FU's work leaves of CP and II: all but the wheel sum and the lamps (R49, R57, R62, R68) -/

/-- The input intake without the shown lamps and the ports, to which they are sent (R49, R50). -/
def II.sansLamps (i : II) : II := { i with shown := 0, ports := II.reset.ports }

@[simp] theorem CP.withWheel_of_wheel (c : CP) (k n : Int) : ({ c with wheel := k } : CP).withWheel n = c.withWheel n :=
  rfl

@[simp] theorem II.sansLamps_lamps (i : II) (l : Lamps) (p : Pair HostPort) :
    ({ i with shown := l, ports := p } : II).sansLamps = i.sansLamps := rfl

theorem II.snapshots_eq_of_sansLamps_eq {i j : II} (h : i.sansLamps = j.sansLamps) :
    i.raw = j.raw ∧ i.passed = j.passed :=
  ⟨(congrArg II.raw h :), (congrArg II.passed h :)⟩

section FocusWork
variable (s : State)

@[simp] theorem State.showLamps_sansLamps : s.showLamps.ii.sansLamps = s.ii.sansLamps := by simp [State.showLamps]

@[simp] theorem State.leftHolding_withWheel (p : Nat) :
    (s.leftHolding p).cp.withWheel 0 = s.cp.withWheel 0 := by
  unfold State.leftHolding; dsimp only; split <;> simp

@[simp] theorem State.moveRecord_pointer_keys (r : SrcRec) (st : RecState) :
    (s.moveRecord r st).cp.withWheel 0 = s.cp.withWheel 0 ∧ (s.moveRecord r st).ii.sansLamps = s.ii.sansLamps := by
  unfold State.moveRecord; dsimp only; (repeat' split) <;> simp

@[simp] theorem State.requestSource_pointer_keys (p : Nat) :
    (s.requestSource p).cp.withWheel 0 = s.cp.withWheel 0 ∧ (s.requestSource p).ii.sansLamps = s.ii.sansLamps := by
  unfold State.requestSource; (repeat' split) <;> simp

@[simp] theorem State.runLeave_pointer_keys (r : SrcRec) (k : LeaveKind) :
    (s.runLeave r k).cp.withWheel 0 = s.cp.withWheel 0 ∧ (s.runLeave r k).ii.sansLamps = s.ii.sansLamps := by
  cases k <;> simp [State.runLeave]

@[simp] theorem State.leave_pointer_keys (r : SrcRec) (k : LeaveKind) :
    (s.leave r k).cp.withWheel 0 = s.cp.withWheel 0 ∧ (s.leave r k).ii.sansLamps = s.ii.sansLamps := by
  unfold State.leave; split <;> simp

@[simp] theorem State.leaveFocus_pointer_keys (p : Option Nat) :
    (s.leaveFocus p).cp.withWheel 0 = s.cp.withWheel 0 ∧ (s.leaveFocus p).ii.sansLamps = s.ii.sansLamps := by
  unfold State.leaveFocus; (repeat' split) <;> simp

@[simp] theorem State.autoRequest_pointer_keys (q : Option Nat) :
    (s.autoRequest q).cp.withWheel 0 = s.cp.withWheel 0 ∧ (s.autoRequest q).ii.sansLamps = s.ii.sansLamps := by
  unfold State.autoRequest; (repeat' split) <;> simp

@[simp] theorem State.focusChange_pointer_keys (p q : Option Nat) :
    (s.focusChange p q).cp.withWheel 0 = s.cp.withWheel 0 ∧ (s.focusChange p q).ii.sansLamps = s.ii.sansLamps := by
  simp [State.focusChange]

@[simp] theorem State.focusFrom_pointer_keys (p : Option Nat) :
    (s.focusFrom p).cp.withWheel 0 = s.cp.withWheel 0 ∧ (s.focusFrom p).ii.sansLamps = s.ii.sansLamps := by
  unfold State.focusFrom; split <;> simp

@[simp] theorem State.buildInput_withWheel (r : SrcRec) : (s.buildInput r).cp.withWheel 0 = s.cp.withWheel 0 := by
  simp [State.buildInput]

@[simp] theorem State.runLeaves_pointer_keys (l : List Nat) (s : State) :
    (State.runLeaves l s).cp.withWheel 0 = s.cp.withWheel 0 ∧ (State.runLeaves l s).ii.sansLamps = s.ii.sansLamps := by
  induction l generalizing s with
  | nil => simp [State.runLeaves]
  | cons p rest ih => unfold State.runLeaves; (repeat' split) <;> simp [ih]

@[simp] theorem State.judgeInput_pointer_keys :
    s.judgeInput.cp.withWheel 0 = s.cp.withWheel 0 ∧ s.judgeInput.ii.sansLamps = s.ii.sansLamps := by
  unfold State.judgeInput; dsimp only; (repeat' split) <;> simp

theorem State.focusFrom_of_eq {s : State} {p : Option Nat} (h : s.cp.focusSource = p) : s.focusFrom p = s := if_pos h

theorem State.focusFrom_of_ne {s : State} {p : Option Nat} (h : s.cp.focusSource ≠ p) :
    s.focusFrom p = s.focusChange p s.cp.focusSource := if_neg h

/-- FU's part after the pointer has moved keeps the pointer, a field that maps it, and the snapshots. -/
theorem State.judgeInput_focusFrom_pointer (w : State) (p : Option Nat) (hfield : w.cp.field = w.mapPointer) :
    let t := (w.focusFrom p).judgeInput
    t.cp.x = w.cp.x ∧ t.cp.y = w.cp.y ∧ t.cp.head = w.cp.head ∧ t.cp.field = t.mapPointer ∧ t.sr = w.sr
      ∧ t.ii.raw = w.ii.raw ∧ t.ii.passed = w.ii.passed := by
  intro t
  have hcp : t.cp.withWheel 0 = w.cp.withWheel 0 := by simp [t]
  have hii : t.ii.sansLamps = w.ii.sansLamps := by simp [t]
  have hsr : t.sr = w.sr := by simp [t]
  obtain ⟨hx, hy, hhead, hkept⟩ := CP.pointer_eq_of_withWheel_eq 0 hcp
  have hmap : t.mapPointer = w.mapPointer := State.mapPointer_congr hcp hsr
  exact ⟨hx, hy, hhead, hkept.trans (hfield.trans hmap.symm), hsr, II.snapshots_eq_of_sansLamps_eq hii⟩

end FocusWork

/-! ### A report's bytes and what is activity (R17, R42) -/

theorem motionOf_eq_max (b : Byte) : motionOf b = max (-127) b.toInt := by
  have hlow : -128 ≤ b.toInt := BitVec.le_toInt b
  unfold motionOf
  split <;> omega

theorem mouseMotion_of_short {l : List Byte} (h : l.length < 3) : mouseMotion l = none := if_pos h

theorem mouseMotion_of_whole {l : List Byte} (h : 3 ≤ l.length) :
    mouseMotion l
      = some ⟨(l.getD 0 0).setWidth 3, motionOf (l.getD 1 0), motionOf (l.getD 2 0), (l.getD 3 0).toInt⟩ :=
  if_neg (Nat.not_lt.mpr h)

theorem MouseMotion.isActivity_iff (m : MouseMotion) (p : Buttons) :
    m.isActivity p = true ↔ m.dx ≠ 0 ∨ m.dy ≠ 0 ∨ m.wheel ≠ 0 ∨ m.buttons ≠ p := by
  simp [MouseMotion.isActivity, or_assoc]

/-- The model's saturation is the bound on both sides (R19). -/
theorem saturate16_eq (v : Int) : saturate16 v = max (-32768) (min 32767 v) := by
  unfold saturate16 clampInt
  split
  · omega
  · split <;> omega

/-! ### Activity told to HU (R163, R164) -/

theorem State.activity_wakes {s : State} (h : s.hu.blank = true) :
    s.activity.hu.blank = false ∧ s.activity.hu.count = 0 ∧ s.activity.hu.minute = some s.now := by
  simp [State.activity, h, State.recomputeHeads]

theorem State.activity_restarts {s : State} (hb : s.hu.blank = false) (ht : s.hu.tBlank ≠ 0) :
    s.activity = s.setHU { s.hu with count := 0, minute := some s.now } := by
  simp [State.activity, hb, ht]

theorem State.activity_of_no_timer {s : State} (hb : s.hu.blank = false) (ht : s.hu.tBlank = 0) : s.activity = s := by
  simp [State.activity, hb, ht]

/-! ### What II and HU take of a mouse report before CP does (R38, R42) -/

/-- The state once a port's report of motion `m` has come in: the port's error count is 0, and an activity report has
been told to HU. -/
def State.mouseHeard (s : State) (i : Fin 2) (m : MouseMotion) : State :=
  let u := s.putPort i (s.ii.ports.get i).answered
  if m.isActivity (s.cp.portButtons.get i) then u.activity else u

section Heard
variable (s : State) (i : Fin 2) (m : MouseMotion)

@[simp] theorem State.mouseHeard_frame :
    (s.mouseHeard i m).pending = s.pending ∧ (s.mouseHeard i m).now = s.now ∧ (s.mouseHeard i m).role = s.role
      ∧ (s.mouseHeard i m).sa = s.sa ∧ (s.mouseHeard i m).pu = s.pu ∧ (s.mouseHeard i m).fp = s.fp
      ∧ (s.mouseHeard i m).cu = s.cu ∧ (s.mouseHeard i m).ts = s.ts ∧ (s.mouseHeard i m).ca = s.ca
      ∧ (s.mouseHeard i m).wp = s.wp ∧ (s.mouseHeard i m).cp = s.cp ∧ (s.mouseHeard i m).fu = s.fu
      ∧ (s.mouseHeard i m).sr = s.sr := by
  unfold State.mouseHeard; dsimp only; split <;> simp

@[simp] theorem State.mouseHeard_ii :
    (s.mouseHeard i m).ii
      = { s.ii with ports := s.ii.ports.set i { s.ii.ports.get i with errors := 0 } } := by
  unfold State.mouseHeard; dsimp only; split <;> simp [State.putPort, HostPort.answered]

theorem State.mouseHeard_cp : (s.mouseHeard i m).cp = s.cp := by simp

theorem State.mouseHeard_focusHolding : (s.mouseHeard i m).focusHolding = s.focusHolding := by
  simp [State.focusHolding, State.focusRecord]

end Heard

/-- An activity report wakes a blanked desk (R163). -/
theorem State.mouseHeard_wakes {s : State} {i : Fin 2} {m : MouseMotion} (hb : s.hu.blank = true)
    (ha : m.isActivity (s.cp.portButtons.get i) = true) :
    (s.mouseHeard i m).hu.blank = false ∧ (s.mouseHeard i m).hu.count = 0
      ∧ (s.mouseHeard i m).hu.minute = some s.now := by
  have hblank : (s.putPort i (s.ii.ports.get i).answered).hu.blank = true := by simpa using hb
  simpa [State.mouseHeard, ha] using State.activity_wakes hblank

/-- On a desk that is not blanked it restarts the blank timer, where there is one (R164). -/
theorem State.mouseHeard_restarts {s : State} {i : Fin 2} {m : MouseMotion} (hb : s.hu.blank = false)
    (ha : m.isActivity (s.cp.portButtons.get i) = true) (ht : s.hu.tBlank ≠ 0) :
    (s.mouseHeard i m).hu = { s.hu with count := 0, minute := some s.now } := by
  simp [State.mouseHeard, ha, State.activity_restarts, hb, ht]

/-- HU takes nothing of a report that is not activity, nor of one where there is no blank timer. -/
theorem State.mouseHeard_hu_of_quiet {s : State} {i : Fin 2} {m : MouseMotion}
    (hb : s.hu.blank = false ∨ m.isActivity (s.cp.portButtons.get i) = false)
    (h : m.isActivity (s.cp.portButtons.get i) = false ∨ s.hu.tBlank = 0) : (s.mouseHeard i m).hu = s.hu := by
  cases ha : m.isActivity (s.cp.portButtons.get i) with
  | false => simp [State.mouseHeard, ha]
  | true =>
    have hblank : s.hu.blank = false := hb.resolve_right (by simp [ha])
    have hnone : s.hu.tBlank = 0 := h.resolve_left (by simp [ha])
    simp [State.mouseHeard, ha, State.activity_of_no_timer, hblank, hnone]

/-! ### CP's part of a report (R18, R19, R33) -/

/-- The state once CP has taken the buttons, the wheel and the motion with `h` the pointer head, and recomputed the
field, before FU's part. -/
def State.mouseMoved (s : State) (i : Fin 2) (h : Fin 4) (m : MouseMotion) : State :=
  let u := s.takeButtons i m
  (u.setCP (u.cp.move h m.dx m.dy)).recomputeField

theorem State.takeMotion_of_head {s : State} {i : Fin 2} {h : Fin 4} {m : MouseMotion} (hh : s.cp.head = some h) :
    s.takeMotion i m = ((s.mouseMoved i h m).focusFrom s.cp.focusSource).judgeInput := by
  unfold State.takeMotion; rw [hh]; rfl

section Moved
variable (s : State) (i : Fin 2) (h : Fin 4) (m : MouseMotion)

@[simp] theorem State.mouseMoved_frame :
    (s.mouseMoved i h m).pending = s.pending ∧ (s.mouseMoved i h m).now = s.now ∧ (s.mouseMoved i h m).role = s.role
      ∧ (s.mouseMoved i h m).sa = s.sa ∧ (s.mouseMoved i h m).pu = s.pu ∧ (s.mouseMoved i h m).fp = s.fp
      ∧ (s.mouseMoved i h m).cu = s.cu ∧ (s.mouseMoved i h m).ts = s.ts ∧ (s.mouseMoved i h m).ca = s.ca
      ∧ (s.mouseMoved i h m).wp = s.wp ∧ (s.mouseMoved i h m).ii = s.ii ∧ (s.mouseMoved i h m).fu = s.fu
      ∧ (s.mouseMoved i h m).sr = s.sr ∧ (s.mouseMoved i h m).hu = s.hu := by
  simp [State.mouseMoved]

/-- The wheel is added while the focus record is HOLDING (R19). -/
theorem State.takeButtons_cp :
    (s.takeButtons i m).cp = (s.cp.setButtons i m.buttons).withWheel
      (if s.focusHolding then max (-32768) (min 32767 (s.cp.wheel + m.wheel)) else s.cp.wheel) := by
  rw [← saturate16_eq]; rfl

/-- CP after a motion: moved with the port's new buttons and the new wheel sum, and the field mapped at the place
reached. -/
theorem State.mouseMoved_cp :
    (s.mouseMoved i h m).cp = { (s.cp.setButtons i m.buttons).move h m.dx m.dy with
      wheel := if s.focusHolding then max (-32768) (min 32767 (s.cp.wheel + m.wheel)) else s.cp.wheel
      field := (s.mouseMoved i h m).mapPointer } := by
  simp only [State.mouseMoved, State.mapPointer_recomputeField, State.takeButtons_cp, CP.move_withWheel]
  rfl

theorem State.mouseMoved_field : (s.mouseMoved i h m).cp.field = (s.mouseMoved i h m).mapPointer :=
  congrArg CP.field (s.mouseMoved_cp i h m)

end Moved

/-! ### MOUSE_REPORT (R17) -/

section Report
variable {s : State} {i : Fin 2} {l : List Byte}

theorem exec_mouseReport_short (hp : (s.ii.ports.get i).state = .polling)
    (hm : (s.ii.ports.get i).mouse.isSome = true) (h : mouseMotion l = none) :
    exec (.mouseReport i l) s = .next (s.putPort i { s.ii.ports.get i with errors := 0 }) := by
  simp [exec, execMouseReport, hp, hm, h, HostPort.answered]

/-- A report of motion is heard, and goes on to CP unless it is activity on a blanked desk (R42). -/
theorem exec_mouseReport_of_motion {m : MouseMotion} (hp : (s.ii.ports.get i).state = .polling)
    (hm : (s.ii.ports.get i).mouse.isSome = true) (h : mouseMotion l = some m) :
    exec (.mouseReport i l) s = .next (
      if s.hu.blank = true ∧ m.isActivity (s.cp.portButtons.get i) = true then s.mouseHeard i m
      else (s.mouseHeard i m).takeMotion i m) := by
  have hrun : exec (.mouseReport i l) s = execMouseReport i l s := rfl
  simp only [hrun, execMouseReport, hp, hm, h, State.mouseHeard, State.putPort_frame]
  cases ha : m.isActivity (s.cp.portButtons.get i) with
  | false => simp
  | true => cases hb : s.hu.blank <;> simp

/-- Any other report moves the pointer, and FU then judges its INPUT. -/
theorem exec_mouseReport_of_reaching {m : MouseMotion} {h : Fin 4} (hp : (s.ii.ports.get i).state = .polling)
    (hm : (s.ii.ports.get i).mouse.isSome = true) (hl : mouseMotion l = some m)
    (hreach : s.hu.blank = false ∨ m.isActivity (s.cp.portButtons.get i) = false) (hh : s.cp.head = some h) :
    exec (.mouseReport i l) s
      = .next (((s.mouseHeard i m).mouseMoved i h m).focusFrom s.cp.focusSource).judgeInput := by
  have hnot : ¬ (s.hu.blank = true ∧ m.isActivity (s.cp.portButtons.get i) = true) := by
    simpa [imp_iff_not_or] using hreach
  have hhead : (s.mouseHeard i m).cp.head = some h := by rw [State.mouseHeard_cp, hh]
  rw [exec_mouseReport_of_motion hp hm hl, if_neg hnot, State.takeMotion_of_head hhead, State.mouseHeard_cp]

end Report

/-- Settles O47 (R17): a report is short, or heard and consumed, or heard, moved by and judged; what FU's part then
leaves of CP and II keeps the pointer, its field and the snapshots. -/
theorem mouseReportTaken : Obligations.MouseReportTaken := by
  intro s i l hp hm
  refine ⟨fun hshort => exec_mouseReport_short hp hm (mouseMotion_of_short hshort), fun hwhole =>
    ⟨_, mouseMotion_of_whole hwhole, rfl, motionOf_eq_max _, motionOf_eq_max _, rfl, MouseMotion.isActivity_iff _⟩,
    fun m hl => ⟨fun hb ha => ?_, fun h hreach hh => ?_⟩⟩
  · obtain ⟨hblank, hcount, hminute⟩ := State.mouseHeard_wakes hb ha
    have hrun := exec_mouseReport_of_motion hp hm hl
    rw [if_pos ⟨hb, ha⟩] at hrun
    exact ⟨_, hrun, by simp [hblank, hcount, hminute, State.sameSource]⟩
  · let w := (s.mouseHeard i m).mouseMoved i h m
    have hcp := (s.mouseHeard i m).mouseMoved_cp i h m
    rw [s.mouseHeard_cp, s.mouseHeard_focusHolding] at hcp
    have hw : w.fu = s.fu ∧ w.fp = s.fp ∧ w.sa = s.sa ∧ w.pu = s.pu ∧ w.sr = s.sr ∧ w.hu = (s.mouseHeard i m).hu
        ∧ w.ii = { s.ii with ports := s.ii.ports.set i { s.ii.ports.get i with errors := 0 } } ∧ s.sameSource w := by
      simp [w, State.sameSource]
    obtain ⟨hfu, hfp, hsa, hpu, hsr, hhu, hii, hsame⟩ := hw
    obtain ⟨hx, hy, hhead, hfield, hsrKept, hraw, hpassed⟩ :=
      w.judgeInput_focusFrom_pointer s.cp.focusSource ((s.mouseHeard i m).mouseMoved_field i h m)
    refine ⟨_, w.focusFrom s.cp.focusSource, w, _, exec_mouseReport_of_reaching hp hm hl hreach hh, rfl, hcp, hfu, hfp,
      hsa, hpu, hsr, hii, hsame, ?_, fun hquiet => hhu.trans (State.mouseHeard_hu_of_quiet hreach hquiet),
      State.focusFrom_of_eq, State.focusFrom_of_ne, rfl, hx.trans (congrArg CP.x hcp :), hy.trans (congrArg CP.y hcp :),
      hhead.trans (congrArg CP.head hcp :), hfield, hsrKept.trans hsr, hraw.trans (congrArg II.raw hii :),
      hpassed.trans (congrArg II.passed hii :), ?_⟩
    · intro ha ht
      have hb : s.hu.blank = false := hreach.resolve_right (by simp [ha])
      exact hhu.trans (State.mouseHeard_restarts hb ha ht)
    · simp [State.sameSource]

end Sys2Proof.Machine
end

section
/-!
PROOF. Keys, lamps and hotkeys (03_keys_lamps_and_hotkeys.md): what FU's work leaves of the ports, of CP and of SA, what
a layout change and a command leave of them, and a change of the raw snapshot taken whole.
-/

namespace Sys2Proof.Machine

/-! ### What FU's work can set -/

/-- A port's record without the lamp report that II puts in flight, which it does on a POLLING port alone (R50). -/
def HostPort.sansFlight (p : HostPort) : HostPort := if p.state = .polling then { p with lampFlight := none } else p

/-- The input intake without the shown lamps and the lamp reports in flight (R49, R50). -/
def II.sansFlights (i : II) : II :=
  { i with shown := 0, ports := ⟨i.ports.zero.sansFlight, i.ports.one.sansFlight⟩ }

/-- SA without what a message that finds class 0 full latches, and without the line it drives (R173, R187). -/
def SA.sansDrop (a : SA) : SA := { a with latched := a.latched &&& ~~~Cond.txDrop.bit, attnN := true }

/-- The canvas and pointer unit without the wheel sum and the pointer field (R19, R33). -/
def CP.lasting (c : CP) : CP := { c.withWheel 0 with field := none }

theorem HostPort.offerLamps_eq (p : HostPort) (v : Lamps) :
    p.offerLamps v = p ∨ p.state = .polling ∧ p.offerLamps v = { p with lampFlight := some v } := by
  unfold HostPort.offerLamps
  split
  · simp_all
  · simp

@[simp] theorem HostPort.sansFlight_offerLamps (p : HostPort) (v : Lamps) :
    (p.offerLamps v).sansFlight = p.sansFlight := by
  obtain h | ⟨hp, h⟩ := p.offerLamps_eq v
  · rw [h]
  · simp [HostPort.sansFlight, h, hp]

@[simp] theorem HostPort.sansFlight_frame (p : HostPort) :
    p.sansFlight.state = p.state ∧ p.sansFlight.keys = p.keys ∧ p.sansFlight.lastReport = p.lastReport
      ∧ p.sansFlight.errors = p.errors := by
  unfold HostPort.sansFlight; split <;> simp

/-- Two records alike but for a lamp report in flight are alike in all else, and wholly so outside POLLING. -/
theorem HostPort.eq_of_sansFlight_eq {p q : HostPort} (h : p.sansFlight = q.sansFlight) :
    p.state = q.state ∧ p.keys = q.keys ∧ p.lastReport = q.lastReport ∧ p.errors = q.errors
      ∧ (q.state ≠ .polling → p = q) := by
  have hstate : p.state = q.state := by simpa using congrArg HostPort.state h
  refine ⟨hstate, by simpa using congrArg HostPort.keys h, by simpa using congrArg HostPort.lastReport h,
    by simpa using congrArg HostPort.errors h, fun hq => ?_⟩
  rwa [HostPort.sansFlight, HostPort.sansFlight, if_neg hq, if_neg (hstate ▸ hq)] at h

/-- What two intakes have in common that differ in the shown lamps and the lamp reports in flight alone. -/
theorem II.eq_of_sansFlights_eq {i j : II} (h : i.sansFlights = j.sansFlights) :
    i.raw = j.raw ∧ i.suppressed = j.suppressed ∧ i.passed = j.passed ∧ i.hotkey = j.hotkey ∧ i.tap = j.tap
      ∧ i.leadSeen = j.leadSeen ∧ i.command = j.command
      ∧ ∀ k, (i.ports.get k).sansFlight = (j.ports.get k).sansFlight := by
  refine ⟨(congrArg II.raw h :), (congrArg II.suppressed h :), (congrArg II.passed h :), (congrArg II.hotkey h :),
    (congrArg II.tap h :), (congrArg II.leadSeen h :), (congrArg II.command h :), fun k => ?_⟩
  have hports := congrArg (fun i => (II.ports i).get k) h
  match k with
  | 0 => exact hports
  | 1 => exact hports

@[simp] theorem State.showLamps_sansFlights (s : State) : s.showLamps.ii.sansFlights = s.ii.sansFlights := by
  simp [State.showLamps, II.sansFlights]

@[simp] theorem State.latch_txDrop_sansDrop (s : State) : (s.latch .txDrop).sa.sansDrop = s.sa.sansDrop := by
  have hbits : (s.sa.latched ||| Cond.txDrop.bit) &&& ~~~Cond.txDrop.bit = s.sa.latched &&& ~~~Cond.txDrop.bit := by
    ext n hn
    simp only [BitVec.getElem_and, BitVec.getElem_or, BitVec.getElem_not]
    cases (Cond.txDrop.bit)[n] <;> simp
  simp [State.latch, SA.latch, SA.drive, SA.sansDrop, hbits]

@[simp] theorem CP.lasting_field (c : CP) (f : Option PtrField) : ({ c with field := f } : CP).lasting = c.lasting :=
  rfl

theorem CP.lasting_of_withWheel_eq {c d : CP} (h : c.withWheel 0 = d.withWheel 0) : c.lasting = d.lasting := by
  simp [CP.lasting, h]

theorem CP.eq_of_lasting_eq {c d : CP} (h : c.lasting = d.lasting) :
    c.layout = d.layout ∧ c.confine = d.confine ∧ c.x = d.x ∧ c.y = d.y ∧ c.head = d.head
      ∧ c.portButtons = d.portButtons :=
  ⟨(congrArg CP.layout h :), (congrArg CP.confine h :), (congrArg CP.x h :), (congrArg CP.y h :),
    (congrArg CP.head h :), (congrArg CP.portButtons h :)⟩

/-! ### FU's work: the ports keep all but lamp reports in flight, and SA takes TX-DROP alone -/

section FocusWork
variable (s : State)

@[simp] theorem State.hand0_sansDrop (m : Out0) : (s.hand0 m).sa.sansDrop = s.sa.sansDrop := by
  obtain ⟨-, h⟩ | ⟨-, -, h⟩ | ⟨-, -, h⟩ := s.hand0_cases m <;> simp [h]

@[simp] theorem State.sendRelease_sansDrop (r : SrcRec) : (s.sendRelease r).sa.sansDrop = s.sa.sansDrop := by
  simp [State.sendRelease]

@[simp] theorem State.moveRecord_sansFlights (r : SrcRec) (st : RecState) :
    (s.moveRecord r st).ii.sansFlights = s.ii.sansFlights := by
  unfold State.moveRecord; dsimp only; (repeat' split) <;> simp

@[simp] theorem State.requestSource_sansFlights (p : Nat) :
    (s.requestSource p).ii.sansFlights = s.ii.sansFlights := by
  unfold State.requestSource; (repeat' split) <;> simp

@[simp] theorem State.runLeave_ports_conds (r : SrcRec) (k : LeaveKind) :
    (s.runLeave r k).ii.sansFlights = s.ii.sansFlights ∧ (s.runLeave r k).sa.sansDrop = s.sa.sansDrop := by
  cases k <;> simp [State.runLeave]

@[simp] theorem State.leave_sansFlights (r : SrcRec) (k : LeaveKind) :
    (s.leave r k).ii.sansFlights = s.ii.sansFlights := by
  unfold State.leave; split <;> simp

@[simp] theorem State.releaseSource_sansFlights (p : Nat) :
    (s.releaseSource p).ii.sansFlights = s.ii.sansFlights := by
  unfold State.releaseSource; (repeat' split) <;> simp

@[simp] theorem State.releaseSource_withWheel (p : Nat) :
    (s.releaseSource p).cp.withWheel 0 = s.cp.withWheel 0 := by
  unfold State.releaseSource; (repeat' split) <;> simp

@[simp] theorem State.leaveFocus_sansFlights (p : Option Nat) :
    (s.leaveFocus p).ii.sansFlights = s.ii.sansFlights := by
  unfold State.leaveFocus; (repeat' split) <;> simp

@[simp] theorem State.autoRequest_sansFlights (q : Option Nat) :
    (s.autoRequest q).ii.sansFlights = s.ii.sansFlights := by
  unfold State.autoRequest; (repeat' split) <;> simp

@[simp] theorem State.focusFrom_sansFlights (p : Option Nat) :
    (s.focusFrom p).ii.sansFlights = s.ii.sansFlights := by
  unfold State.focusFrom; split <;> simp [State.focusChange]

@[simp] theorem State.runLeaves_ports_conds (l : List Nat) (s : State) :
    (State.runLeaves l s).ii.sansFlights = s.ii.sansFlights ∧ (State.runLeaves l s).sa.sansDrop = s.sa.sansDrop := by
  induction l generalizing s with
  | nil => simp [State.runLeaves]
  | cons p rest ih => unfold State.runLeaves; (repeat' split) <;> simp [ih]

@[simp] theorem State.judgeInput_ports_conds :
    s.judgeInput.ii.sansFlights = s.ii.sansFlights ∧ s.judgeInput.sa.sansDrop = s.sa.sansDrop := by
  unfold State.judgeInput; dsimp only; (repeat' split) <;> simp

@[simp] theorem State.judgeInput_lasting : s.judgeInput.cp.lasting = s.cp.lasting :=
  CP.lasting_of_withWheel_eq s.judgeInput_pointer_keys.1

theorem State.judgeInput_current : s.judgeInput.sa.current = s.sa.current :=
  (congrArg SA.current s.judgeInput_ports_conds.2 :)

/-- Without room in class 1 nothing is pending that could run, and no INPUT is due (R61, R67). -/
theorem State.judgeInput_of_full {s : State} (h : s.roomInClass1 = false) : s.judgeInput = s := by
  have hleaves : State.runLeaves s.fu.leaveOrder s = s := by
    cases s.fu.leaveOrder with
    | nil => rfl
    | cons p rest => simp [State.runLeaves, h]
  unfold State.judgeInput
  simp only [hleaves]
  split
  · rfl
  · simp [State.inputDue, h]

end FocusWork

/-! ### A layout change (R10, R63) -/

section LayoutChange
variable (s : State)

@[simp] theorem State.recomputeField_lasting : s.recomputeField.cp.lasting = s.cp.lasting := by
  simp [State.recomputeField]

@[simp] theorem State.streamsChanged_lasting : s.streamsChanged.cp.lasting = s.cp.lasting := by
  simp [State.streamsChanged]

@[simp] theorem State.takeClose_lasting (x : Stream) (f : CloseContent) :
    (s.takeClose x f).cp.lasting = s.cp.lasting := by
  unfold State.takeClose; (repeat' split) <;> simp

@[simp] theorem State.close_lasting (m : RxMsg) : (s.close m).cp.lasting = s.cp.lasting := by
  unfold State.close
  split
  · rfl
  · rename_i u hu; simp [State.takeSeq_frame hu]

@[simp] theorem State.takeBySr_lasting (m : RxMsg) : (s.takeBySr m).cp.lasting = s.cp.lasting := by
  unfold State.takeBySr; split <;> simp [State.hearSource]

@[simp] theorem State.drainStreams_lasting (l : List Stream) : (s.drainStreams l).cp.lasting = s.cp.lasting := by
  have htaken (es : List RxEntry) : ∀ s : State,
      (es.foldl (fun s e => s.takeBySr e.msg) s).cp.lasting = s.cp.lasting := by
    induction es with
    | nil => simp
    | cons e rest ih => intro s; simp [ih]
  simp [State.drainStreams, htaken]

@[simp] theorem State.removeRecord_sansFlights (r : SrcRec) :
    (s.removeRecord r).ii.sansFlights = s.ii.sansFlights ∧ (s.removeRecord r).cp.withWheel 0 = s.cp.withWheel 0 := by
  unfold State.removeRecord State.dropRecord; dsimp only; (repeat' split) <;> simp

@[simp] theorem State.updateRecords_sansFlights :
    s.updateRecords.ii.sansFlights = s.ii.sansFlights ∧ s.updateRecords.cp.withWheel 0 = s.cp.withWheel 0 := by
  have hgone (l : List SrcRec) : ∀ s : State, (l.foldl State.removeRecord s).ii.sansFlights = s.ii.sansFlights
      ∧ (l.foldl State.removeRecord s).cp.withWheel 0 = s.cp.withWheel 0 := by
    induction l with
    | nil => simp
    | cons r rest ih => intro s; simp [ih]
  simp [State.updateRecords, hgone]

@[simp] theorem State.changeLayout_sansFlights (n : Nat) : (s.changeLayout n).ii.sansFlights = s.ii.sansFlights := by
  simp [State.changeLayout]

theorem State.changeLayout_lasting (n : Nat) :
    (s.changeLayout n).cp.lasting = ({ s.cp with layout := n } : CP).lasting := by
  have hfocus (u : State) (p : Option Nat) : (u.focusFrom p).cp.lasting = u.cp.lasting :=
    CP.lasting_of_withWheel_eq (u.focusFrom_pointer_keys p).1
  have hrecords (u : State) : u.updateRecords.cp.lasting = u.cp.lasting :=
    CP.lasting_of_withWheel_eq u.updateRecords_sansFlights.2
  have hdrained (l : List Stream) : ({ (s.drainStreams l).cp with layout := n } : CP).lasting
      = ({ s.cp with layout := n } : CP).lasting :=
    congrArg (fun c : CP => { c with layout := n }) (s.drainStreams_lasting l)
  simp [State.changeLayout, hfocus, hrecords, hdrained]

end LayoutChange

/-! ### Commands (R47, R48) -/

/-- What a command makes of CP, apart from the wheel sum and the pointer field (R47). -/
def CP.obey (c : CP) : Command → CP
  | .select n => { c with layout := n }
  | .confine => { c with confine := !c.confine }
  | .request | .release | .acknowledge | .leave => c

@[simp] theorem CP.obey_portButtons (c : CP) (k : Command) : (c.obey k).portButtons = c.portButtons := by
  cases k <;> rfl

theorem CP.obey_confine (c : CP) : ∀ k, k ≠ .confine → (c.obey k).confine = c.confine
  | .confine, h => absurd rfl h
  | .select _, _ | .request, _ | .release, _ | .acknowledge, _ | .leave, _ => rfl

theorem CP.obey_layout (c : CP) : ∀ k, (∀ n, k ≠ .select n) → (c.obey k).layout = c.layout
  | .select n, h => absurd rfl (h n)
  | .confine, _ | .request, _ | .release, _ | .acknowledge, _ | .leave, _ => rfl

@[simp] theorem State.sendAttnClear_sansDrop (s : State) : s.sendAttnClear.sa.sansDrop = s.sa.sansDrop := by
  unfold State.sendAttnClear; (repeat' split) <;> simp

theorem State.command_request {s : State} {p : Nat} (h : s.cp.focusSource = some p) :
    s.command .request = s.requestSource p := by simp [State.command, h]

theorem State.command_release {s : State} {p : Nat} (h : s.cp.focusSource = some p) :
    s.command .release = s.releaseSource p := by simp [State.command, h]

@[simp] theorem State.command_sansFlights (s : State) (k : Command) :
    (s.command k).ii.sansFlights = s.ii.sansFlights := by
  cases k with
  | select n => unfold State.command State.selectLayout; dsimp only; split <;> simp
  | request => unfold State.command; dsimp only; split <;> simp
  | release => unfold State.command; dsimp only; split <;> simp
  | acknowledge => simp [State.command]
  | confine => simp [State.command]
  | leave => rfl

theorem State.command_lasting (s : State) (k : Command) : (s.command k).cp.lasting = (s.cp.obey k).lasting := by
  cases k with
  | select n =>
    unfold State.command State.selectLayout
    dsimp only
    split
    · rename_i hn; subst hn; rfl
    · exact s.changeLayout_lasting n
  | request =>
    unfold State.command
    dsimp only
    split
    · rfl
    · exact CP.lasting_of_withWheel_eq (s.requestSource_pointer_keys _).1
  | release =>
    unfold State.command
    dsimp only
    split
    · rfl
    · exact CP.lasting_of_withWheel_eq (s.releaseSource_withWheel _)
  | acknowledge => simp [State.command, CP.obey]
  | confine => rfl
  | leave => rfl

end Sys2Proof.Machine
end

section
/-!
PROOF. A change of the raw snapshot (03_keys_lamps_and_hotkeys.md, R40 to R47): what snapshots hold, what the passed
form and the hotkey machine make of a change, and the change taken whole.
-/

namespace Sys2Proof.Machine

/-! ### Snapshots -/

theorem mem_insertKey {k j : Byte} : ∀ {l : List Byte}, k ∈ insertKey j l ↔ k = j ∨ k ∈ l
  | [] => by simp [insertKey]
  | i :: r => by
    unfold insertKey
    split
    · rename_i h; subst h; simp
    · split
      · simp
      · simp [mem_insertKey (l := r), or_left_comm]

theorem Snapshot.mem_union_keys {k : Byte} {a b : Snapshot} : k ∈ (a.union b).keys ↔ k ∈ a.keys ∨ k ∈ b.keys := by
  have hfold (l : List Byte) : k ∈ l.foldr insertKey b.keys ↔ k ∈ l ∨ k ∈ b.keys := by
    induction l with
    | nil => simp
    | cons j r ih => simp [mem_insertKey, ih, or_assoc]
  exact hfold a.keys

theorem Snapshot.minus_keys_eq_nil {a b : Snapshot} (h : ∀ k ∈ a.keys, k ∈ b.keys) : (a.minus b).keys = [] := by
  simpa [Snapshot.minus] using h

@[simp] theorem Snapshot.minus_self (a : Snapshot) : a.minus a = .released := by
  simp [Snapshot.minus, Snapshot.released]

@[simp] theorem Snapshot.released_minus (a : Snapshot) : Snapshot.released.minus a = .released := by
  simp [Snapshot.minus, Snapshot.released]

/-- What lies within a snapshot is all of its part in it. -/
theorem Snapshot.inter_eq_of_minus_eq {a b : Snapshot} (h : a.minus b = .released) : a.inter b = a := by
  obtain ⟨hmods, hkeys⟩ : a.mods &&& ~~~b.mods = 0 ∧ ∀ k ∈ a.keys, k ∈ b.keys := by
    simpa [Snapshot.minus, Snapshot.released] using h
  have hsplit : a.mods &&& b.mods = a.mods := by
    ext n hn
    have hbit := congrArg (fun m : Byte => m.getLsbD n) hmods
    simp [hn] at hbit ⊢
    exact hbit
  cases a with
  | mk mods keys => simpa [Snapshot.inter, hsplit] using hkeys

/-! ### The passed form and the hotkey machine (R41, R43 to R47) -/

/-- The union reads the ports' keyboard states alone (R40). -/
theorem II.unionKeys_congr {i j : II} (h : ∀ k, (i.ports.get k).keys = (j.ports.get k).keys) :
    i.unionKeys = j.unionKeys :=
  congrArg₂ Snapshot.union (h 0) (h 1)

/-- The change of the raw snapshot that the hotkey machine takes, without the presses of a report consumed (R43; log
18). -/
def II.rawChange (i : II) (consumed : Bool) : RawChange :=
  ⟨i.raw, if consumed then i.unionKeys.inter i.raw else i.unionKeys⟩

/-- The last passed snapshot brought up to date, which it is not in COMMAND (R41, R46). -/
def II.passOn (i : II) : II := if i.hotkey = .command then i else { i with passed := i.passedForm }

/-- The intake once the raw snapshot, the passed form and the hotkey machine have taken a change. -/
def II.keysHeard (i : II) (consumed : Bool) (now : Time) : II :=
  (i.takeRaw i.unionKeys consumed).passOn.hotkeyAfter (i.rawChange consumed) now

/-- The command that a change names, Escape's where it names none (R47). -/
def II.namedCommand (i : II) (consumed : Bool) : Command := (i.commandTaken (i.rawChange consumed)).getD .leave

@[simp] theorem II.takeRaw_frame (i : II) (new : Snapshot) (consumed : Bool) :
    (i.takeRaw new consumed).ports = i.ports ∧ (i.takeRaw new consumed).raw = new
      ∧ (i.takeRaw new consumed).passed = i.passed ∧ (i.takeRaw new consumed).hotkey = i.hotkey
      ∧ (i.takeRaw new consumed).tap = i.tap ∧ (i.takeRaw new consumed).leadSeen = i.leadSeen
      ∧ (i.takeRaw new consumed).command = i.command ∧ (i.takeRaw new consumed).lead = i.lead := by
  simp [II.takeRaw]

@[simp] theorem II.passOn_frame (i : II) :
    i.passOn.ports = i.ports ∧ i.passOn.raw = i.raw ∧ i.passOn.suppressed = i.suppressed ∧ i.passOn.hotkey = i.hotkey
      ∧ i.passOn.tap = i.tap ∧ i.passOn.leadSeen = i.leadSeen ∧ i.passOn.command = i.command
      ∧ i.passOn.lead = i.lead := by
  unfold II.passOn; split <;> simp

section Machine
variable (i : II) (c : RawChange) (now : Time)

@[simp] theorem II.hotkeyAfter_frame :
    (i.hotkeyAfter c now).ports = i.ports ∧ (i.hotkeyAfter c now).raw = i.raw
      ∧ (i.hotkeyAfter c now).suppressed = i.suppressed ∧ (i.hotkeyAfter c now).passed = i.passed
      ∧ (i.hotkeyAfter c now).tap = c.tapAfter i.lead i.tap := by
  unfold II.hotkeyAfter; dsimp only; (repeat' split) <;> simp

variable {i c}

/-- NORMAL is left by a tap of the lead alone (R44). -/
theorem II.hotkeyAfter_of_normal (h : i.hotkey = .normal) :
    i.hotkeyAfter c now =
      if c.completesTap i.tap then { i with tap := c.tapAfter i.lead i.tap, hotkey := .leadSeen, leadSeen := some now }
      else { i with tap := c.tapAfter i.lead i.tap } := by
  simp only [II.hotkeyAfter, h]

/-- LEAD-SEEN is left by a second tap, or by a press of anything but the lead (R45). -/
theorem II.hotkeyAfter_of_leadSeen (h : i.hotkey = .leadSeen) :
    i.hotkeyAfter c now =
      if c.completesTap i.tap then
        { i with tap := c.tapAfter i.lead i.tap, hotkey := .command, leadSeen := none, command := some now }
      else if c.pressed.minus i.lead.alone ≠ .released then
        { i with tap := c.tapAfter i.lead i.tap, hotkey := .normal, leadSeen := none }
      else { i with tap := c.tapAfter i.lead i.tap } := by
  simp only [II.hotkeyAfter, h]

/-- COMMAND is left by a newly pressed key code (R47). -/
theorem II.hotkeyAfter_of_command (h : i.hotkey = .command) :
    i.hotkeyAfter c now =
      if c.pressed.keys = [] then { i with tap := c.tapAfter i.lead i.tap }
      else { i with tap := c.tapAfter i.lead i.tap, hotkey := .normal, command := none } := by
  unfold II.hotkeyAfter RawChange.commandKey
  simp only [h]
  cases c.pressed.keys <;> rfl

/-- Outside COMMAND a change leads into it exactly when it enters it (R46). -/
theorem II.hotkeyAfter_eq_command_iff (h : i.hotkey ≠ .command) :
    (i.hotkeyAfter c now).hotkey = .command ↔ i.entersCommand c = true := by
  cases hk : i.hotkey with
  | normal => rw [II.hotkeyAfter_of_normal _ hk]; split <;> simp [II.entersCommand, hk]
  | leadSeen =>
    rw [II.hotkeyAfter_of_leadSeen _ hk]
    simp only [II.entersCommand, hk]
    split
    · simp_all
    · split <;> simp_all
  | command => exact absurd hk h

/-- A press of anything but the lead completes no tap (R43, R45). -/
theorem RawChange.completesTap_eq_false {tap : Bool} {lead : Lead} (h : c.pressed.minus lead.alone ≠ .released) :
    c.completesTap tap = false := by
  have hnew : c.new ≠ .released := fun hr => h (by simp [RawChange.pressed, hr])
  simp [RawChange.completesTap, hnew]

theorem RawChange.tapAfter_of_lead {tap : Bool} {lead : Lead} (hold : c.old = .released) (hnew : c.new = lead.alone)
    (h : c.new ≠ .released) : c.tapAfter lead tap = true := by
  have hnot : c.completesTap tap = false := by simp [RawChange.completesTap, h]
  simp [RawChange.tapAfter, hnot, hold, ← hnew]

theorem RawChange.tapAfter_of_other {tap : Bool} {lead : Lead} (h : c.new.minus lead.alone ≠ .released) :
    c.tapAfter lead tap = false := by
  simp [RawChange.tapAfter, h]

theorem RawChange.tapAfter_of_tap {lead : Lead} (h : c.completesTap true = true) : c.tapAfter lead true = false := by
  simp [RawChange.tapAfter, h]

end Machine

/-! ### The intake after a change -/

section Heard
variable (i : II) (consumed : Bool) (now : Time)

@[simp] theorem II.keysHeard_frame :
    (i.keysHeard consumed now).ports = i.ports ∧ (i.keysHeard consumed now).raw = i.unionKeys
      ∧ (i.keysHeard consumed now).tap = (i.rawChange consumed).tapAfter i.lead i.tap := by
  simp [II.keysHeard]

theorem II.keysHeard_suppressed :
    (i.keysHeard consumed now).suppressed
      = (if i.hotkey = .command ∨ consumed = true then i.suppressed.union (i.unionKeys.minus i.raw)
          else i.suppressed).inter i.unionKeys := by
  simp [II.keysHeard, II.takeRaw]

variable {i}

theorem II.keysHeard_passed (h : i.hotkey ≠ .command) :
    (i.keysHeard consumed now).passed = i.unionKeys.minus (i.keysHeard consumed now).suppressed := by
  simp [II.keysHeard, II.takeRaw, II.passOn, h, II.passedForm]

theorem II.keysHeard_passed_of_command (h : i.hotkey = .command) : (i.keysHeard consumed now).passed = i.passed := by
  simp [II.keysHeard, II.passOn, h]

/-- Outside COMMAND no command is named (R47). -/
theorem II.namedCommand_eq_leave (h : i.hotkey ≠ .command) : i.namedCommand consumed = .leave := by
  simp [II.namedCommand, II.commandTaken, h]

/-- Nor is one without a newly pressed key code. -/
theorem II.namedCommand_of_no_press (h : (i.rawChange consumed).pressed.keys = []) :
    i.namedCommand consumed = .leave := by
  unfold II.namedCommand II.commandTaken RawChange.commandKey
  split <;> simp [h]

/-- The lowest newly pressed key code names the command (R47). -/
theorem II.namedCommand_of_press {k : Byte} {r : List Byte} (hc : i.hotkey = .command)
    (h : (i.rawChange consumed).pressed.keys = k :: r) : i.namedCommand consumed = commandOf k := by
  simp [II.namedCommand, II.commandTaken, RawChange.commandKey, hc, h]

end Heard

/-! ### The change taken whole (R40) -/

/-- What FU is offered is apart from II (R66). -/
@[simp] theorem State.offerSnapshot_setII (s : State) (i : II) (k : Snapshot) :
    (s.setII i).offerSnapshot k = (s.offerSnapshot k).setII i := by
  have hfocus : (s.setII i).focusRecord = s.focusRecord := rfl
  unfold State.offerSnapshot
  rw [hfocus]
  cases s.focusRecord with
  | none => rfl
  | some r =>
    simp only [State.setII_fu, apply_ite (fun u : State => u.setII i)]
    rfl

/-- FU's part of a change of the raw snapshot: it is offered a passed snapshot that differs from the last one, and an
all-released one on entry to COMMAND (R41, R46). -/
def State.offered (s : State) (k : Snapshot) (entered : Bool) : State :=
  let u := if k = s.ii.passed then s else s.offerSnapshot k
  if entered then u.offerSnapshot .released else u

@[simp] theorem State.offered_frame (s : State) (k : Snapshot) (e : Bool) :
    (s.offered k e).pending = s.pending ∧ (s.offered k e).now = s.now ∧ (s.offered k e).role = s.role
      ∧ (s.offered k e).sa = s.sa ∧ (s.offered k e).pu = s.pu ∧ (s.offered k e).fp = s.fp ∧ (s.offered k e).cu = s.cu
      ∧ (s.offered k e).ts = s.ts ∧ (s.offered k e).ca = s.ca ∧ (s.offered k e).wp = s.wp
      ∧ (s.offered k e).ii = s.ii ∧ (s.offered k e).cp = s.cp ∧ (s.offered k e).sr = s.sr
      ∧ (s.offered k e).hu = s.hu := by
  unfold State.offered; dsimp only; (repeat' split) <;> simp

theorem State.setII_setII (s : State) (i j : II) : (s.setII i).setII j = s.setII j := rfl

theorem State.offered_takeRaw (s : State) (new : Snapshot) (consumed : Bool) (k : Snapshot) (e : Bool) :
    (s.setII (s.ii.takeRaw new consumed)).offered k e = (s.offered k e).setII (s.ii.takeRaw new consumed) := by
  have hkept : (s.ii.takeRaw new consumed).passed = s.ii.passed := rfl
  simp only [State.offered, State.setII_ii, hkept]
  by_cases hk : k = s.ii.passed <;> cases e <;> simp [hk]

/-- The offer on entry to COMMAND comes last. -/
theorem State.offered_setII_entry (s : State) (k : Snapshot) (e : Bool) (i : II) :
    (if e = true then ((s.offered k false).setII i).offerSnapshot .released else (s.offered k false).setII i)
      = (s.offered k e).setII i := by
  cases e <;> simp [State.offered]

/-- The state once II has taken a change of the raw snapshot and FU what it is offered, before the command. -/
def State.keysHeard (s : State) (consumed : Bool) : State :=
  (s.offered (s.ii.keysHeard consumed s.now).passed (s.ii.entersCommand (s.ii.rawChange consumed))).setII
    (s.ii.keysHeard consumed s.now)

/-- Handing on the passed form is II's and FU's part of it (R41). -/
theorem State.handPassed_eq (s : State) : s.handPassed = (s.offered s.ii.passOn.passed false).setII s.ii.passOn := by
  unfold State.handPassed II.passOn State.offered
  by_cases hc : s.ii.hotkey = .command
  · simp only [hc, ne_eq, not_true_eq_false, decide_false, Bool.false_and, Bool.false_eq_true, if_false, if_true]
    rfl
  · by_cases hp : s.ii.passedForm = s.ii.passed
    · simp only [hc, hp, if_true, if_false, ne_eq, not_true_eq_false, decide_false, Bool.and_false, Bool.false_eq_true]
      rfl
    · simp [hc, hp]

section Changed
variable (s : State) (consumed : Bool)

@[simp] theorem State.keysHeard_frame :
    (s.keysHeard consumed).pending = s.pending ∧ (s.keysHeard consumed).now = s.now
      ∧ (s.keysHeard consumed).role = s.role ∧ (s.keysHeard consumed).sa = s.sa ∧ (s.keysHeard consumed).pu = s.pu
      ∧ (s.keysHeard consumed).fp = s.fp ∧ (s.keysHeard consumed).cu = s.cu ∧ (s.keysHeard consumed).ts = s.ts
      ∧ (s.keysHeard consumed).ca = s.ca ∧ (s.keysHeard consumed).wp = s.wp
      ∧ (s.keysHeard consumed).ii = s.ii.keysHeard consumed s.now ∧ (s.keysHeard consumed).cp = s.cp
      ∧ (s.keysHeard consumed).sr = s.sr ∧ (s.keysHeard consumed).hu = s.hu := by
  simp [State.keysHeard]

theorem State.rawChanged_of_same {s : State} (h : s.ii.unionKeys = s.ii.raw) : s.rawChanged consumed = s := if_pos h

/-- A changed raw snapshot is heard, and then its command is carried out. -/
theorem State.rawChanged_of_ne {s : State} (h : s.ii.unionKeys ≠ s.ii.raw) :
    s.rawChanged consumed = (s.keysHeard consumed).command (s.ii.namedCommand consumed) := by
  have hchange : (⟨s.ii.raw, if consumed then s.ii.unionKeys.inter s.ii.raw else s.ii.unionKeys⟩ : RawChange)
      = s.ii.rawChange consumed := rfl
  have henters : II.entersCommand (s.ii.takeRaw s.ii.unionKeys consumed).passOn (s.ii.rawChange consumed)
      = s.ii.entersCommand (s.ii.rawChange consumed) := by simp [II.entersCommand]
  have hnames : II.commandTaken (s.ii.takeRaw s.ii.unionKeys consumed).passOn (s.ii.rawChange consumed)
      = s.ii.commandTaken (s.ii.rawChange consumed) := by simp [II.commandTaken]
  have hmachine : (s.ii.takeRaw s.ii.unionKeys consumed).passOn.hotkeyAfter (s.ii.rawChange consumed) s.now
      = s.ii.keysHeard consumed s.now := rfl
  have hpassed : (s.ii.takeRaw s.ii.unionKeys consumed).passOn.passed = (s.ii.keysHeard consumed s.now).passed := by
    simp [II.keysHeard]
  unfold State.rawChanged
  simp only [if_neg h, State.handPassed_eq, hchange, henters, hnames, State.setII_ii, State.setII_now,
    State.offered_frame, hmachine, hpassed, State.offered_takeRaw, State.setII_setII, State.offered_setII_entry]
  unfold II.namedCommand
  cases s.ii.commandTaken (s.ii.rawChange consumed) <;> rfl

/-- Whatever its command does, a change of the raw snapshot keeps the ports but for lamp reports in flight. -/
@[simp] theorem State.rawChanged_sansFlight (j : Fin 2) :
    ((s.rawChanged consumed).ii.ports.get j).sansFlight = (s.ii.ports.get j).sansFlight := by
  by_cases h : s.ii.unionKeys = s.ii.raw
  · rw [State.rawChanged_of_same consumed h]
  · rw [State.rawChanged_of_ne consumed h]
    have hkept := II.eq_of_sansFlights_eq
      (State.command_sansFlights (s.keysHeard consumed) (s.ii.namedCommand consumed))
    obtain ⟨-, -, -, -, -, -, -, hports⟩ := hkept
    simpa using hports j

@[simp] theorem State.rawChanged_portButtons : (s.rawChanged consumed).cp.portButtons = s.cp.portButtons := by
  by_cases h : s.ii.unionKeys = s.ii.raw
  · rw [State.rawChanged_of_same consumed h]
  · rw [State.rawChanged_of_ne consumed h]
    obtain ⟨-, -, -, -, -, hbuttons⟩ := CP.eq_of_lasting_eq
      (State.command_lasting (s.keysHeard consumed) (s.ii.namedCommand consumed))
    simpa using hbuttons

/-- A change without a command is II's and FU's alone. -/
theorem State.rawChanged_frame_of_leave {s : State} (h : s.ii.namedCommand consumed = .leave) :
    (s.rawChanged consumed).sa = s.sa ∧ (s.rawChanged consumed).fp = s.fp ∧ (s.rawChanged consumed).cp = s.cp
      ∧ (s.rawChanged consumed).sr = s.sr ∧ (s.rawChanged consumed).hu = s.hu := by
  by_cases hraw : s.ii.unionKeys = s.ii.raw
  · simp [State.rawChanged_of_same consumed hraw]
  · simp [State.rawChanged_of_ne consumed hraw, h, State.command]

end Changed

end Sys2Proof.Machine
end

section
/-!
PROOF. The host ports and their transfers (03_keys_lamps_and_hotkeys.md, R35 to R38, R50): the interfaces found in a
description, a port's record cleared, and the statements about ports and transfers assembled from them.
-/

namespace Sys2Proof.Machine

/-! ### The interfaces of a description (R36) -/

theorem servedOf_eq_none_iff {k : IfaceKind} : ∀ {n : Nat} {l : List Interface},
    servedOf k n l = none ↔ ∀ j ∈ l, j.kind ≠ k
  | _, [] => by simp [servedOf]
  | n, i :: r => by
    unfold servedOf
    split
    · simp_all
    · simp_all [servedOf_eq_none_iff (n := n + 1) (l := r)]

theorem servedOf_isSome_iff {k : IfaceKind} {n : Nat} {l : List Interface} :
    (servedOf k n l).isSome = true ↔ ∃ j ∈ l, j.kind = k := by
  rw [← Option.not_isNone, Bool.not_eq_true', Option.isNone_eq_false_iff, Option.isSome_iff_ne_none, ne_eq,
    servedOf_eq_none_iff]
  simp

/-- The interface served is the first of its kind, at its place and interval. -/
theorem servedOf_eq_some {k : IfaceKind} {v : Served} : ∀ {n : Nat} {l : List Interface}, servedOf k n l = some v →
    ∃ m q, v.place = n + m ∧ l[m]? = some q ∧ q.kind = k ∧ q.interval = v.interval
      ∧ ∀ a r, a < m → l[a]? = some r → r.kind ≠ k
  | _, [], h => by simp [servedOf] at h
  | n, i :: l, h => by
    unfold servedOf at h
    split at h
    · rename_i hk
      cases h
      exact ⟨0, i, rfl, rfl, hk, rfl, by simp⟩
    · rename_i hk
      obtain ⟨m, q, hplace, hq, hkind, hint, hfirst⟩ := servedOf_eq_some h
      refine ⟨m + 1, q, by omega, by simpa using hq, hkind, hint, fun a r ha hr => ?_⟩
      cases a with
      | zero => simp at hr; exact hr ▸ hk
      | succ b => exact hfirst b r (by omega) (by simpa using hr)

/-- The same for a whole description, whose places count from 0. -/
theorem servedOf_zero_eq_some {k : IfaceKind} {v : Served} {l : List Interface} (h : servedOf k 0 l = some v) :
    ∃ q, l[v.place]? = some q ∧ q.kind = k ∧ q.interval = v.interval
      ∧ ∀ n r, n < v.place → l[n]? = some r → r.kind ≠ k := by
  obtain ⟨m, q, hplace, hq, hkind, hint, hfirst⟩ := servedOf_eq_some h
  obtain rfl : m = v.place := by omega
  exact ⟨q, hq, hkind, hint, hfirst⟩

/-! ### A port's record cleared (R35, R38) -/

theorem one_sub_ne (i : Fin 2) : 1 - i ≠ i := by decide +revert

/-- Recomputing a condition's current bit makes it as its state stands (R185). -/
theorem State.setCurrent_has (s : State) (c : Cond) (b : Bool) : (s.setCurrent c b).sa.current.has c = b := by
  have hbit : c.bit.getLsbD c.index = true := by cases c <;> decide
  have hwidth : c.index < 16 := by cases c <;> decide
  cases b <;> simp [State.setCurrent, SA.setCurrent, CondSet.has, hbit, hwidth]

/-- DEVICE-UNSUPPORTED stands as the ports do (R37). -/
theorem State.recomputeDevices_has (s : State) (i : Fin 2) :
    s.recomputeDevices.sa.current.has .deviceUnsupported = true
      ↔ (s.ii.ports.get i).state = .unsupported ∨ (s.ii.ports.get (1 - i)).state = .unsupported := by
  unfold State.recomputeDevices
  rw [State.setCurrent_has]
  match i with
  | 0 => simp [Pair.get]
  | 1 => simp [Pair.get, or_comm]

section Cleared
variable (s : State) (i : Fin 2) (p : HostPort)

/-- The state in which a cleared port's record, its mouse's buttons and the pointer field are set. -/
def State.portEmptied (s : State) (i : Fin 2) (p : HostPort) : State :=
  ((s.putPort i p).setCP (s.cp.setButtons i 0)).recomputeField

theorem State.clearPort_eq :
    s.clearPort i p = ((s.portEmptied i p).rawChanged false).recomputeDevices.judgeInput := rfl

@[simp] theorem State.portEmptied_frame :
    (s.portEmptied i p).ii = { s.ii with ports := s.ii.ports.set i p }
      ∧ (s.portEmptied i p).sr = s.sr ∧ (s.portEmptied i p).cp.lasting = (s.cp.setButtons i 0).lasting
      ∧ (s.portEmptied i p).cp.portButtons = s.cp.portButtons.set i 0 := by
  simp [State.portEmptied, State.putPort, State.recomputeField, CP.setButtons]
  rfl

/-- Clearing a port changes the ports' records as it is told, but for lamp reports in flight. -/
theorem State.clearPort_sansFlight (j : Fin 2) :
    ((s.clearPort i p).ii.ports.get j).sansFlight = ((s.ii.ports.set i p).get j).sansFlight := by
  obtain ⟨-, -, -, -, -, -, -, hjudged⟩ := II.eq_of_sansFlights_eq
    (State.judgeInput_ports_conds ((s.portEmptied i p).rawChanged false).recomputeDevices).1
  rw [State.clearPort_eq, hjudged j]
  simp

variable {p}

/-- A record cleared into a state other than POLLING stands as it was put. -/
theorem State.clearPort_port (h : p.state ≠ .polling) : (s.clearPort i p).ii.ports.get i = p := by
  obtain ⟨-, -, -, -, hsame⟩ := HostPort.eq_of_sansFlight_eq ((s.clearPort_sansFlight i p i).trans
    (congrArg HostPort.sansFlight (Pair_get_set_same ..)))
  exact hsame h

variable (p)

theorem State.clearPort_other :
    ((s.clearPort i p).ii.ports.get (1 - i)).sansFlight = (s.ii.ports.get (1 - i)).sansFlight := by
  rw [State.clearPort_sansFlight, Pair_get_set_other _ _ _ _ (one_sub_ne i)]

theorem State.clearPort_other_keys :
    ((s.clearPort i p).ii.ports.get (1 - i)).keys = (s.ii.ports.get (1 - i)).keys := by
  obtain ⟨-, hkeys, -⟩ := HostPort.eq_of_sansFlight_eq (s.clearPort_other i p)
  exact hkeys

/-- Its mouse's buttons are empty, and the other port's as they were (R18). -/
theorem State.clearPort_portButtons : (s.clearPort i p).cp.portButtons = s.cp.portButtons.set i 0 := by
  obtain ⟨-, -, -, -, -, hbuttons⟩ := CP.eq_of_lasting_eq
    (State.judgeInput_lasting ((s.portEmptied i p).rawChanged false).recomputeDevices)
  rw [State.clearPort_eq, hbuttons]
  simp

theorem State.clearPort_has :
    (s.clearPort i p).sa.current.has .deviceUnsupported = true
      ↔ p.state = .unsupported ∨ (s.ii.ports.get (1 - i)).state = .unsupported := by
  have hstate (j : Fin 2) : (((s.portEmptied i p).rawChanged false).ii.ports.get j).state
      = ((s.ii.ports.set i p).get j).state :=
    (HostPort.eq_of_sansFlight_eq (((s.portEmptied i p).rawChanged_sansFlight false j).trans (by simp))).1
  rw [State.clearPort_eq, State.judgeInput_current, State.recomputeDevices_has _ i, hstate, hstate, Pair_get_set_same,
    Pair_get_set_other _ _ _ _ (one_sub_ne i)]

variable {p}

/-- What a disconnection and a port reset both come to: the record as put, the buttons empty, and the other port's keys
and buttons kept. -/
theorem State.clearPort_clears (h : p.state ≠ .polling) :
    (s.clearPort i p).ii.ports.get i = p ∧ (s.clearPort i p).cp.portButtons.get i = 0
      ∧ (s.clearPort i p).cp.portButtons.get (1 - i) = s.cp.portButtons.get (1 - i)
      ∧ ((s.clearPort i p).ii.ports.get (1 - i)).keys = (s.ii.ports.get (1 - i)).keys
      ∧ s.sameSource (s.clearPort i p) := by
  rw [State.clearPort_portButtons, Pair_get_set_same, Pair_get_set_other _ _ _ _ (one_sub_ne i)]
  exact ⟨s.clearPort_port i h, rfl, rfl, s.clearPort_other_keys i p, by simp [State.sameSource]⟩

variable {s}

/-- A release presses nothing: while the raw snapshot is the union of the ports', a port's keys released name no
command. -/
theorem State.portEmptied_namedCommand (hraw : s.ii.raw = s.ii.unionKeys) (hp : p.keys = .released) :
    (s.portEmptied i p).ii.namedCommand false = .leave := by
  have hget (j : Fin 2) : ∀ k ∈ ((s.ii.ports.set i p).get j).keys.keys, k ∈ s.ii.raw.keys := by
    intro k hk
    rw [hraw, II.unionKeys, Snapshot.mem_union_keys]
    rw [Pair_get_set] at hk
    split at hk
    · simp [hp, Snapshot.released] at hk
    · match j with
      | 0 => exact .inl hk
      | 1 => exact .inr hk
  refine II.namedCommand_of_no_press false (Snapshot.minus_keys_eq_nil fun k hk => ?_)
  simp only [State.portEmptied_frame, II.rawChange, Bool.false_eq_true, if_false, II.unionKeys,
    Snapshot.mem_union_keys] at hk ⊢
  exact hk.elim (hget 0 k) (hget 1 k)

/-- It then leaves SR, and CP but for the wheel sum, the field and the buttons. -/
theorem State.clearPort_quiet (hraw : s.ii.raw = s.ii.unionKeys) (hp : p.keys = .released) :
    (s.clearPort i p).sr = s.sr ∧ (s.clearPort i p).cp.lasting = (s.cp.setButtons i 0).lasting := by
  obtain ⟨-, -, hcp, hsr, -⟩ := State.rawChanged_frame_of_leave false (State.portEmptied_namedCommand i hraw hp)
  simp [State.clearPort_eq, hcp, hsr]

end Cleared

/-! ### HOST_DEVICE_DISCONNECT and ENUMERATION_COMPLETE (R35, R36) -/

theorem exec_hostDeviceDisconnect {s : State} {i : Fin 2} (hoff : (s.ii.ports.get i).state ≠ .off)
    (hdet : (s.ii.ports.get i).state ≠ .detached) :
    exec (.hostDeviceDisconnect i) s = .next (s.clearPort i
      { HostPort.reset with state := .detached, vbusEn := (s.ii.ports.get i).vbusEn }) := by
  simp [exec, execHostDeviceDisconnect, hoff, hdet, HostPort.cleared, HostPort.reset]

/-- The record of a port whose device is served: POLLING, with the lamps offered to a keyboard. -/
def HostPort.serving (p : HostPort) (l : List Interface) (shown : Lamps) : HostPort :=
  HostPort.offerLamps { p with
    keyboard := servedOf .bootKeyboard 0 l
    mouse := servedOf .bootMouse 0 l
    state := .polling
    lampsSent := none } shown

@[simp] theorem HostPort.serving_frame (p : HostPort) (l : List Interface) (v : Lamps) :
    (p.serving l v).state = .polling ∧ (p.serving l v).lampsSent = none
      ∧ (p.serving l v).keyboard = servedOf .bootKeyboard 0 l ∧ (p.serving l v).mouse = servedOf .bootMouse 0 l := by
  unfold HostPort.serving
  obtain h | ⟨-, h⟩ := HostPort.offerLamps_eq { p with
    keyboard := servedOf .bootKeyboard 0 l, mouse := servedOf .bootMouse 0 l, state := .polling, lampsSent := none } v
    <;> simp [h]

/-- A keyboard is sent the shown lamps, for UNKNOWN differs from any value (R50). -/
theorem HostPort.serving_lampFlight {p : HostPort} {l : List Interface} (v : Lamps)
    (hk : (servedOf .bootKeyboard 0 l).isSome = true) (hflight : p.lampFlight = none) (hretry : p.lampRetry = none) :
    (p.serving l v).lampFlight = some v := by
  simp [HostPort.serving, HostPort.offerLamps, hk, hflight, hretry]

section Enumeration
variable {s : State} {i : Fin 2} {l : List Interface}

theorem exec_enumerationComplete_of_other (he : (s.ii.ports.get i).state = .enumerating)
    (h : ∀ j ∈ l, j.kind = .other) :
    exec (.enumerationComplete i l) s = .next ((s.putPort i { s.ii.ports.get i with
      keyboard := none, mouse := none, state := .unsupported }).raise .deviceUnsupported) := by
  have hnone (k : IfaceKind) (hk : k ≠ .other) : servedOf k 0 l = none :=
    servedOf_eq_none_iff.2 fun j hj hjk => hk (hjk.symm.trans (h j hj))
  simp [exec, execEnumerationComplete, he, hnone, State.unsupportedPort]

theorem exec_enumerationComplete_of_boot (he : (s.ii.ports.get i).state = .enumerating)
    (h : ∃ j ∈ l, j.kind ≠ .other) :
    exec (.enumerationComplete i l) s = .next (s.putPort i ((s.ii.ports.get i).serving l s.ii.shown)) := by
  have hsome : ¬ (servedOf .bootKeyboard 0 l = none ∧ servedOf .bootMouse 0 l = none) := by
    simp only [servedOf_eq_none_iff]
    rintro ⟨hkeyboard, hmouse⟩
    obtain ⟨j, hj, hne⟩ := h
    cases hk : j.kind with
    | bootKeyboard => exact hkeyboard j hj hk
    | bootMouse => exact hmouse j hj hk
    | other => exact hne hk
  simp [exec, execEnumerationComplete, he, hsome, HostPort.serving]

theorem State.enumerationFails_eq (s : State) (i : Fin 2) :
    s.enumerationFails i =
      if 3 ≤ (s.ii.ports.get i).attempts + 1 then
        (s.putPort i { s.ii.ports.get i with
          attempts := (s.ii.ports.get i).attempts + 1, state := .unsupported }).raise .deviceUnsupported
      else s.putPort i { s.ii.ports.get i with attempts := (s.ii.ports.get i).attempts + 1 } := rfl

theorem exec_enumerationFailure (he : (s.ii.ports.get i).state = .enumerating) :
    exec (.enumerationFailure i) s = .next (s.enumerationFails i) := by
  simp [exec, execEnumerationFailure, he]

end Enumeration

@[simp] theorem State.putPort_get_same (s : State) (i : Fin 2) (p : HostPort) :
    (s.putPort i p).ii.ports.get i = p := by simp [State.putPort]

/-- Settles O43 (R35, R36, R37): a port's record is put, cleared or served, and whatever a cleared one brings keeps the
port, for it is not POLLING. -/
theorem hostPortStates : Obligations.HostPortStates := by
  rintro s i p rfl
  refine ⟨fun hdet => by simp [exec, execHostDeviceConnect, hdet], fun hoff hdet => ?_, fun he =>
    ⟨fun l h => exec_enumerationComplete_of_other he h, fun l j hj hne => ?_, fun hfew => ?_, fun hmany => ?_⟩⟩
  · have hrun := exec_hostDeviceDisconnect hoff hdet
    generalize hq : ({ HostPort.reset with state := .detached, vbusEn := (s.ii.ports.get i).vbusEn } : HostPort) = q
      at hrun
    have hstate : q.state = .detached := by rw [← hq]
    obtain ⟨hport, hbuttons, hotherButtons, hother, hsource⟩ := s.clearPort_clears i (p := q) (by simp [hstate])
    refine ⟨_, hrun, hport, hbuttons, hotherButtons, hother, ?_, hsource, fun hraw => ?_⟩
    · simp [State.clearPort_has, hstate]
    · obtain ⟨hsr, hcp⟩ := State.clearPort_quiet i (p := q) hraw (by rw [← hq]; rfl)
      obtain ⟨hlayout, hconfine, hx, hy, hhead, -⟩ := CP.eq_of_lasting_eq hcp
      exact ⟨hsr, hlayout, hconfine, hx, hy, hhead⟩
  · refine ⟨_, exec_enumerationComplete_of_boot he ⟨j, hj, hne⟩, ?_⟩
    simp only [State.putPort_get_same, HostPort.serving_frame, true_and]
    exact ⟨servedOf_isSome_iff.symm, servedOf_isSome_iff.symm, fun v hv => servedOf_zero_eq_some hv,
      fun v hv => servedOf_zero_eq_some hv, fun hk hflight hretry => HostPort.serving_lampFlight _ hk hflight hretry⟩
  · rw [exec_enumerationFailure he, State.enumerationFails_eq, if_neg (by omega)]
  · rw [exec_enumerationFailure he, State.enumerationFails_eq, if_pos hmany]

/-! ### Transfers (R36, R38) and lamp reports (R50) -/

theorem HostPort.state_of_makes {p : HostPort} {x : Transfer} (h : p.makes x = true) : p.state = .polling := by
  simp [HostPort.makes] at h; exact h.1

/-- In POLLING both commands fail the transfer. -/
theorem exec_of_transfer_failed {s : State} {i : Fin 2} {x : Transfer} {c : Instr}
    (hx : (s.ii.ports.get i).makes x = true) (hc : c = .transferUnanswered i x ∨ c = .pollTransferFailure i x) :
    exec c s = .next (s.transferFails i x) := by
  obtain rfl | rfl := hc
  · simp [exec, execTransferUnanswered, HostPort.state_of_makes hx, hx]
  · simp [exec, execPollTransferFailure, hx]

theorem HostPort.failed_errors (p : HostPort) (x : Transfer) (now : Time) :
    (p.failed x now).errors = p.errors + 1 := by
  unfold HostPort.failed; dsimp only; split <;> rfl

theorem HostPort.failed_cleared (p : HostPort) (x : Transfer) (now : Time) (st : HostState) :
    (p.failed x now).cleared st = p.cleared st := by
  unfold HostPort.failed; dsimp only; split <;> rfl

/-- A port reset keeps the interfaces served beside the power (R38; log 29). -/
theorem HostPort.cleared_eq (p : HostPort) (st : HostState) :
    p.cleared st = { HostPort.reset with state := st, vbusEn := p.vbusEn, keyboard := p.keyboard, mouse := p.mouse } :=
  rfl

/-- The third failure in a row resets the port, and one before it is counted (R38). -/
theorem State.transferFails_eq (s : State) (i : Fin 2) (x : Transfer) :
    s.transferFails i x =
      if 3 ≤ (s.ii.ports.get i).errors + 1 then s.clearPort i ((s.ii.ports.get i).cleared .enumerating)
      else s.putPort i ((s.ii.ports.get i).failed x s.now) := by
  simp only [State.transferFails, HostPort.failed_errors, HostPort.failed_cleared]

/-- A lamp report acknowledged is noted, and another follows when the shown value has changed and the port is to be
told (R50). -/
theorem exec_lampReportComplete {s : State} {i : Fin 2} {v : Lamps} (h : (s.ii.ports.get i).lampFlight = some v) :
    exec (.lampReportComplete i) s = .next (s.putPort i (HostPort.offerLamps { s.ii.ports.get i with
      errors := 0, lampsSent := some v, lampFlight := none } s.ii.shown)) := by
  simp [exec, execLampReportComplete, h, HostPort.answered]

/-- Settles O44 (R36, R38, R50): a failed transfer is counted or clears the port, and a lamp report is noted or sent
again. -/
theorem transfersResult : Obligations.TransfersResult := by
  rintro s i p rfl
  refine ⟨fun x hx => ⟨fun c hc => ?_, fun hne => ?_⟩, fun he x => ?_,
    fun v hv => ⟨fun h => ?_, fun hne hr hp hk => ?_⟩, fun u hu hdue hp hk => ?_⟩
  · rw [exec_of_transfer_failed hx hc, State.transferFails_eq]
    refine ⟨fun hfew hne => ?_, fun hfew hlamp => ?_, fun hmany => ?_⟩
    · rw [if_neg (by omega)]; simp [HostPort.failed, hne]
    · rw [if_neg (by omega)]; simp [HostPort.failed, hlamp]
    · rw [if_pos hmany]
      obtain ⟨hport, hbuttons, hotherButtons, hother, hsource⟩ :=
        s.clearPort_clears i (p := (s.ii.ports.get i).cleared .enumerating) (by simp [HostPort.cleared])
      exact ⟨_, rfl, hport.trans (HostPort.cleared_eq ..), hbuttons, hotherButtons, hother, hsource⟩
  · simp [exec, execPollAnsweredWithNoData, hx, hne, HostPort.answered]
  · simp [exec, execTransferUnanswered, execEnumerationFailure, he]
  · rw [exec_lampReportComplete hv]
    rw [HostPort.offerLamps, if_neg]
    obtain h | h | h | h := h
    · simp [h]
    · simp [Option.isSome_iff_ne_none.1 h]
    · simp [h]
    · simp [h]
  · rw [exec_lampReportComplete hv]
    simp [HostPort.offerLamps, hne, hr, hp, hk]
  · have hran : timerDue s.now (s.ii.ports.get i).lampRetry Config.lampRetryUs = true :=
      (timerDue_iff ..).2 ⟨u, hu, hdue⟩
    simp [exec, execLampRetryExpiry, hran, hp, hk]

end Sys2Proof.Machine
end

section
/-!
PROOF. Keyboard reports (03_keys_lamps_and_hotkeys.md, R38 to R42; 04_focus_at_the_desk.md, R66): what FU makes of an
offered snapshot, a report heard by its port and by HU, and the statement about reports outside COMMAND assembled from
them.
-/

namespace Sys2Proof.Machine

/-! ### Offers to FU (R66) -/

section Offer
variable {s : State} (k : Snapshot)

theorem State.offerSnapshot_of_none (h : s.focusRecord = none) : s.offerSnapshot k = s := by
  simp [State.offerSnapshot, h]

theorem State.offerSnapshot_of_not_holding {r : SrcRec} (h : s.focusRecord = some r) (hr : r.state ≠ .holding) :
    s.offerSnapshot k = s := by
  simp [State.offerSnapshot, h, hr]

/-- With the queue empty an offer is held against the snapshot noted. -/
theorem State.offerSnapshot_of_empty {r : SrcRec} (h : s.focusRecord = some r) (hr : r.state = .holding)
    (hq : s.fu.queue = []) :
    s.offerSnapshot k = if k = r.noted.snapshot then s else s.setFU { s.fu with queue := [k] } := by
  simp [State.offerSnapshot, h, hr, hq, Config.deskQueueMax]

/-- Else it is held against the tail, whose place it takes in a full queue. -/
theorem State.offerSnapshot_of_tail {r : SrcRec} {l : List Snapshot} {e : Snapshot} (h : s.focusRecord = some r)
    (hr : r.state = .holding) (hq : s.fu.queue = l ++ [e]) :
    s.offerSnapshot k =
      if k = e then s
      else if s.fu.queue.length < 16 then s.setFU { s.fu with queue := l ++ [e, k] }
      else s.setFU { s.fu with queue := l ++ [k] } := by
  simp [State.offerSnapshot, h, hr, hq, Config.deskQueueMax]

/-- What FU makes of offers depends on its own block, on CP and on the last passed snapshot alone. -/
theorem State.offered_fu_congr {s t : State} (hfu : t.fu = s.fu) (hcp : t.cp = s.cp) (hp : t.ii.passed = s.ii.passed)
    (k : Snapshot) (e : Bool) : (t.offered k e).fu = (s.offered k e).fu := by
  have hoffer {u v : State} (hfu : u.fu = v.fu) (hcp : u.cp = v.cp) (j : Snapshot) :
      (u.offerSnapshot j).fu = (v.offerSnapshot j).fu := by
    have hfocus : u.focusRecord = v.focusRecord := by simp [State.focusRecord, hfu, hcp]
    unfold State.offerSnapshot
    rw [hfocus, hfu]
    (repeat' split) <;> simp [hfu]
  unfold State.offered
  rw [hp]
  by_cases hk : k = s.ii.passed
  · cases e <;> simp [hk, hfu, hoffer hfu hcp]
  · cases e <;> simp [hk, hoffer hfu hcp, hoffer (hoffer hfu hcp k) (by simp [hcp])]

end Offer

/-! ### A report heard (R38, R39, R42) -/

theorem Pair_set_set {α : Type} (p : Pair α) (i : Fin 2) (a b : α) : (p.set i a).set i b = p.set i b := by
  unfold Pair.set; split <;> rfl

/-- What HU takes of activity is apart from II. -/
theorem State.activity_setII (s : State) (j : II) : (s.setII j).activity = s.activity.setII j := by
  simp only [State.activity, State.setII_hu, State.setII_now, apply_ite (fun u : State => u.setII j)]
  rfl

/-- A port's record once it has taken a report of eight bytes (R38, R39). -/
def II.portAfter (i : II) (port : Fin 2) (b : List Byte) : HostPort :=
  { i.ports.get port with
    errors := 0
    lastReport := some b
    keys := if i.rollsOver port b then (i.ports.get port).keys else reportSnapshot b }

/-- The state once a report of eight bytes has come in, and HU has been told of it unless it is the last one again. -/
def State.reportHeard (s : State) (i : Fin 2) (b : List Byte) : State :=
  let u := s.putPort i (s.ii.ports.get i).answered
  (if (s.ii.ports.get i).lastReport = some b then u else u.activity).takeKeys i b

/-- Whether a report is consumed on blanking wake (R42). -/
def State.consumes (s : State) (i : Fin 2) (b : List Byte) : Bool :=
  s.hu.blank && (s.ii.ports.get i).lastReport ≠ some b

/-- The state once the report has been taken by II and FU and its command carried out, before FU's judgement. -/
def State.reportTaken (s : State) (i : Fin 2) (b : List Byte) : State :=
  (s.reportHeard i b).rawChanged (s.consumes i b)

section Heard
variable (s : State) (i : Fin 2) (b : List Byte)

@[simp] theorem State.reportHeard_frame :
    (s.reportHeard i b).pending = s.pending ∧ (s.reportHeard i b).now = s.now ∧ (s.reportHeard i b).role = s.role
      ∧ (s.reportHeard i b).sa = s.sa ∧ (s.reportHeard i b).pu = s.pu ∧ (s.reportHeard i b).fp = s.fp
      ∧ (s.reportHeard i b).cu = s.cu ∧ (s.reportHeard i b).ts = s.ts ∧ (s.reportHeard i b).ca = s.ca
      ∧ (s.reportHeard i b).wp = s.wp ∧ (s.reportHeard i b).cp = s.cp ∧ (s.reportHeard i b).fu = s.fu
      ∧ (s.reportHeard i b).sr = s.sr := by
  unfold State.reportHeard; dsimp only; split <;> simp

@[simp] theorem State.reportHeard_ii :
    (s.reportHeard i b).ii = { s.ii with ports := s.ii.ports.set i (s.ii.portAfter i b) } := by
  have hroll (j : II) (q : HostPort) : II.rollsOver { j with ports := j.ports.set i q } i b = j.rollsOver i b := by
    simp [II.rollsOver, Pair_get_set_other _ _ _ _ (one_sub_ne i)]
  have htaken (u : State) (hu : u.ii = { s.ii with ports := s.ii.ports.set i (s.ii.ports.get i).answered }) :
      (u.takeKeys i b).ii = { s.ii with ports := s.ii.ports.set i (s.ii.portAfter i b) } := by
    simp only [State.takeKeys, State.putPort, State.setII_ii, hu, hroll, Pair_get_set_same, Pair_set_set]
    rfl
  unfold State.reportHeard
  dsimp only
  split
  · exact htaken _ rfl
  · exact htaken _ (by simp [State.putPort])

/-- HU takes a report that is not the last one again as activity. -/
theorem State.reportHeard_hu :
    (s.reportHeard i b).hu = if (s.ii.ports.get i).lastReport = some b then s.hu else s.activity.hu := by
  unfold State.reportHeard
  dsimp only
  split <;> simp [State.putPort, State.activity_setII]

end Heard

theorem State.activity_tBlank (s : State) : s.activity.hu.tBlank = s.hu.tBlank := by
  unfold State.activity; (repeat' split) <;> simp [State.recomputeHeads]

section Activity
variable {s : State} {i : Fin 2} {b : List Byte}

theorem State.reportHeard_hu_of_again (h : (s.ii.ports.get i).lastReport = some b) : (s.reportHeard i b).hu = s.hu := by
  rw [State.reportHeard_hu, if_pos h]

/-- Activity wakes a blanked desk, and else restarts the blank timer, where there is one (R163, R164). -/
theorem State.reportHeard_hu_of_new (h : (s.ii.ports.get i).lastReport ≠ some b) :
    (s.hu.blank = false → s.hu.tBlank ≠ 0 → (s.reportHeard i b).hu = { s.hu with count := 0, minute := some s.now })
      ∧ (s.hu.blank = false → s.hu.tBlank = 0 → (s.reportHeard i b).hu = s.hu)
      ∧ (s.hu.blank = true → (s.reportHeard i b).hu.blank = false ∧ (s.reportHeard i b).hu.count = 0
          ∧ (s.reportHeard i b).hu.minute = some s.now ∧ (s.reportHeard i b).hu.tBlank = s.hu.tBlank) := by
  rw [State.reportHeard_hu, if_neg h]
  refine ⟨fun hb ht => ?_, fun hb ht => ?_, fun hb => ?_⟩
  · rw [State.activity_restarts hb ht, State.setHU_hu]
  · rw [State.activity_of_no_timer hb ht]
  · obtain ⟨hblank, hcount, hminute⟩ := State.activity_wakes hb
    exact ⟨hblank, hcount, hminute, s.activity_tBlank⟩

theorem State.reportHeard_hu_of_quiet
    (h : (s.ii.ports.get i).lastReport = some b ∨ s.hu.blank = false ∧ s.hu.tBlank = 0) :
    (s.reportHeard i b).hu = s.hu := by
  by_cases hlast : (s.ii.ports.get i).lastReport = some b
  · exact State.reportHeard_hu_of_again hlast
  · obtain ⟨hb, ht⟩ := h.resolve_left hlast
    obtain ⟨-, hnone, -⟩ := State.reportHeard_hu_of_new hlast
    exact hnone hb ht

end Activity

section Report
variable {s : State} {i : Fin 2} {l : List Byte}

/-- A report of fewer than eight bytes is a successful transfer, and no more (R38; log 31). -/
theorem exec_keyboardReport_of_short (hp : (s.ii.ports.get i).state = .polling)
    (hk : (s.ii.ports.get i).keyboard.isSome = true) (h : l.length < 8) :
    exec (.keyboardReport i l) s = .next (s.putPort i { s.ii.ports.get i with errors := 0 }) := by
  simp [exec, execKeyboardReport, hp, hk, keyboardBytes, h, HostPort.answered]

/-- Of any other the first eight bytes are heard, the raw snapshot follows, and FU judges its INPUT (R39, R40). -/
theorem exec_keyboardReport_of_whole (hp : (s.ii.ports.get i).state = .polling)
    (hk : (s.ii.ports.get i).keyboard.isSome = true) (h : 8 ≤ l.length) :
    exec (.keyboardReport i l) s
      = .next (s.reportTaken i (l.take 8)).judgeInput := by
  have hrun : exec (.keyboardReport i l) s = execKeyboardReport i l s := rfl
  have hbytes : keyboardBytes l = some (l.take 8) := if_neg (Nat.not_lt.mpr h)
  by_cases hlast : (s.ii.ports.get i).lastReport = some (l.take 8)
  · simp [hrun, execKeyboardReport, hp, hk, hbytes, hlast, State.reportTaken, State.reportHeard, State.consumes]
  · simp [hrun, execKeyboardReport, hp, hk, hbytes, hlast, State.reportTaken, State.reportHeard, State.consumes]

end Report

/-! ### The change that a report brings outside COMMAND (R40, R41, R42, R46) -/

/-- A rollover report leaves the union of the ports' keys as it was. -/
theorem State.reportHeard_unionKeys_of_rollover {s : State} {i : Fin 2} {b : List Byte}
    (h : s.ii.rollsOver i b = true) : (s.reportHeard i b).ii.unionKeys = s.ii.unionKeys := by
  refine II.unionKeys_congr fun k => ?_
  rw [State.reportHeard_ii, Pair_get_set]
  split
  · rename_i hk; simp [II.portAfter, h, hk]
  · rfl

/-- From snapshots in order, a change outside COMMAND leaves them in order, and FU is offered what has changed. -/
theorem State.rawChanged_outside_command {u : State} (consumed : Bool) (hc : u.ii.hotkey ≠ .command)
    (hs : u.ii.suppressed.minus u.ii.raw = .released) (hp : u.ii.passed = u.ii.raw.minus u.ii.suppressed) :
    let v := u.rawChanged consumed
    v.ii.ports = u.ii.ports ∧ v.ii.raw = u.ii.unionKeys ∧ v.ii.passed = v.ii.raw.minus v.ii.suppressed
      ∧ (consumed = false → v.ii.suppressed = u.ii.suppressed.inter v.ii.raw)
      ∧ (consumed = true → v.ii.raw ≠ u.ii.raw →
          v.ii.suppressed = (u.ii.suppressed.union (v.ii.raw.minus u.ii.raw)).inter v.ii.raw)
      ∧ (v.ii.raw = u.ii.raw → v.ii.suppressed = u.ii.suppressed)
      ∧ v.fu = (u.offered v.ii.passed (v.ii.hotkey = .command)).fu := by
  intro v
  by_cases hraw : u.ii.unionKeys = u.ii.raw
  · have hv : v = u := State.rawChanged_of_same consumed hraw
    rw [hv]
    exact ⟨rfl, hraw.symm, hp, fun _ => (Snapshot.inter_eq_of_minus_eq hs).symm, fun _ h => absurd rfl h, fun _ => rfl,
      by simp [State.offered, hc]⟩
  · have hv : v = u.keysHeard consumed := by
      simp only [v, State.rawChanged_of_ne consumed hraw, II.namedCommand_eq_leave consumed hc, State.command]
    have hentry : u.ii.entersCommand (u.ii.rawChange consumed)
        = decide ((u.ii.keysHeard consumed u.now).hotkey = .command) := by
      rw [Bool.eq_iff_iff, decide_eq_true_iff, II.keysHeard, II.hotkeyAfter_eq_command_iff _ (by simpa)]
      simp [II.entersCommand]
    simp only [hv, State.keysHeard_frame, II.keysHeard_frame, II.keysHeard_suppressed, hc, false_or, true_and]
    refine ⟨?_, ?_, ?_, fun h => absurd h hraw, ?_⟩
    · rw [II.keysHeard_passed consumed u.now hc, II.keysHeard_suppressed]; simp [hc]
    · intro hn; simp [hn]
    · intro hy _; simp [hy]
    · rw [← hentry]; rfl

/-! ### KEYBOARD_REPORT outside COMMAND -/

/-- What FU's judgement leaves of the ports' keys (R67). -/
theorem State.judgeInput_port (s : State) (j : Fin 2) :
    (s.judgeInput.ii.ports.get j).keys = (s.ii.ports.get j).keys
      ∧ (s.judgeInput.ii.ports.get j).lastReport = (s.ii.ports.get j).lastReport
      ∧ (s.judgeInput.ii.ports.get j).errors = (s.ii.ports.get j).errors := by
  obtain ⟨-, -, -, -, -, -, -, hports⟩ := II.eq_of_sansFlights_eq s.judgeInput_ports_conds.1
  obtain ⟨-, hkeys, hlast, herrors, -⟩ := HostPort.eq_of_sansFlight_eq (hports j)
  exact ⟨hkeys, hlast, herrors⟩

/-- A rollover report, judged, leaves the port's keys, the snapshots and the hotkey machine. -/
theorem State.reportHeard_judged_of_rollover {s : State} {i : Fin 2} {b : List Byte} (h : s.ii.rollsOver i b = true) :
    let t := (s.reportHeard i b).judgeInput
    (t.ii.ports.get i).keys = (s.ii.ports.get i).keys ∧ (t.ii.ports.get i).lastReport = some b
      ∧ (t.ii.ports.get i).errors = 0 ∧ t.ii.raw = s.ii.raw ∧ t.ii.passed = s.ii.passed
      ∧ t.ii.suppressed = s.ii.suppressed ∧ t.ii.hotkey = s.ii.hotkey := by
  intro t
  obtain ⟨hraw, hsup, hpassed, hhotkey, -⟩ := II.eq_of_sansFlights_eq (s.reportHeard i b).judgeInput_ports_conds.1
  obtain ⟨hkeys, hlast, herrors⟩ := (s.reportHeard i b).judgeInput_port i
  simp only [t, hkeys, hlast, herrors, hraw, hsup, hpassed, hhotkey, State.reportHeard_ii, Pair_get_set_same]
  simp [II.portAfter, h]

section Taken
variable {s : State} {i : Fin 2} {b : List Byte}

/-- What the ports hold once any other report has been taken and judged. -/
theorem State.reportTaken_ports (hroll : s.ii.rollsOver i b = false) :
    ((s.reportTaken i b).judgeInput.ii.ports.get i).keys = reportSnapshot b
      ∧ ((s.reportTaken i b).judgeInput.ii.ports.get i).lastReport = some b
      ∧ ((s.reportTaken i b).judgeInput.ii.ports.get i).errors = 0
      ∧ ((s.reportTaken i b).judgeInput.ii.ports.get (1 - i)).keys = (s.ii.ports.get (1 - i)).keys := by
  have hports (j : Fin 2) : ((s.reportTaken i b).judgeInput.ii.ports.get j).sansFlight
      = ((s.ii.ports.set i (s.ii.portAfter i b)).get j).sansFlight := by
    obtain ⟨-, -, -, -, -, -, -, hjudged⟩ := II.eq_of_sansFlights_eq (s.reportTaken i b).judgeInput_ports_conds.1
    rw [hjudged, State.reportTaken, State.rawChanged_sansFlight, State.reportHeard_ii]
  obtain ⟨-, hkeys, hlast, herrors, -⟩ := HostPort.eq_of_sansFlight_eq (hports i)
  obtain ⟨-, hother, -⟩ := HostPort.eq_of_sansFlight_eq (hports (1 - i))
  rw [Pair_get_set_same] at hkeys hlast herrors
  rw [Pair_get_set_other _ _ _ _ (one_sub_ne i)] at hother
  exact ⟨hkeys.trans (by simp [II.portAfter, hroll]), hlast, herrors, hother⟩

/-- Outside COMMAND a report is II's, FU's and HU's alone until it is judged. -/
theorem State.reportTaken_frame (i : Fin 2) (b : List Byte) (hc : s.ii.hotkey ≠ .command) :
    (s.reportTaken i b).sa = s.sa ∧ (s.reportTaken i b).fp = s.fp ∧ (s.reportTaken i b).cp = s.cp
      ∧ (s.reportTaken i b).sr = s.sr ∧ (s.reportTaken i b).hu = (s.reportHeard i b).hu := by
  have hleave : (s.reportHeard i b).ii.namedCommand (s.consumes i b) = .leave :=
    II.namedCommand_eq_leave _ (by simpa using hc)
  simpa [State.reportTaken] using State.rawChanged_frame_of_leave (s.consumes i b) hleave

/-- What II and FU make of it there, from snapshots in order (R40, R41, R42, R46, R66). -/
theorem State.reportTaken_snapshots (i : Fin 2) (b : List Byte) (hs : s.ii.snapshotsOk) (hc : s.ii.hotkey ≠ .command)
    {v : State} (hv : s.reportTaken i b = v) :
    v.ii.raw = v.ii.unionKeys ∧ v.ii.passed = v.ii.raw.minus v.ii.suppressed
      ∧ (s.hu.blank = false ∨ (s.ii.ports.get i).lastReport = some b →
          v.ii.suppressed = s.ii.suppressed.inter v.ii.raw)
      ∧ (s.hu.blank = true → (s.ii.ports.get i).lastReport ≠ some b → v.ii.raw ≠ s.ii.raw →
          v.ii.suppressed = (s.ii.suppressed.union (v.ii.raw.minus s.ii.raw)).inter v.ii.raw)
      ∧ (v.ii.raw = s.ii.raw → v.ii.suppressed = s.ii.suppressed)
      ∧ v.fu = (s.offered v.ii.passed (v.ii.hotkey = .command)).fu := by
  obtain ⟨-, -, -, -, hsup, hpassed, -⟩ := hs
  obtain ⟨hports, hraw, hform, hkept, hjoined, hsame, hfu⟩ :=
    State.rawChanged_outside_command (u := s.reportHeard i b) (s.consumes i b) (by simpa using hc) (by simpa using hsup)
      (by simpa using hpassed)
  rw [show (s.reportHeard i b).rawChanged (s.consumes i b) = v from hv] at hports hraw hform hkept hjoined hsame hfu
  simp only [State.reportHeard_ii] at hkept hjoined hsame
  refine ⟨hraw.trans (II.unionKeys_congr fun k => by rw [hports]), hform, fun h => hkept ?_, fun hb hlast => hjoined ?_,
    hsame, hfu.trans (State.offered_fu_congr (by simp) (by simp) (by simp) _ _)⟩
  · obtain h | h := h <;> simp [State.consumes, h]
  · simp [State.consumes, hb, hlast]

end Taken

/-- Settles O45 (R38 to R42, R46, R66, R163, R164): a report of eight bytes is heard, the raw snapshot follows the union
of the ports' keys, and FU's judgement keeps what is stated of II, CP and HU; an offer is taken by the record's state
and the queue's tail. -/
theorem keyboardReportTaken : Obligations.KeyboardReportTaken := by
  refine ⟨fun s i l b hp hk => ⟨exec_keyboardReport_of_short hp hk, ?_⟩, fun s k => ⟨State.offerSnapshot_of_none k,
    fun r hr => ⟨State.offerSnapshot_of_not_holding k hr, fun hh => ⟨fun hq hk => ?_, fun hq hk => ?_,
      fun l e hq => ⟨fun hk => ?_, fun hk hroom => ?_, fun hk hfull => ?_⟩⟩⟩⟩⟩
  · rintro hl rfl hs hc
    have hrun := exec_keyboardReport_of_whole hp hk hl
    refine ⟨fun hroll => ?_, fun hroll => ?_⟩
    · obtain ⟨hraw, -⟩ := hs
      have hsame : s.reportTaken i (l.take 8) = s.reportHeard i (l.take 8) := State.rawChanged_of_same _
        ((State.reportHeard_unionKeys_of_rollover hroll).trans (by simp [hraw]))
      rw [hsame] at hrun
      obtain ⟨hkeys, hlast, herrors, hkept, hpassed, hsup, hhotkey⟩ := State.reportHeard_judged_of_rollover hroll
      refine ⟨_, s.reportHeard i (l.take 8), hrun, rfl, ?_⟩
      simp only [State.judgeInput_frame, State.reportHeard_frame, State.judgeInput_current, true_and]
      exact ⟨hkeys, hlast, herrors, hkept, hpassed, hsup, hhotkey, by simp [State.sameSource],
        State.reportHeard_hu_of_new, State.reportHeard_hu_of_again⟩
    · obtain ⟨hkeys, hlast, herrors, hother⟩ := State.reportTaken_ports hroll
      obtain ⟨hsa, hfp, hcp, hsr, hhu⟩ := State.reportTaken_frame i (l.take 8) hc
      obtain ⟨hraw, hpassed, hquiet, hwoken, hsame, hoffers⟩ := State.reportTaken_snapshots i (l.take 8) hs hc rfl
      have hsource : s.sameSource (s.reportTaken i (l.take 8)).judgeInput := by
        simp [State.sameSource, State.reportTaken]
      generalize s.reportTaken i (l.take 8) = v at *
      obtain ⟨hjraw, hjsup, hjpassed, hjhotkey, -⟩ := II.eq_of_sansFlights_eq v.judgeInput_ports_conds.1
      obtain ⟨hx, hy, hhead, -⟩ := CP.pointer_eq_of_withWheel_eq 0 v.judgeInput_pointer_keys.1
      have hunion : v.judgeInput.ii.unionKeys = v.ii.unionKeys := II.unionKeys_congr fun k => (v.judgeInput_port k).1
      have hhut : v.judgeInput.hu = (s.reportHeard i (l.take 8)).hu := by simp [hhu]
      rw [← hjraw, ← hunion] at hraw
      rw [← hjraw, ← hjsup, ← hjpassed] at hpassed
      rw [← hjraw, ← hjsup] at hquiet hwoken hsame
      rw [← hjpassed, ← hjhotkey] at hoffers
      refine ⟨_, v, hrun, rfl, hcp, hfp, hjpassed.symm, hjhotkey.symm, fun hp hh => ?_, fun hp hh => ?_,
        fun hp hh => ?_, fun hp hh => ?_, hkeys, hlast, herrors, hother, hraw, hquiet, fun hb hnew => ?_, hpassed,
        fun hb hnew ht => ?_, fun h => hhut.trans (State.reportHeard_hu_of_quiet h), by rw [hx, hcp], by rw [hy, hcp],
        by rw [hhead, hcp], hsource, by simp [hsr], by rw [State.judgeInput_current, hsa]⟩
      · simp [hoffers, State.offered, hp, hh]
      · simp [hoffers, State.offered, hp, hh]
      · simp [hoffers, State.offered, hp, hh]
      · simp [hoffers, State.offered, hp, hh]
      · obtain ⟨-, -, hwakes⟩ := State.reportHeard_hu_of_new hnew
        obtain ⟨hblank, hcount, hminute, -⟩ := hwakes hb
        rw [hhut]
        exact ⟨hwoken hb hnew, hsame, hblank, hcount, hminute⟩
      · obtain ⟨hrestarts, -, -⟩ := State.reportHeard_hu_of_new hnew
        rw [hhut, hrestarts hb ht]
        exact ⟨rfl, rfl⟩
  · rw [State.offerSnapshot_of_empty k hr hh hq, if_pos hk]
  · rw [State.offerSnapshot_of_empty k hr hh hq, if_neg hk]
  · rw [State.offerSnapshot_of_tail k hr hh hq, if_pos hk]
  · rw [State.offerSnapshot_of_tail k hr hh hq, if_neg hk, if_pos hroom]
  · rw [State.offerSnapshot_of_tail k hr hh hq, if_neg hk, if_neg (by omega)]

end Sys2Proof.Machine
end

section
/-!
PROOF. The commands of the hotkey machine (03_keys_lamps_and_hotkeys.md, R43 to R48; 04_focus_at_the_desk.md, R53 to
R61): a record put and moved, what FU's judgement leaves of a record with nothing pending and of what has been sent,
what a request and a release come to, and the statement about the hotkey machine assembled from them.
-/

namespace Sys2Proof.Machine

/-! ### Records put and moved (R52) -/

theorem FU.station_of_record {f : FU} {p : Nat} {r : SrcRec} (h : f.record p = some r) : r.station = p := by
  simpa using List.find?_some h

/-- Putting a record replaces what its own station has, and nothing else. -/
theorem FU.record_put (f : FU) (r : SrcRec) (p : Nat) :
    (f.put r).record p = if p = r.station then (f.record p).map (fun _ => r) else f.record p := by
  have hfound (q : SrcRec) :
      decide ((if q.station = r.station then r else q).station = p) = decide (q.station = p) := by
    split <;> simp_all
  have hput : (f.put r).record p = (f.record p).map fun q => if q.station = r.station then r else q := by
    simp only [FU.record, FU.put, List.find?_map, Function.comp_def, hfound]
  rw [hput]
  cases hq : f.record p with
  | none => simp
  | some q => simp [FU.station_of_record hq]; split <;> rfl

theorem SrcRec.enter_station (r : SrcRec) (st : RecState) (now : Time) : (r.enter st now).station = r.station := by
  unfold SrcRec.enter; dsimp only; (repeat' split) <;> rfl

/-- A record moved is put into the table as the state makes it. -/
theorem State.moveRecord_record (s : State) (r : SrcRec) (st : RecState) (p : Nat) :
    (s.moveRecord r st).fu.record p = (s.fu.put (r.enter st s.now)).record p := by
  have hleft (u : State) (q : Nat) : (u.leftHolding q).fu.record p = u.fu.record p := by
    unfold State.leftHolding; dsimp only; split <;> rfl
  have hentered (u : State) (q : Nat) : (u.enteredHolding q).fu.record p = u.fu.record p := by
    unfold State.enteredHolding; split <;> rfl
  have hput : (s.putRecord (r.enter st s.now)).fu = s.fu.put (r.enter st s.now) := rfl
  unfold State.moveRecord
  dsimp only
  (repeat' split) <;> simp [hleft, hentered, hput]

theorem State.moveRecord_record_same {s : State} {r q : SrcRec} (st : RecState) (h : s.fu.record r.station = some q) :
    (s.moveRecord r st).fu.record r.station = some (r.enter st s.now) := by
  simp [State.moveRecord_record, FU.record_put, SrcRec.enter_station, h]

theorem State.moveRecord_record_other (s : State) {r : SrcRec} (st : RecState) {p : Nat} (h : p ≠ r.station) :
    (s.moveRecord r st).fu.record p = s.fu.record p := by
  simp [State.moveRecord_record, FU.record_put, SrcRec.enter_station, h]

theorem State.sendInput_record (s : State) (r : SrcRec) (k : Snapshot) (b : Buttons) (f : Option PtrField) (w : Int)
    (p : Nat) : (s.sendInput r k b f w).fu.record p
      = if p = r.station then (s.fu.record p).map (fun _ => { r with seq := r.seq + 1, noted := ⟨k, b, f⟩ })
        else s.fu.record p := by
  have hfu : (s.sendInput r k b f w).fu
      = FU.put { s.fu with interval := some s.now } { r with seq := r.seq + 1, noted := ⟨k, b, f⟩ } := by
    simp [State.sendInput, State.putRecord]
  rw [hfu, FU.record_put]
  rfl

/-- The record that a leave leaves behind before its state is moved (R60). -/
def SrcRec.left (r : SrcRec) : SrcRec := { r with seq := r.seq + 1, noted := ⟨.released, 0, none⟩, leave := none }

/-- The state once a leave's all-released INPUT has been handed to class 1, with nothing of the record pending (R60). -/
def State.leaveSent (s : State) (r : SrcRec) : State :=
  let u := s.sendInput r .released 0 none 0
  (u.setFU { u.fu with leaveOrder := u.fu.leaveOrder.filter fun q => q ≠ r.station }).putRecord r.left

theorem State.runLeave_clear (s : State) (r : SrcRec) : s.runLeave r .clear = s.leaveSent r := rfl

theorem State.runLeave_release (s : State) (r : SrcRec) :
    s.runLeave r .release = ((s.leaveSent r).sendRelease r.left).moveRecord r.left .idle := rfl

theorem State.leaveSent_record (s : State) (r : SrcRec) (p : Nat) :
    (s.leaveSent r).fu.record p = if p = r.station then (s.fu.record p).map (fun _ => r.left) else s.fu.record p := by
  have hfu (u : State) (l : List Nat) : ((u.setFU { u.fu with leaveOrder := l }).putRecord r.left).fu.record p
      = (u.fu.put r.left).record p := rfl
  simp only [State.leaveSent, hfu, FU.record_put, State.sendInput_record]
  by_cases h : p = r.station
  · simp [h, SrcRec.left, Function.comp_def]
  · simp [h, SrcRec.left]

theorem State.runLeave_record_other (s : State) {r : SrcRec} (k : LeaveKind) {p : Nat} (h : p ≠ r.station) :
    (s.runLeave r k).fu.record p = s.fu.record p := by
  cases k with
  | clear => simp [State.runLeave_clear, State.leaveSent_record, h]
  | release =>
    have hst : p ≠ r.left.station := h
    simp [State.runLeave_release, State.moveRecord_record_other _ _ hst, State.leaveSent_record, h]

/-! ### What FU's judgement leaves of a record (R61, R67) -/

/-- The pending leaves leave a record alone that has none. -/
theorem State.runLeaves_record {p : Nat} {r : SrcRec} (hleave : r.leave = none) (l : List Nat) :
    ∀ {s : State}, s.fu.record p = some r → (State.runLeaves l s).fu.record p = some r := by
  induction l with
  | nil => exact id
  | cons q rest ih =>
    intro s h
    unfold State.runLeaves
    split
    · split
      · exact ih h
      · rename_i d hd
        split
        · exact ih h
        · rename_i k hk
          have hother : p ≠ d.station := by
            rintro rfl
            rw [FU.station_of_record hd, hd, Option.some.injEq] at h
            simp [h, hleave] at hk
          exact ih ((s.runLeave_record_other k hother).trans h)
    · exact h

theorem CP.focusSource_of_withWheel_eq {c d : CP} (h : c.withWheel 0 = d.withWheel 0) :
    c.focusSource = d.focusSource :=
  (congrArg CP.focusSource h :)

/-- A focus record outside HOLDING, with nothing pending, is judged to stand as it is. -/
theorem State.judgeInput_record {s : State} {p : Nat} {r : SrcRec} (hfocus : s.cp.focusSource = some p)
    (h : s.fu.record p = some r) (hleave : r.leave = none) (hr : r.state ≠ .holding) :
    s.judgeInput.fu.record p = some r := by
  have hkept := State.runLeaves_record hleave s.fu.leaveOrder h
  have hsource : (State.runLeaves s.fu.leaveOrder s).cp.focusSource = some p :=
    (CP.focusSource_of_withWheel_eq (State.runLeaves_pointer_keys s.fu.leaveOrder s).1).trans hfocus
  have hrecord : (State.runLeaves s.fu.leaveOrder s).focusRecord = some r := by
    simp [State.focusRecord, hsource, hkept]
  unfold State.judgeInput
  simp [hrecord, State.inputDue, hr, hkept]

/-! ### What has been handed to FP stays there (R173, R177) -/

/-- Every message of class 0 and every INPUT of class 1 stays. -/
def State.keepsSent (s t : State) : Prop := s.fp.class0 ⊆ t.fp.class0 ∧ s.fp.class1 ⊆ t.fp.class1

theorem State.keepsSent_of_fp_eq {s t : State} (h : t.fp = s.fp) : s.keepsSent t := by simp [State.keepsSent, h]

theorem State.keepsSent.trans {s t u : State} (h : s.keepsSent t) (g : t.keepsSent u) : s.keepsSent u :=
  ⟨List.Subset.trans h.1 g.1, List.Subset.trans h.2 g.2⟩

section Sent
variable (s : State)

theorem State.hand0_keepsSent (m : Out0) : s.keepsSent (s.hand0 m) := by
  obtain ⟨-, h⟩ | ⟨-, -, h⟩ | ⟨-, -, h⟩ := s.hand0_cases m <;> simp [State.keepsSent, h]

theorem State.sendInput_keepsSent (r : SrcRec) (k : Snapshot) (b : Buttons) (f : Option PtrField) (w : Int) :
    s.keepsSent (s.sendInput r k b f w) := by
  unfold State.sendInput State.hand1
  split <;> simp [State.keepsSent]

theorem State.leaveSent_fp (r : SrcRec) : (s.leaveSent r).fp = (s.sendInput r .released 0 none 0).fp := rfl

theorem State.runLeave_keepsSent (r : SrcRec) (k : LeaveKind) : s.keepsSent (s.runLeave r k) := by
  have hsent : s.keepsSent (s.leaveSent r) :=
    (s.sendInput_keepsSent r .released 0 none 0).trans (State.keepsSent_of_fp_eq (s.leaveSent_fp r))
  cases k with
  | clear => exact hsent
  | release =>
    rw [State.runLeave_release]
    exact (hsent.trans (State.hand0_keepsSent _ (.controlRelease r.left.station r.left.id))).trans
      (State.keepsSent_of_fp_eq (by simp [State.sendRelease]))

theorem State.runLeaves_keepsSent (l : List Nat) : ∀ s : State, s.keepsSent (State.runLeaves l s) := by
  induction l with
  | nil => exact fun s => State.keepsSent_of_fp_eq rfl
  | cons p rest ih =>
    intro s
    unfold State.runLeaves
    split
    · split
      · exact ih s
      · split
        · exact ih s
        · exact (s.runLeave_keepsSent _ _).trans (ih _)
    · exact State.keepsSent_of_fp_eq rfl

theorem State.buildInput_keepsSent (r : SrcRec) : s.keepsSent (s.buildInput r) :=
  (s.sendInput_keepsSent r s.inputSnapshot s.cp.buttons s.cp.field (wheelShare s.cp.wheel)).trans
    (State.keepsSent_of_fp_eq (by simp [State.buildInput]))

theorem State.judgeInput_keepsSent : s.keepsSent s.judgeInput := by
  have hleaves := State.runLeaves_keepsSent s.fu.leaveOrder s
  unfold State.judgeInput
  dsimp only
  split
  · exact hleaves
  · split
    · exact hleaves.trans (State.buildInput_keepsSent _ _)
    · exact hleaves

variable {s}

theorem State.hand0_mem {m : Out0} (hup : s.fp.linkUp = true) (hroom : s.fp.class0.length < 16) :
    m ∈ (s.hand0 m).fp.class0 := by
  simp [State.hand0, hup, hroom, Config.class0Max]

end Sent

/-! ### Requests and releases, judged (R53, R54, R60) -/

section Requests
variable {s : State} {q : Nat} {p : SrcRec}

/-- Outside HOLDING nothing is pending (R61). -/
theorem FU.leave_eq_none {f : FU} (hok : f.recordsOk) (h : f.record q = some p) (hp : p.state ≠ .holding) :
    p.leave = none := by
  obtain ⟨hrecords, -, -⟩ := hok
  obtain ⟨⟨-, -, -, hleave, -⟩, -⟩ := hrecords p (List.mem_of_find?_eq_some h)
  exact Option.not_isSome_iff_eq_none.1 fun hsome => hp (hleave hsome)

/-- A request from IDLE or QUEUED (R53, R54). -/
theorem State.requestSource_judged (hfocus : s.cp.focusSource = some q) (h : s.fu.record q = some p)
    (hleave : p.leave = none) (hst : p.state = .idle ∨ p.state = .queued) :
    (∃ r, (s.requestSource q).judgeInput.fu.record q = some r ∧ r.state = .asking ∧ r.id = s.fu.idCounter + 1
        ∧ r.sends = 1 ∧ r.ask = some s.now)
      ∧ (s.fp.linkUp = true → s.fp.class0.length < 16 →
          Out0.controlRequest q (s.fu.idCounter + 1) p.watched ∈ (s.requestSource q).judgeInput.fp.class0) := by
  let i := s.fu.idCounter + 1
  let u := (s.setFU { s.fu with idCounter := i }).hand0 (.controlRequest q i p.watched)
  let d : SrcRec := { p with id := i, sends := 1, ask := some s.now }
  have hrun : s.requestSource q = u.moveRecord d .asking := by
    unfold State.requestSource
    rw [h]
    obtain hst | hst := hst <;> simp [hst, u, d, i]
  have hd : d.station = q := (FU.station_of_record h :)
  have hfu : u.fu = { s.fu with idCounter := i } := by simp [u]
  have hfound : u.fu.record d.station = some p := by rw [hfu, hd]; exact h
  have hrecord : (s.requestSource q).fu.record q = some (d.enter .asking u.now) := by
    rw [hrun, ← hd, State.moveRecord_record_same .asking hfound]
  have hsource : (s.requestSource q).cp.focusSource = some q :=
    (CP.focusSource_of_withWheel_eq (s.requestSource_pointer_keys q).1).trans hfocus
  have hasking : (d.enter .asking u.now).state = .asking ∧ (d.enter .asking u.now).id = i
      ∧ (d.enter .asking u.now).sends = 1 ∧ (d.enter .asking u.now).ask = some s.now
      ∧ (d.enter .asking u.now).leave = none := by
    obtain hst | hst := hst <;> simp [SrcRec.enter, d, hst, hleave]
  obtain ⟨hstate, hid, hsends, hask, hkept⟩ := hasking
  refine ⟨⟨_, State.judgeInput_record hsource hrecord hkept (by simp [hstate]), hstate, hid, hsends, hask⟩,
    fun hup hroom => ?_⟩
  obtain ⟨hsent, -⟩ := (s.requestSource q).judgeInput_keepsSent
  refine hsent ?_
  simp only [hrun, State.moveRecord_frame]
  exact State.hand0_mem hup hroom

theorem State.focusSource_releaseSource (h : s.cp.focusSource = some q) :
    (s.releaseSource q).cp.focusSource = some q :=
  (CP.focusSource_of_withWheel_eq (s.releaseSource_withWheel q)).trans h

/-- A release from ASKING or QUEUED (R60). -/
theorem State.releaseSource_judged (hfocus : s.cp.focusSource = some q) (h : s.fu.record q = some p)
    (hst : p.state = .asking ∨ p.state = .queued) :
    (∃ r, (s.releaseSource q).judgeInput.fu.record q = some r ∧ r.state = .idle ∧ r.ask = none)
      ∧ (s.fp.linkUp = true → s.fp.class0.length < 16 →
          Out0.controlRelease q p.id ∈ (s.releaseSource q).judgeInput.fp.class0) := by
  have hstation := FU.station_of_record h
  have hrun : s.releaseSource q = (s.sendRelease p).moveRecord p .idle := by
    unfold State.releaseSource
    rw [h]
    obtain hst | hst := hst <;> simp [hst]
  have hfound : (s.sendRelease p).fu.record p.station = some p := by simpa [hstation] using h
  have hrecord : (s.releaseSource q).fu.record q = some (p.enter .idle s.now) := by
    rw [hrun, ← hstation, State.moveRecord_record_same .idle hfound]
    simp
  refine ⟨⟨_, State.judgeInput_record (State.focusSource_releaseSource hfocus) hrecord ?_ ?_, ?_, ?_⟩,
    fun hup hroom => ?_⟩
  · simp [SrcRec.enter]
  · obtain hst | hst := hst <;> simp [SrcRec.enter, hst]
  · obtain hst | hst := hst <;> simp [SrcRec.enter, hst]
  · simp [SrcRec.enter]
  · obtain ⟨hsent, -⟩ := (s.releaseSource q).judgeInput_keepsSent
    refine hsent ?_
    simp only [hrun, State.moveRecord_frame]
    exact hstation ▸ State.hand0_mem hup hroom

/-- A release from HOLDING that finds room in class 1 is a leave that runs (R60). -/
theorem State.releaseSource_judged_of_room (hfocus : s.cp.focusSource = some q) (h : s.fu.record q = some p)
    (hst : p.state = .holding) (hup : s.fp.linkUp = true) (hroom : s.fp.class1.length < 4) :
    (∃ r, (s.releaseSource q).judgeInput.fu.record q = some r ∧ r.state = .idle ∧ r.leave = none)
      ∧ (⟨q, p.id, p.seq, .released, 0, none, 0⟩ : OutInput) ∈ (s.releaseSource q).judgeInput.fp.class1
      ∧ (s.fp.class0.length < 16 → Out0.controlRelease q p.id ∈ (s.releaseSource q).judgeInput.fp.class0) := by
  have hstation := FU.station_of_record h
  have hclass1 : s.roomInClass1 = true := s.roomInClass1_iff.2 (.inr hroom)
  have hrun : s.releaseSource q = ((s.leaveSent p).sendRelease p.left).moveRecord p.left .idle := by
    unfold State.releaseSource
    rw [h]
    simp [hst, State.leave, hclass1, State.runLeave_release]
  have hleft : p.left.station = q := hstation
  have hfound : ((s.leaveSent p).sendRelease p.left).fu.record p.left.station = some p.left := by
    simp [State.leaveSent_record, hleft, hstation, h]
  have hrecord : (s.releaseSource q).fu.record q = some (p.left.enter .idle (s.leaveSent p).now) := by
    rw [hrun, ← hleft, State.moveRecord_record_same .idle hfound]
    simp
  have hfp : (s.leaveSent p).fp = { s.fp with class1 := s.fp.class1 ++ [⟨q, p.id, p.seq, .released, 0, none, 0⟩] } := by
    rw [State.leaveSent_fp]
    simp [State.sendInput, State.hand1, hup, hstation]
  have hran : (s.releaseSource q).fp = ((s.leaveSent p).hand0 (.controlRelease q p.id)).fp := by
    simp only [hrun, State.moveRecord_frame, State.sendRelease, hleft]
    rfl
  obtain ⟨hsent0, hsent1⟩ := (s.releaseSource q).judgeInput_keepsSent
  rw [hran] at hsent0 hsent1
  obtain ⟨-, hkept⟩ := (s.leaveSent p).hand0_keepsSent (.controlRelease q p.id)
  refine ⟨⟨_, State.judgeInput_record (State.focusSource_releaseSource hfocus) hrecord ?_ ?_, ?_, ?_⟩, ?_, fun h0 => ?_⟩
  · simp [SrcRec.enter]
  · simp [SrcRec.enter, SrcRec.left, hst]
  · simp [SrcRec.enter, SrcRec.left, hst]
  · simp [SrcRec.enter]
  · exact hsent1 (hkept (by simp [hfp]))
  · exact hsent0 (State.hand0_mem (by simp [hfp, hup]) (by simpa [hfp] using h0))

/-- A release from HOLDING that finds class 1 full is pending, and nothing is sent (R61). -/
theorem State.releaseSource_judged_of_full (h : s.fu.record q = some p) (hst : p.state = .holding)
    (hup : s.fp.linkUp = true) (hfull : 4 ≤ s.fp.class1.length) :
    (s.releaseSource q).judgeInput.fu.record q = some { p with leave := some .release }
      ∧ (s.releaseSource q).judgeInput.fp = s.fp := by
  have hstation := FU.station_of_record h
  have hclass1 (u : State) (hu : u.fp = s.fp) : u.roomInClass1 = false := by
    rw [← Bool.not_eq_true, State.roomInClass1_iff, hu]
    simp [hup, hfull]
  have hrun : s.releaseSource q = s.setPending p .release := by
    unfold State.releaseSource
    rw [h]
    simp [hst, State.leave, hclass1 s rfl]
  have hrecord : (s.setPending p .release).fu.record q
      = (s.fu.put { p with leave := some .release }).record q := by
    unfold State.setPending
    simp only [ite_self]
    split <;> rfl
  rw [hrun, State.judgeInput_of_full (hclass1 _ (by simp)), hrecord, FU.record_put]
  simp [hstation, h]

end Requests
end Sys2Proof.Machine
end

section
/-!
PROOF. The hotkey machine (03_keys_lamps_and_hotkeys.md, R43 to R48): the machine's moves at a change of the raw
snapshot, a report taken in COMMAND, and the statement about the machine, its commands and its timers assembled from
them.
-/

namespace Sys2Proof.Machine

/-! ### The machine's moves (R43 to R47) -/

section Moves
variable {i : II} {consumed : Bool} (now : Time)

theorem RawChange.completesTap_iff {c : RawChange} {tap : Bool} :
    c.completesTap tap = true ↔ c.new = .released ∧ tap = true := by
  simp [RawChange.completesTap]

theorem II.keysHeard_of_normal (h : i.hotkey = .normal) :
    ((i.rawChange consumed).new = .released → i.tap = true →
        (i.keysHeard consumed now).hotkey = .leadSeen ∧ (i.keysHeard consumed now).leadSeen = some now
          ∧ (i.keysHeard consumed now).tap = false)
      ∧ ((i.rawChange consumed).new ≠ .released ∨ i.tap = false → (i.keysHeard consumed now).hotkey = .normal) := by
  have hheard := II.hotkeyAfter_of_normal (i := (i.takeRaw i.unionKeys consumed).passOn) (c := i.rawChange consumed) now
    (by simpa)
  refine ⟨fun hnew ht => ?_, fun hno => ?_⟩
  · have htap : (i.rawChange consumed).completesTap i.tap = true := RawChange.completesTap_iff.2 ⟨hnew, ht⟩
    refine ⟨?_, ?_, ?_⟩
    · simp [II.keysHeard, hheard, htap]
    · simp [II.keysHeard, hheard, htap]
    · rw [ht] at htap
      simp [ht, RawChange.tapAfter_of_tap htap]
  · have htap : (i.rawChange consumed).completesTap i.tap = false := by
      rw [← Bool.not_eq_true, RawChange.completesTap_iff]
      simpa [imp_iff_not_or] using hno
    simp [II.keysHeard, hheard, htap, h]

theorem II.keysHeard_of_leadSeen (h : i.hotkey = .leadSeen) :
    ((i.rawChange consumed).new = .released → i.tap = true →
        (i.keysHeard consumed now).hotkey = .command ∧ (i.keysHeard consumed now).leadSeen = none
          ∧ (i.keysHeard consumed now).command = some now)
      ∧ ((i.rawChange consumed).pressed.minus i.lead.alone ≠ .released →
        (i.keysHeard consumed now).hotkey = .normal ∧ (i.keysHeard consumed now).leadSeen = none) := by
  have hheard := II.hotkeyAfter_of_leadSeen (i := (i.takeRaw i.unionKeys consumed).passOn) (c := i.rawChange consumed)
    now (by simpa)
  refine ⟨fun hnew ht => ?_, fun hpress => ?_⟩
  · have htap : (i.rawChange consumed).completesTap i.tap = true := RawChange.completesTap_iff.2 ⟨hnew, ht⟩
    simp [II.keysHeard, hheard, htap]
  · have htap : (i.rawChange consumed).completesTap i.tap = false := RawChange.completesTap_eq_false hpress
    simp [II.keysHeard, hheard, htap, hpress]

theorem II.keysHeard_of_command (h : i.hotkey = .command) :
    ((i.rawChange consumed).pressed.keys = [] →
        (i.keysHeard consumed now).hotkey = .command ∧ (i.keysHeard consumed now).command = i.command)
      ∧ ((i.rawChange consumed).pressed.keys ≠ [] →
        (i.keysHeard consumed now).hotkey = .normal ∧ (i.keysHeard consumed now).command = none) := by
  have hheard := II.hotkeyAfter_of_command (i := (i.takeRaw i.unionKeys consumed).passOn) (c := i.rawChange consumed)
    now (by simpa)
  refine ⟨fun hnone => ?_, fun hsome => ?_⟩
  · simp [II.keysHeard, hheard, hnone, h]
  · simp [II.keysHeard, hheard, hsome]

end Moves

/-! ### A report that changes the raw snapshot -/

section Report
variable {s : State} {i : Fin 2} {b : List Byte}

/-- The union after a report that is no rollover report is that with the port's keys replaced (R40). -/
theorem State.reportHeard_unionKeys (h : s.ii.rollsOver i b = false) :
    (s.reportHeard i b).ii.unionKeys
      = II.unionKeys { s.ii with ports := s.ii.ports.set i { s.ii.ports.get i with keys := reportSnapshot b } } := by
  refine II.unionKeys_congr fun k => ?_
  rw [State.reportHeard_ii, Pair_get_set, Pair_get_set]
  split <;> simp [II.portAfter, h]

/-- On a desk that is not blanked a change of the raw snapshot is heard whole, and its command carried out. -/
theorem State.reportTaken_of_changed (hb : s.hu.blank = false) (h : (s.reportHeard i b).ii.unionKeys ≠ s.ii.raw) :
    s.reportTaken i b
      = ((s.reportHeard i b).keysHeard false).command ((s.reportHeard i b).ii.namedCommand false) := by
  have hconsumes : s.consumes i b = false := by simp [State.consumes, hb]
  rw [State.reportTaken, hconsumes, State.rawChanged_of_ne false (by simpa using h)]

/-- Neither its command nor FU's judgement changes what II makes of it. -/
theorem State.reportTaken_sansFlights (hb : s.hu.blank = false)
    (h : (s.reportHeard i b).ii.unionKeys ≠ s.ii.raw) :
    (s.reportTaken i b).judgeInput.ii.sansFlights = ((s.reportHeard i b).ii.keysHeard false s.now).sansFlights := by
  rw [(State.judgeInput_ports_conds _).1, State.reportTaken_of_changed hb h, State.command_sansFlights]
  simp

/-- In COMMAND FU is offered nothing. -/
theorem State.keysHeard_of_command {s : State} (consumed : Bool) (h : s.ii.hotkey = .command) :
    s.keysHeard consumed = s.setII (s.ii.keysHeard consumed s.now) := by
  simp [State.keysHeard, State.offered, II.keysHeard_passed_of_command, II.entersCommand, h]

theorem State.reportHeard_setII (j : II) :
    (s.reportHeard i b).setII j = { s with ii := j, hu := (s.reportHeard i b).hu } := by
  simp [State.setII]

/-- A report in COMMAND that names a command carries it out, and changes II and HU alone before it. -/
theorem State.reportTaken_of_command {k : Byte} {r : List Byte} (hb : s.hu.blank = false)
    (h : (s.reportHeard i b).ii.unionKeys ≠ s.ii.raw) (hc : s.ii.hotkey = .command)
    (hk : ((s.reportHeard i b).ii.rawChange false).pressed.keys = k :: r) :
    s.reportTaken i b = State.command { s with
      ii := (s.reportHeard i b).ii.keysHeard false s.now, hu := (s.reportHeard i b).hu } (commandOf k) := by
  have hcommand : (s.reportHeard i b).ii.hotkey = .command := by simpa using hc
  rw [State.reportTaken_of_changed hb h, II.namedCommand_of_press false hcommand hk,
    State.keysHeard_of_command false hcommand, State.reportHeard_setII]
  simp

end Report

/-! ### Acknowledgement (R48, R188) -/

/-- After an acknowledgement nothing is latched that is not current, but for a TX-DROP of what follows (log 39). -/
theorem State.acknowledge_judged (s : State) :
    (s.command .acknowledge).judgeInput.sa.latched &&& ~~~s.sa.current &&& ~~~Cond.bit .txDrop = 0 := by
  have hsa : (s.command .acknowledge).judgeInput.sa.sansDrop = s.sa.acknowledge.sansDrop := by
    simp [State.command]
  have hlatched : (s.command .acknowledge).judgeInput.sa.latched &&& ~~~Cond.txDrop.bit
      = s.sa.latched &&& s.sa.current &&& ~~~Cond.txDrop.bit := (congrArg SA.latched hsa :)
  have hnone : s.sa.current &&& ~~~s.sa.current = 0 := BitVec.and_not_self _
  calc (s.command .acknowledge).judgeInput.sa.latched &&& ~~~s.sa.current &&& ~~~Cond.bit .txDrop
      = ((s.command .acknowledge).judgeInput.sa.latched &&& ~~~Cond.txDrop.bit) &&& ~~~s.sa.current := by
        ac_rfl
    _ = (s.sa.current &&& ~~~s.sa.current) &&& (s.sa.latched &&& ~~~Cond.txDrop.bit) := by
        rw [hlatched]; ac_rfl
    _ = 0 := by rw [hnone]; exact BitVec.zero_and

theorem State.command_acknowledge_of_not_holding {s : State}
    (h : ∀ r, s.focusRecord = some r → r.state ≠ .holding) :
    s.command .acknowledge = s.setSA (SA.drive { s.sa with latched := s.sa.latched &&& s.sa.current }) := by
  have hfocus : (s.setSA s.sa.acknowledge).focusRecord = s.focusRecord := rfl
  unfold State.command State.sendAttnClear
  simp only [hfocus]
  cases hr : s.focusRecord with
  | none => rfl
  | some r => simp [h r hr, SA.acknowledge]

theorem State.command_acknowledge_of_holding {s : State} {r : SrcRec} (h : s.focusRecord = some r)
    (hr : r.state = .holding) :
    s.command .acknowledge
      = (s.setSA (SA.drive { s.sa with latched := s.sa.latched &&& s.sa.current })).hand0 (.attnClear r.station) := by
  have hfocus : (s.setSA s.sa.acknowledge).focusRecord = some r := h
  unfold State.command State.sendAttnClear
  simp only [hfocus, hr, if_true]
  rfl

/-! ### A command carried out and judged (R47, R48) -/

/-- What a command leaves of the confine flag and the layout. -/
theorem State.command_judged_cp (s : State) (c : Command) :
    (c = .confine → (s.command c).judgeInput.cp.confine = !s.cp.confine)
      ∧ (c ≠ .confine → (s.command c).judgeInput.cp.confine = s.cp.confine)
      ∧ (∀ n, c = .select n → (s.command c).judgeInput.cp.layout = n)
      ∧ ((∀ n, c ≠ .select n) → (s.command c).judgeInput.cp.layout = s.cp.layout) := by
  obtain ⟨hlayout, hconfine, -⟩ :=
    CP.eq_of_lasting_eq ((State.judgeInput_lasting (s.command c)).trans (s.command_lasting c))
  rw [hlayout, hconfine]
  refine ⟨?_, CP.obey_confine s.cp c, ?_, CP.obey_layout s.cp c⟩
  · rintro rfl; rfl
  · rintro n rfl; rfl

/-- What a request and a release make of the focus record, in each of its states. -/
theorem State.command_judged_record {s : State} {q : Nat} {p : SrcRec} {c : Command} (hok : s.fu.recordsOk)
    (hfocus : s.cp.focusSource = some q) (h : s.fu.record q = some p) :
    (c = .request → p.state = .idle ∨ p.state = .queued →
        (∃ r, (s.command c).judgeInput.fu.record q = some r ∧ r.state = .asking ∧ r.id = s.fu.idCounter + 1
          ∧ r.sends = 1 ∧ r.ask = some s.now)
        ∧ (s.fp.linkUp = true → s.fp.class0.length < 16 →
            Out0.controlRequest q (s.fu.idCounter + 1) p.watched ∈ (s.command c).judgeInput.fp.class0))
      ∧ (c = .release → p.state = .asking ∨ p.state = .queued →
        (∃ r, (s.command c).judgeInput.fu.record q = some r ∧ r.state = .idle ∧ r.ask = none)
        ∧ (s.fp.linkUp = true → s.fp.class0.length < 16 →
            Out0.controlRelease q p.id ∈ (s.command c).judgeInput.fp.class0))
      ∧ (c = .release → p.state = .holding →
        (s.fp.linkUp = true → s.fp.class1.length < 4 →
          (∃ r, (s.command c).judgeInput.fu.record q = some r ∧ r.state = .idle ∧ r.leave = none)
          ∧ (⟨q, p.id, p.seq, .released, 0, none, 0⟩ : OutInput) ∈ (s.command c).judgeInput.fp.class1
          ∧ (s.fp.class0.length < 16 → Out0.controlRelease q p.id ∈ (s.command c).judgeInput.fp.class0))
        ∧ (s.fp.linkUp = true → 4 ≤ s.fp.class1.length →
          (s.command c).judgeInput.fu.record q = some { p with leave := some .release }
          ∧ (s.command c).judgeInput.fp = s.fp)) := by
  refine ⟨?_, ?_, ?_⟩ <;> rintro rfl hst
  · rw [State.command_request hfocus]
    have hleave : p.leave = none := FU.leave_eq_none hok h (by obtain hst | hst := hst <;> simp [hst])
    exact State.requestSource_judged hfocus h hleave hst
  · rw [State.command_release hfocus]
    exact State.releaseSource_judged hfocus h hst
  · rw [State.command_release hfocus]
    exact ⟨State.releaseSource_judged_of_room hfocus h hst, State.releaseSource_judged_of_full h hst⟩

/-- Settles O46 (R43 to R48): II's part of a report that changes the raw snapshot stands through its command and FU's
judgement; in COMMAND the state before the command has all but II's and HU's blocks as they were. -/
theorem hotkeyMachine : Obligations.HotkeyMachine := by
  refine ⟨?_, fun s => ⟨rfl, rfl, fun n => rfl, State.command_acknowledge_of_not_holding,
    fun r => State.command_acknowledge_of_holding, fun h => ?_, fun q h => ⟨State.command_request h,
    State.command_release h⟩⟩, fun s u hu hdue => ?_, fun s u hu hdue => ?_⟩
  · rintro s i l b n hp hk hl rfl hroll hb hn hne
    have hunion : (s.reportHeard i (l.take 8)).ii.unionKeys = n := (State.reportHeard_unionKeys hroll).trans hn.symm
    have hchanged : (s.reportHeard i (l.take 8)).ii.unionKeys ≠ s.ii.raw := hunion ▸ hne
    have hrun := exec_keyboardReport_of_whole hp hk hl
    have htaken (k : Byte) (r : List Byte) (hc : s.ii.hotkey = .command) :=
      State.reportTaken_of_command (k := k) (r := r) hb hchanged hc
    obtain ⟨hraw, hsup, hpassed, hhotkey, htap, hlead, hcommand, -⟩ :=
      II.eq_of_sansFlights_eq (State.reportTaken_sansFlights hb hchanged)
    generalize hj : (s.reportHeard i (l.take 8)).ii = j at *
    have hkept : j.raw = s.ii.raw ∧ j.suppressed = s.ii.suppressed ∧ j.passed = s.ii.passed ∧ j.hotkey = s.ii.hotkey
        ∧ j.tap = s.ii.tap ∧ j.lead = s.ii.lead ∧ j.command = s.ii.command := by simp [← hj]
    obtain ⟨hjraw, hjsup, hjpassed, hjhotkey, hjtap, hjlead, hjcommand⟩ := hkept
    have hold : (j.rawChange false).old = s.ii.raw := hjraw
    have hnew : (j.rawChange false).new = n := hunion
    have hpressed : (j.rawChange false).pressed = n.minus s.ii.raw := by rw [RawChange.pressed, hnew, hold]
    have hnormal := II.keysHeard_of_normal (i := j) (consumed := false) s.now
    have hleadSeen := II.keysHeard_of_leadSeen (i := j) (consumed := false) s.now
    have hin := II.keysHeard_of_command (i := j) (consumed := false) s.now
    simp only [hnew, hpressed, hjhotkey, hjtap, hjlead, hjcommand] at hnormal hleadSeen hin
    refine ⟨_, hrun, ?_⟩
    rw [hraw, hsup, hpassed, hhotkey, htap, hlead, hcommand]
    refine ⟨by simp [hunion], fun hm => (hnormal hm).1, fun hm => (hnormal hm).2, fun hm => (hleadSeen hm).1,
      fun hm => (hleadSeen hm).2, fun hr hl hne => ?_, fun hother => ?_,
      fun hc => ⟨?_, ?_, (hin hc).1, fun k r hkr => ?_⟩⟩
    · simpa using RawChange.tapAfter_of_lead (hold.trans hr) (hnew.trans (hjlead ▸ hl)) (hnew ▸ hne)
    · simpa using RawChange.tapAfter_of_other (c := j.rawChange false) (lead := j.lead) (by rwa [hnew, hjlead])
    · rw [II.keysHeard_passed_of_command _ _ (hjhotkey.trans hc), hjpassed]
    · simp [II.keysHeard_suppressed, hjhotkey, hc, hjsup, hjraw, hunion]
    · obtain ⟨hnormalAgain, hstopped⟩ := (hin hc).2 (by simp [hkr])
      have hw := htaken k r hc (hpressed ▸ hkr)
      rw [hw] at hrun ⊢
      obtain ⟨hconfine, hconfineKept, hlayout, hlayoutKept⟩ := State.command_judged_cp { s with
        ii := j.keysHeard false s.now, hu := (s.reportHeard i (l.take 8)).hu } (commandOf k)
      refine ⟨hnormalAgain, hstopped, hconfine, hconfineKept, fun hack => ?_, hlayout, hlayoutKept,
        fun q p hok hq hp => State.command_judged_record hok hq hp, _, rfl, hrun⟩
      rw [hack]
      exact State.acknowledge_judged _
  · simp [State.command, h]
  · have hran : timerDue s.now s.ii.leadSeen Config.leadSeenUs = true := (timerDue_iff ..).2 ⟨u, hu, hdue⟩
    simp [exec, execLeadSeenTimerExpiry, hran]
  · have hran : timerDue s.now s.ii.command Config.commandUs = true := (timerDue_iff ..).2 ⟨u, hu, hdue⟩
    simp [exec, execCommandTimerExpiry, hran]

end Sys2Proof.Machine
end

section
/-!
PROOF. What commands end with (00_scope.md, ROLE; 11_the_room_fabric.md, R171): a condition on the next state, what a
block takes of the receive buffer, and the commands of a source, which leave the desk's blocks alone.
-/

namespace Sys2Proof.Machine

/-! ### What a command ends with -/

/-- The next state that a command answers meets a condition. -/
def Ends (P : State → Prop) (o : Host.Outcome State Fault Refusal) : Prop := ∀ t, o = .next t → P t

@[simp] theorem Ends_next (P : State → Prop) (t : State) : Ends P (.next t) ↔ P t := by
  simp [Ends]

@[simp] theorem Ends_ite (P : State → Prop) (c : Prop) [Decidable c] (o o' : Host.Outcome State Fault Refusal) :
    Ends P (if c then o else o') ↔ if c then Ends P o else Ends P o' := by
  split <;> rfl

/-- A block that looks for a message of a kind finds none, or takes one and changes the buffer alone (R171, R172). -/
theorem State.take_cases (s : State) (t : Taker) (k : Kind) :
    s.take t k = none ∨ ∃ m, s.take t k = some (m, s.setFP { s.fp with rx := afterTaking t s.fp.rx }) := by
  cases h : s.take t k with
  | none => exact .inl rfl
  | some p =>
    obtain ⟨hu, -⟩ := State.take_eq h
    exact .inr ⟨p.1, by rw [← hu]⟩

/-- The same, as what a block's having taken a message says. -/
theorem State.take_eq_some_iff {s u : State} {t : Taker} {k : Kind} {m : RxMsg} :
    s.take t k = some (m, u) ↔ (∃ e, oldestFor t s.fp.rx = some e ∧ e.msg.kind = k ∧ e.msg = m)
      ∧ u = s.setFP { s.fp with rx := afterTaking t s.fp.rx } := by
  unfold State.take
  cases oldestFor t s.fp.rx with
  | none => simp
  | some e =>
    by_cases hk : e.msg.kind = k
    · simp [hk, eq_comm]
    · simp [hk]

/-! ### The commands of a source -/

/-- The commands of a source leave the desk's blocks alone (00_scope.md, ROLE). -/
theorem exec_sameDesk_of_source {c : Instr} (hc : ofSource c = true) (s : State) : Ends s.sameDesk (exec c s) := by
  cases c
  -- messages to CA and TS
  case presenceTakenByCa | controlRequestTaken | controlReleaseTaken | inputTaken | attnClearTaken
      | repairRequestTaken =>
    simp only [exec, execPresenceTakenByCa, execControlRequestTaken, execControlReleaseTaken, execInputTaken,
      execAttnClearTaken, execRepairRequestTaken]
    (repeat' split) <;> simp_all [State.sameDesk, State.take_eq_some_iff]
  -- the timers of CA
  case viewerEntryExpiry | waitEntryExpiry | idleTimerExpiry | notHolderNoteExpiry =>
    simp only [exec, execViewerEntryExpiry, execWaitEntryExpiry, execIdleTimerExpiry, execNotHolderNoteExpiry]
    (repeat' split) <;> simp [State.sameDesk]
  -- CU and TS
  case refreshWindowExpiry | tileChoice | frameSync | validLineEnd | tileRowBegin | tileRowComplete | syncTimerExpiry
      | syncPeriodEnd =>
    simp only [exec, execRefreshWindowExpiry, execTileChoice, execFrameSync, execValidLineEnd, execTileRowBegin,
      execTileRowComplete, execSyncTimerExpiry, execSyncPeriodEnd]
    (repeat' split) <;> simp [State.sameDesk]
  -- the workstation port
  case busPowerAppears | busPowerLost | busReset | setAddress | setConfiguration | setFeatureRemoteWake
      | clearFeatureRemoteWake | getDescriptor | getReport | setIdleOrProtocol | unsupportedStandardRequest
      | keyboardOutputReport | keyboardPoll | pointerPoll | queueAgeOverrun | busIdleSuspend | busResume
      | resumeSignallingEnd =>
    simp only [exec, execBusPowerAppears, execBusPowerLost, execBusReset, execSetAddress, execSetConfiguration,
      execSetFeatureRemoteWake, execClearFeatureRemoteWake, execGetDescriptor, execGetReport, execSetIdleOrProtocol,
      execUnsupportedStandardRequest, execKeyboardOutputReport, execKeyboardPoll, execPointerPoll, execQueueAgeOverrun,
      execBusIdleSuspend, execBusResume, execResumeSignallingEnd]
    (repeat' split) <;> simp [State.sameDesk]
  all_goals cases hc

end Sys2Proof.Machine
end

section
/-!
PROOF. Lamps at the desk (04_focus_at_the_desk.md, R69; 03_keys_lamps_and_hotkeys.md, R49): the lamps that a table of
records holds, what each of FU's operations and each command leaves of them, and the statement about LAMPS assembled
from them.
-/

namespace Sys2Proof.Machine

/-! ### The lamps of a table of records (R52, R69) -/

/-- The lamps that a table's record of a station holds. -/
def lampsOf (l : List SrcRec) (p : Nat) : Option Lamps := (l.find? fun r => r.station = p).map SrcRec.lamps

theorem FU.lampsOf_eq (f : FU) (p : Nat) : lampsOf f.records p = (f.record p).map SrcRec.lamps := rfl

theorem FU.lampsOf_of_record {f : FU} {p : Nat} {r : SrcRec} (h : f.record p = some r) :
    lampsOf f.records r.station = some r.lamps := by
  rw [f.lampsOf_eq, FU.station_of_record h, h]; rfl

/-- Every station's record holds the lamps it held. -/
def State.sameLamps (s t : State) : Prop := lampsOf t.fu.records = lampsOf s.fu.records

/-- A record that stays keeps its lamps. -/
def State.keepsLamps (s t : State) : Prop :=
  ∀ p a b, lampsOf s.fu.records p = some a → lampsOf t.fu.records p = some b → b = a

theorem State.keepsLamps_of_eq {s t : State} (h : lampsOf t.fu.records = lampsOf s.fu.records) : s.keepsLamps t := by
  intro p a b ha hb
  rw [h, ha] at hb
  exact (Option.some.inj hb).symm

/-! ### FU's operations keep every lamp set -/

@[simp] theorem SrcRec.enter_lamps (r : SrcRec) (st : RecState) (now : Time) : (r.enter st now).lamps = r.lamps := by
  unfold SrcRec.enter; dsimp only; (repeat' split) <;> rfl

/-- A record put with the lamps that its station has. -/
theorem FU.lampsOf_put {f : FU} {r : SrcRec} (h : lampsOf f.records r.station = some r.lamps) :
    lampsOf (f.put r).records = lampsOf f.records := by
  funext p
  rw [FU.lampsOf_eq, FU.record_put]
  split
  · rename_i hp
    rw [FU.lampsOf_eq] at h
    rw [hp, FU.lampsOf_eq, h]
    cases hr : f.record r.station <;> simp_all
  · rfl

section Kept
variable {s : State} {r : SrcRec}

theorem State.putRecord_lamps (h : lampsOf s.fu.records r.station = some r.lamps) :
    lampsOf (s.putRecord r).fu.records = lampsOf s.fu.records := FU.lampsOf_put h

theorem State.moveRecord_lamps (st : RecState) (h : lampsOf s.fu.records r.station = some r.lamps) :
    lampsOf (s.moveRecord r st).fu.records = lampsOf s.fu.records := by
  funext p
  have hput : lampsOf (s.fu.put (r.enter st s.now)).records = lampsOf s.fu.records :=
    FU.lampsOf_put (by rwa [SrcRec.enter_station, SrcRec.enter_lamps])
  rw [← hput, FU.lampsOf_eq, FU.lampsOf_eq, State.moveRecord_record]

theorem State.sendInput_lamps (k : Snapshot) (b : Buttons) (f : Option PtrField) (w : Int)
    (h : lampsOf s.fu.records r.station = some r.lamps) :
    lampsOf (s.sendInput r k b f w).fu.records = lampsOf s.fu.records := by
  unfold State.sendInput
  rw [State.putRecord_lamps] <;> simp [h]

theorem State.leaveSent_lamps (h : lampsOf s.fu.records r.station = some r.lamps) :
    lampsOf (s.leaveSent r).fu.records = lampsOf s.fu.records := by
  unfold State.leaveSent
  rw [State.putRecord_lamps] <;> simp [State.sendInput_lamps, SrcRec.left, h]

theorem State.runLeave_lamps (k : LeaveKind) (h : lampsOf s.fu.records r.station = some r.lamps) :
    lampsOf (s.runLeave r k).fu.records = lampsOf s.fu.records := by
  cases k with
  | clear => rw [State.runLeave_clear, State.leaveSent_lamps h]
  | release => rw [State.runLeave_release, State.moveRecord_lamps] <;> simp [State.leaveSent_lamps, SrcRec.left, h]

theorem State.setPending_lamps (k : LeaveKind) (h : lampsOf s.fu.records r.station = some r.lamps) :
    lampsOf (s.setPending r k).fu.records = lampsOf s.fu.records := by
  unfold State.setPending
  dsimp only
  split <;> split <;> exact FU.lampsOf_put h

theorem State.leave_lamps (k : LeaveKind) (h : lampsOf s.fu.records r.station = some r.lamps) :
    lampsOf (s.leave r k).fu.records = lampsOf s.fu.records := by
  unfold State.leave
  split
  · exact State.runLeave_lamps k h
  · exact State.setPending_lamps k h

theorem State.buildInput_lamps (h : lampsOf s.fu.records r.station = some r.lamps) :
    lampsOf (s.buildInput r).fu.records = lampsOf s.fu.records := by
  simp [State.buildInput, State.sendInput_lamps, h]

theorem State.reconcile_lamps (i : Option Byte) (w : Bool) (h : lampsOf s.fu.records r.station = some r.lamps) :
    lampsOf (s.reconcile r i w).fu.records = lampsOf s.fu.records := by
  unfold State.reconcile
  (repeat' split) <;> simp [State.moveRecord_lamps, State.putRecord_lamps, h]

theorem State.takeVerdict_lamps (v : Verdict) (h : lampsOf s.fu.records r.station = some r.lamps) :
    lampsOf (s.takeVerdict r v).fu.records = lampsOf s.fu.records := by
  unfold State.takeVerdict
  split <;> simp [State.moveRecord_lamps, SrcRec.markRefused, h]

end Kept

/-! ### So does the work that finds its record in the table -/

section Work
variable (s : State)

@[simp] theorem State.offerSnapshot_records (k : Snapshot) : (s.offerSnapshot k).fu.records = s.fu.records := by
  unfold State.offerSnapshot; (repeat' split) <;> rfl

@[simp] theorem State.requestSource_lamps (p : Nat) :
    lampsOf (s.requestSource p).fu.records = lampsOf s.fu.records := by
  unfold State.requestSource
  split
  · rfl
  · rename_i r hr
    split <;> simp [State.moveRecord_lamps, FU.lampsOf_of_record hr]

@[simp] theorem State.releaseSource_lamps (p : Nat) :
    lampsOf (s.releaseSource p).fu.records = lampsOf s.fu.records := by
  unfold State.releaseSource
  split
  · rfl
  · rename_i r hr
    split <;> simp [State.moveRecord_lamps, State.leave_lamps, FU.lampsOf_of_record hr]

@[simp] theorem State.leaveFocus_lamps (p : Option Nat) :
    lampsOf (s.leaveFocus p).fu.records = lampsOf s.fu.records := by
  unfold State.leaveFocus
  split
  · rfl
  · split
    · rfl
    · rename_i r hr
      split <;> simp [State.leave_lamps, FU.lampsOf_of_record hr]

@[simp] theorem State.autoRequest_lamps (q : Option Nat) :
    lampsOf (s.autoRequest q).fu.records = lampsOf s.fu.records := by
  unfold State.autoRequest; (repeat' split) <;> simp

@[simp] theorem State.focusFrom_lamps (p : Option Nat) :
    lampsOf (s.focusFrom p).fu.records = lampsOf s.fu.records := by
  unfold State.focusFrom; split <;> simp [State.focusChange]

@[simp] theorem State.runLeaves_lamps (l : List Nat) (s : State) :
    lampsOf (State.runLeaves l s).fu.records = lampsOf s.fu.records := by
  induction l generalizing s with
  | nil => rfl
  | cons p rest ih =>
    unfold State.runLeaves
    split
    · split
      · exact ih s
      · rename_i r hr
        split
        · exact ih s
        · rw [ih, State.runLeave_lamps _ (FU.lampsOf_of_record hr)]
    · rfl

/-- A focus record is the record of the focus source (R51). -/
theorem State.focusRecord_eq_some {s : State} {r : SrcRec} (h : s.focusRecord = some r) :
    s.cp.focusSource = some r.station ∧ s.fu.record r.station = some r := by
  unfold State.focusRecord at h
  split at h
  · cases h
  · rename_i p hp
    obtain rfl := FU.station_of_record h
    exact ⟨hp, h⟩

theorem State.lampsOf_of_focusRecord {s : State} {r : SrcRec} (h : s.focusRecord = some r) :
    lampsOf s.fu.records r.station = some r.lamps := by
  obtain ⟨-, hrecord⟩ := State.focusRecord_eq_some h
  exact FU.lampsOf_of_record hrecord

@[simp] theorem State.judgeInput_lamps : lampsOf s.judgeInput.fu.records = lampsOf s.fu.records := by
  unfold State.judgeInput
  dsimp only
  split
  · simp
  · rename_i r hr
    split <;> simp [State.buildInput_lamps, State.lampsOf_of_focusRecord hr]

@[simp] theorem State.judgeAtDesk_lamps : lampsOf s.judgeAtDesk.fu.records = lampsOf s.fu.records := by
  unfold State.judgeAtDesk; split <;> simp

@[simp] theorem State.takeMotion_lamps (i : Fin 2) (m : MouseMotion) :
    lampsOf (s.takeMotion i m).fu.records = lampsOf s.fu.records := by
  unfold State.takeMotion; split <;> simp

end Work

/-! ### A table filled and updated: a record is removed with its lamps, or stays with them (R52, R63) -/

/-- Filling the table keeps the records it has, whose watched channels alone are set. -/
theorem State.fillRecords_lamps {s : State} {p : Nat} {a : Lamps} (h : lampsOf s.fu.records p = some a) :
    lampsOf s.fillRecords.fu.records p = some a := by
  have hkept : lampsOf (s.fu.records.map fun r => { r with watched := s.cp.watched r.station }) p = some a := by
    simpa [lampsOf, List.find?_map, Function.comp_def] using h
  simp only [lampsOf, Option.map_eq_some_iff] at hkept ⊢
  obtain ⟨q, hq, hl⟩ := hkept
  exact ⟨q, by simp [State.fillRecords, List.find?_append, hq], hl⟩

/-- It makes none for a station without a source in the layout. -/
theorem State.fillRecords_lamps_of_no_source {s : State} {p : Nat} (h : lampsOf s.fu.records p = none)
    (hp : p ∉ s.cp.sources) : lampsOf s.fillRecords.fu.records p = none := by
  simp only [lampsOf, Option.map_eq_none_iff, List.find?_eq_none, decide_eq_true_eq] at h ⊢
  simp only [State.fillRecords, State.setFU_fu, List.mem_append, List.mem_map, List.mem_filter]
  rintro r (⟨q, hq, rfl⟩ | ⟨q, ⟨hq, -⟩, rfl⟩)
  · exact h q hq
  · rintro rfl
    exact hp hq

theorem State.dropRecord_record_other (s : State) {r : SrcRec} {p : Nat} (h : p ≠ r.station) :
    (s.dropRecord r).fu.record p = s.fu.record p := by
  unfold State.dropRecord
  (repeat' split) <;> simp [State.runLeave_record_other _ _ h]

/-- A record goes with its lamps, and nothing of another station's does. -/
theorem State.removeRecord_lamps (s : State) (r : SrcRec) (p : Nat) :
    lampsOf (s.removeRecord r).fu.records p = if p = r.station then none else lampsOf s.fu.records p := by
  have hrecords : (s.removeRecord r).fu.records = (s.dropRecord r).fu.records.filter fun q => q.station ≠ r.station :=
    rfl
  rw [hrecords, lampsOf, List.find?_filter]
  split
  · rename_i h
    subst h
    simp
  · rename_i h
    rw [FU.lampsOf_eq, ← s.dropRecord_record_other h, FU.record]
    congr 2
    funext q
    by_cases hq : q.station = p <;> simp [hq, h]

theorem State.foldl_removeRecord_lamps (l : List SrcRec) (p : Nat) : ∀ s : State,
    lampsOf (l.foldl State.removeRecord s).fu.records p
      = if p ∈ l.map SrcRec.station then none else lampsOf s.fu.records p := by
  induction l with
  | nil => simp
  | cons r rest ih =>
    intro s
    rw [List.foldl_cons, ih, State.removeRecord_lamps]
    by_cases hr : p = r.station <;> simp [hr]

/-- A record whose source leaves the layout is gone with its lamps, and any other keeps them. -/
theorem State.updateRecords_lamps {s : State} {p : Nat} {a : Lamps} (h : lampsOf s.fu.records p = some a) :
    lampsOf s.updateRecords.fu.records p = if p ∈ s.cp.sources then some a else none := by
  let gone := s.fu.records.filter fun r => !s.cp.sources.contains r.station
  let u := gone.foldl State.removeRecord s
  have hsources : u.cp.sources = s.cp.sources := by
    have hfill : u.fillRecords.cp = u.cp := by simp
    have hcp : u.cp.withWheel 0 = s.cp.withWheel 0 := hfill ▸ s.updateRecords_sansFlights.2
    exact (congrArg CP.sources hcp :)
  have hu : lampsOf u.fu.records p = if p ∈ gone.map SrcRec.station then none else some a :=
    h ▸ State.foldl_removeRecord_lamps gone p s
  have hrun : s.updateRecords = u.fillRecords := rfl
  rw [hrun]
  by_cases hp : p ∈ s.cp.sources
  · have hkept : p ∉ gone.map SrcRec.station := by
      simp only [gone, List.mem_map, List.mem_filter]
      rintro ⟨r, ⟨-, hr⟩, rfl⟩
      simp [hp] at hr
    rw [if_pos hp, State.fillRecords_lamps (hu.trans (if_neg hkept))]
  · obtain ⟨r, hr, -⟩ := Option.map_eq_some_iff.1 h
    have hst : r.station = p := FU.station_of_record hr
    have hgone : p ∈ gone.map SrcRec.station :=
      List.mem_map.2 ⟨r, List.mem_filter.2 ⟨List.mem_of_find?_eq_some hr, by simp [hst, hp]⟩, hst⟩
    rw [if_neg hp, State.fillRecords_lamps_of_no_source (hu.trans (if_pos hgone)) (hsources ▸ hp)]

/-! ### Layout changes, and what can bring one: a command, and so a change of the raw snapshot (R9, R47) -/

section Layouts
variable (s : State)

theorem State.updateRecords_keepsLamps : s.keepsLamps s.updateRecords := by
  intro p a b ha hb
  rw [State.updateRecords_lamps ha] at hb
  split at hb
  · exact (Option.some.inj hb).symm
  · cases hb

theorem State.fillRecords_keepsLamps : s.keepsLamps s.fillRecords := by
  intro p a b ha hb
  rw [State.fillRecords_lamps ha] at hb
  exact (Option.some.inj hb).symm

variable {s}

/-- Work that keeps every lamp set may come before and after. -/
theorem State.keepsLamps.congr {t u v : State} (h : s.keepsLamps t) (hu : lampsOf u.fu.records = lampsOf s.fu.records)
    (hv : lampsOf v.fu.records = lampsOf t.fu.records) : u.keepsLamps v := by
  unfold State.keepsLamps
  rw [hu, hv]
  exact h

variable (s)

/-- FU's part of a layout change is an update of its table, and then the focus change (R10, R63). -/
theorem State.changeLayout_eq (n : Nat) : ∃ u : State, u.fu = s.fu ∧ s.changeLayout n
    = ((u.updateRecords.focusFrom s.cp.focusSource).recomputeField.recomputeHeads).askPresence :=
  ⟨_, by simp, rfl⟩

theorem State.changeLayout_keepsLamps (n : Nat) : s.keepsLamps (s.changeLayout n) := by
  obtain ⟨u, hu, h⟩ := s.changeLayout_eq n
  rw [h]
  exact u.updateRecords_keepsLamps.congr (by rw [hu]) (by simp)

theorem State.command_keepsLamps (c : Command) : s.keepsLamps (s.command c) := by
  cases c with
  | select n =>
    unfold State.command State.selectLayout
    dsimp only
    split
    · exact State.keepsLamps_of_eq rfl
    · exact s.changeLayout_keepsLamps n
  | request => unfold State.command; dsimp only; split <;> exact State.keepsLamps_of_eq (by simp)
  | release => unfold State.command; dsimp only; split <;> exact State.keepsLamps_of_eq (by simp)
  | acknowledge => exact State.keepsLamps_of_eq (by simp [State.command])
  | confine => exact State.keepsLamps_of_eq rfl
  | leave => exact State.keepsLamps_of_eq rfl

theorem State.keysHeard_records (b : Bool) : (s.keysHeard b).fu.records = s.fu.records := by
  simp only [State.keysHeard, State.offered, State.setII_fu]
  (repeat' split) <;> simp

theorem State.rawChanged_keepsLamps (b : Bool) : s.keepsLamps (s.rawChanged b) := by
  by_cases h : s.ii.unionKeys = s.ii.raw
  · rw [State.rawChanged_of_same b h]
    exact State.keepsLamps_of_eq rfl
  · rw [State.rawChanged_of_ne b h]
    exact (State.command_keepsLamps _ _).congr (by rw [State.keysHeard_records]) rfl

theorem State.clearPort_keepsLamps (i : Fin 2) (p : HostPort) : s.keepsLamps (s.clearPort i p) := by
  rw [State.clearPort_eq]
  exact ((s.portEmptied i p).rawChanged_keepsLamps false).congr (by simp [State.portEmptied]) (by simp)

theorem State.transferFails_keepsLamps (i : Fin 2) (x : Transfer) : s.keepsLamps (s.transferFails i x) := by
  unfold State.transferFails
  dsimp only
  split
  · exact s.clearPort_keepsLamps i _
  · exact State.keepsLamps_of_eq (by simp)

theorem State.beginDesk_keepsLamps : s.keepsLamps s.beginDesk := by
  let u := (s.cp.streams.foldl State.makeCtx s).placeAll
  have hu : u.fu = s.fu := by simp [u]
  unfold State.beginDesk
  exact u.fillRecords_keepsLamps.congr (by rw [hu]) (by simp [u])

@[simp] theorem State.checkDesk_records (b : List Byte) : (s.checkDesk b).fu.records = s.fu.records := by
  unfold State.checkDesk State.acceptDesk
  dsimp only
  (repeat' split) <;> simp

end Layouts

/-! ### Commands and the lamps of the records (R69) -/

/-- The commands that can make or remove a record: a reset, the start of serving, and what can change the raw snapshot
and so select a layout. -/
def remakesTable : Instr → Bool
  | .reset _ | .listenTimerExpiry | .hostDeviceDisconnect _ | .transferUnanswered _ _ | .pollTransferFailure _ _
  | .keyboardReport _ _ => true
  | _ => false

/-- The messages that FU acts on by a record keep every lamp set: what they put or move is the sender's record, with its
lamps (R55, R58, R64). -/
theorem exec_sameLamps_of_message {c : Instr}
    (hc : c = .presenceTakenByFu ∨ c = .controlVerdictTaken ∨ c = .controlWithdrawnTaken) (s : State) :
    Ends s.sameLamps (exec c s) := by
  obtain rfl | rfl | rfl := hc
  · obtain ht | ⟨m, ht⟩ := s.take_cases .fu .presence
    · simp [exec, execPresenceTakenByFu, ht, State.sameLamps]
    · rcases hr : s.fu.record m.sender with - | r
      · simp [exec, execPresenceTakenByFu, ht, hr, State.sameLamps]
      · simp [exec, execPresenceTakenByFu, ht, hr, State.sameLamps, State.putRecord_lamps, State.reconcile_lamps,
          FU.lampsOf_of_record hr]
  · obtain ht | ⟨m, ht⟩ := s.take_cases .fu .controlVerdict
    · simp [exec, execControlVerdictTaken, ht, State.sameLamps]
    · rcases hv : readVerdict m.payload with - | v
      · simp [exec, execControlVerdictTaken, ht, hv, State.sameLamps]
      · rcases hr : s.fu.record m.sender with - | r
        · simp [exec, execControlVerdictTaken, ht, hv, hr, State.sameLamps]
        · simp [exec, execControlVerdictTaken, ht, hv, hr, State.sameLamps, State.takeVerdict_lamps,
            FU.lampsOf_of_record hr]
  · obtain ht | ⟨m, ht⟩ := s.take_cases .fu .controlWithdrawn
    · simp [exec, execControlWithdrawnTaken, ht, State.sameLamps]
    · rcases hv : reasonOf (byteAt m.payload 0) with - | v
      · simp [exec, execControlWithdrawnTaken, ht, hv, State.sameLamps]
      · rcases hr : s.fu.record m.sender with - | r
        · simp [exec, execControlWithdrawnTaken, ht, hv, hr, State.sameLamps]
        · rcases hst : withdrawalState v r.state with - | st <;> simp [exec, execControlWithdrawnTaken, ht, hv, hr, hst,
            State.sameLamps, State.moveRecord_lamps, FU.lampsOf_of_record hr]

/-- So do the expiries of a record's timers (R55, R59, R64, R65). -/
theorem exec_sameLamps_of_timer (p : Nat) {c : Instr}
    (hc : c = .askTimerExpiry p ∨ c = .refusedTimerExpiry p ∨ c = .absenceTimerExpiry p ∨ c = .holdOffTimerExpiry p)
    (s : State) : Ends s.sameLamps (exec c s) := by
  cases h : s.fu.record p with
  | none =>
    obtain rfl | rfl | rfl | rfl := hc <;> simp [exec, execAskTimerExpiry, execRefusedTimerExpiry,
      execAbsenceTimerExpiry, execHoldOffTimerExpiry, h, State.sameLamps]
  | some r =>
    obtain rfl | rfl | rfl | rfl := hc <;> simp [exec, execAskTimerExpiry, execRefusedTimerExpiry,
      execAbsenceTimerExpiry, execHoldOffTimerExpiry, h, State.sameLamps, State.putRecord_lamps,
      State.moveRecord_lamps, FU.lampsOf_of_record h]

/-- Every command but LAMPS_TAKEN that makes and removes no record keeps every lamp set. -/
theorem exec_sameLamps {c : Instr} (hc : c ≠ .lampsTaken) (h : remakesTable c = false) (s : State) :
    Ends s.sameLamps (exec c s) := by
  by_cases hsource : ofSource c = true
  · intro t ht
    obtain ⟨-, -, hfu, -⟩ := exec_sameDesk_of_source hsource s t ht
    exact congrArg lampsOf (congrArg FU.records hfu)
  cases c
  case lampsTaken => exact absurd rfl hc
  case reset | listenTimerExpiry | hostDeviceDisconnect | transferUnanswered | pollTransferFailure | keyboardReport =>
    cases h
  case presenceTakenByFu | controlVerdictTaken | controlWithdrawnTaken => exact exec_sameLamps_of_message (by simp) s
  case askTimerExpiry p | refusedTimerExpiry p | absenceTimerExpiry p | holdOffTimerExpiry p =>
    exact exec_sameLamps_of_timer p (by simp) s
  -- the start, the link and the fabric
  case linkUp | linkDown | transmitArbiterTake | frameReceived | presenceTimerExpiry | imageReadComplete =>
    simp only [exec, execLinkUp, execLinkDown, execTransmitArbiterTake, execFrameReceived, execPresenceTimerExpiry,
      execImageReadComplete]
    (repeat' split) <;> simp [State.sameLamps]
  -- the host ports and the hotkey machine's timers
  case hostDeviceConnect | enumerationComplete | enumerationFailure | pollAnsweredWithNoData | lampReportComplete
      | lampRetryExpiry | leadSeenTimerExpiry | commandTimerExpiry =>
    simp only [exec, execHostDeviceConnect, execEnumerationComplete, execEnumerationFailure,
      execPollAnsweredWithNoData, execLampReportComplete, execLampRetryExpiry, execLeadSeenTimerExpiry,
      execCommandTimerExpiry]
    (repeat' split) <;> simp [State.sameLamps]
  -- the pointer, HU, and the timers of FU and SR
  case mouseReport | inputIntervalExpiry | minuteTimerExpiry | headLineStart | staleTimerExpiry | lostTimerExpiry
      | repairTimerExpiry =>
    simp only [exec, execMouseReport, execInputIntervalExpiry, execMinuteTimerExpiry, execHeadLineStart,
      execStaleTimerExpiry, execLostTimerExpiry, execRepairTimerExpiry]
    (repeat' split) <;> simp [State.sameLamps]
  -- messages to SR
  case tileTaken | frameCloseTaken | presenceTakenBySr =>
    simp only [exec, execTileTaken, execFrameCloseTaken, execPresenceTakenBySr]
    (repeat' split) <;> simp_all [State.sameLamps, State.take_eq_some_iff]
  all_goals exact absurd rfl hsource

/-- Every command but LAMPS_TAKEN keeps the lamps of a record that stays (R69). -/
theorem exec_keepsLamps {c : Instr} (hc : c ≠ .lampsTaken) (s : State) : Ends s.keepsLamps (exec c s) := by
  cases h : remakesTable c with
  | false => exact fun t ht => State.keepsLamps_of_eq (exec_sameLamps hc h s t ht)
  | true =>
    have hsame : s.keepsLamps s := State.keepsLamps_of_eq rfl
    cases c
    case reset r => simp [exec, execReset, State.keepsLamps, State.reset, FU.reset, lampsOf]
    case listenTimerExpiry =>
      let u := s.setSA { s.sa with start := .serving, fabricUp := true, serving := true, listen := none }
      have hdesk : s.keepsLamps u.beginDesk.askPresence := u.beginDesk_keepsLamps.congr rfl (by simp)
      have hsource : s.keepsLamps u.wpBegin.askPresence := State.keepsLamps_of_eq (by simp [u])
      simp only [exec, execListenTimerExpiry]
      split
      · split
        · simpa using hdesk
        · simpa using hsource
      · simpa using hsame
    case hostDeviceDisconnect i =>
      simp [exec, execHostDeviceDisconnect, State.clearPort_keepsLamps, hsame]
    case transferUnanswered i x =>
      have hfails : s.keepsLamps (s.enumerationFails i) := State.keepsLamps_of_eq (by simp)
      simp [exec, execTransferUnanswered, State.transferFails_keepsLamps, hfails, hsame]
    case pollTransferFailure i x =>
      simp [exec, execPollTransferFailure, State.transferFails_keepsLamps, hsame]
    case keyboardReport i l =>
      by_cases hp : (s.ii.ports.get i).state = .polling ∧ (s.ii.ports.get i).keyboard.isSome = true
      · obtain ⟨hpolling, hkeyboard⟩ := hp
        rcases Nat.lt_or_ge l.length 8 with hl | hl
        · rw [exec_keyboardReport_of_short hpolling hkeyboard hl, Ends_next]
          exact State.keepsLamps_of_eq (by simp)
        · rw [exec_keyboardReport_of_whole hpolling hkeyboard hl, Ends_next]
          exact ((s.reportHeard i (l.take 8)).rawChanged_keepsLamps _).congr (by simp)
            (State.judgeInput_lamps (s.reportTaken i (l.take 8)))
      · have hidle : exec (.keyboardReport i l) s = .next s := by simp [exec, execKeyboardReport, hp]
        rwa [hidle, Ends_next]
    all_goals cases h

/-! ### LAMPS_TAKEN (R69) -/

section Taken
variable {s u : State} {m : RxMsg}

theorem exec_lampsTaken_of_no_record (hd : s.servingAs .desk = true) (ht : s.take .fu .lamps = some (m, u))
    (hr : s.fu.record m.sender = none) : exec .lampsTaken s = .next u := by
  obtain ⟨rfl, -⟩ := State.take_eq ht
  simp [exec, execLampsTaken, hd, ht, hr]

theorem exec_lampsTaken_of_record {r : SrcRec} (hd : s.servingAs .desk = true) (ht : s.take .fu .lamps = some (m, u))
    (hr : s.fu.record m.sender = some r) :
    exec .lampsTaken s = .next (u.putRecord { r with lamps := (m.payload.getD 0 0).setWidth 5 }).showLamps := by
  obtain ⟨rfl, -⟩ := State.take_eq ht
  simp [exec, execLampsTaken, hd, ht, hr]

end Taken

/-- What is shown is brought up to date with the records and the focus as they stand (R49). -/
theorem State.showLamps_shown (s : State) : s.showLamps.ii.shown = s.showLamps.lampsShown := rfl

/-- Lamps show only for a focus record that is HOLDING (R49). -/
theorem State.lampsShown_holding {s : State} (h : s.lampsShown ≠ 0) :
    ∃ r, s.focusRecord = some r ∧ r.state = .holding ∧ s.lampsShown = r.lamps := by
  unfold State.lampsShown at h ⊢
  cases hr : s.focusRecord with
  | none => simp [hr] at h
  | some r =>
    have hst : r.state = .holding := by simp_all
    exact ⟨r, rfl, hst, if_pos hst⟩

/-- Settles O52 (R69): LAMPS_TAKEN puts the record with the lamp set; every other command keeps the lamps of what its
table keeps; and the shown value is the focus record's. -/
theorem lampsStored : Obligations.LampsStored := by
  refine ⟨fun s u m hd ht => ⟨exec_lampsTaken_of_no_record hd ht, fun r hr => ?_⟩,
    fun c s t p r q hc ht hr hq => ?_, fun s => State.lampsShown_holding⟩
  · obtain ⟨hu, -⟩ := State.take_eq ht
    have hst : r.station = m.sender := FU.station_of_record hr
    refine ⟨_, exec_lampsTaken_of_record hd ht hr, ?_, fun p hp => ?_, State.showLamps_shown _, ?_⟩
    · simp [State.putRecord, FU.record_put, hst, hu, hr]
    · simp [State.putRecord, FU.record_put, hst, hu, hp]
    · simp [hu, State.sameSource]
  · exact exec_keepsLamps hc s t ht p r.lamps q.lamps (by simp [FU.lampsOf_eq, hr]) (by simp [FU.lampsOf_eq, hq])

end Sys2Proof.Machine
end

section
/-!
PROOF. Reconciliation, verdicts and withdrawals (04_focus_at_the_desk.md, R55 to R59, R64): FU's commands on a message
of a station that has a record, each as an equation, and the two statements assembled from them.
-/

namespace Sys2Proof.Machine

/-! ### PRESENCE_TAKEN_BY_FU (R64) -/

/-- The id that a PRESENCE lists for a desk is the one with which it names that desk as holder. -/
theorem listedHolder_eq {own : Nat} {p : List Byte} {held : Option Byte}
    (h : ∀ i, held = some i ↔ presenceHolder p = some (own, i)) : listedHolder own p = held := by
  ext i
  rw [h]
  unfold listedHolder
  cases presenceHolder p with
  | none => simp
  | some x =>
    obtain ⟨d, j⟩ := x
    by_cases hd : d = own <;> simp [hd]

section Messages
variable {s u : State} {m : RxMsg} {r : SrcRec}

/-- The record is heard of again, and outside the hold-off it is reconciled and FU judges its INPUT. -/
theorem exec_presenceTakenByFu {q : SrcRec} (hd : s.servingAs .desk = true)
    (ht : s.take .fu .presence = some (m, u)) (hr : s.fu.record m.sender = some r)
    (hq : q = { r with absence := some s.now, absent := false }) :
    exec .presenceTakenByFu s = .next (if r.holdOff.isSome = true then u.putRecord q
      else ((u.putRecord q).reconcile q (listedHolder s.fp.own m.payload)
        (decide (s.fp.own ∈ presenceWaiting m.payload))).judgeInput) := by
  obtain ⟨rfl, -⟩ := State.take_eq ht
  subst hq
  by_cases h : r.holdOff.isSome = true <;> simp [exec, execPresenceTakenByFu, hd, ht, hr, h]

/-! ### CONTROL_VERDICT_TAKEN and CONTROL_WITHDRAWN_TAKEN (R55, R58, R190) -/

theorem exec_controlVerdictTaken_of_malformed (hd : s.servingAs .desk = true)
    (ht : s.take .fu .controlVerdict = some (m, u)) (hv : readVerdict m.payload = none) :
    exec .controlVerdictTaken s = .next (u.latch .malformed) := by
  simp [exec, execControlVerdictTaken, hd, ht, hv]

theorem exec_controlVerdictTaken_of_no_record {v : Verdict} (hd : s.servingAs .desk = true)
    (ht : s.take .fu .controlVerdict = some (m, u)) (hv : readVerdict m.payload = some v)
    (hr : s.fu.record m.sender = none) : exec .controlVerdictTaken s = .next u := by
  obtain ⟨rfl, -⟩ := State.take_eq ht
  simp [exec, execControlVerdictTaken, hd, ht, hv, hr]

/-- A verdict is taken by a record whose id it bears, and FU judges its INPUT. -/
theorem exec_controlVerdictTaken_of_record {v : Verdict} (hd : s.servingAs .desk = true)
    (ht : s.take .fu .controlVerdict = some (m, u)) (hv : readVerdict m.payload = some v)
    (hr : s.fu.record m.sender = some r) :
    exec .controlVerdictTaken s
      = .next (if m.payload.getD 1 0 = r.id then (u.takeVerdict r v).judgeInput else u) := by
  obtain ⟨rfl, -⟩ := State.take_eq ht
  simp only [exec, execControlVerdictTaken, hd, ht, hv, hr, if_true, State.setFP_fu]
  split <;> rfl

theorem exec_controlWithdrawnTaken_of_malformed (hd : s.servingAs .desk = true)
    (ht : s.take .fu .controlWithdrawn = some (m, u)) (hv : reasonOf (byteAt m.payload 0) = none) :
    exec .controlWithdrawnTaken s = .next (u.latch .malformed) := by
  simp [exec, execControlWithdrawnTaken, hd, ht, hv]

theorem exec_controlWithdrawnTaken_of_no_record {why : Reason} (hd : s.servingAs .desk = true)
    (ht : s.take .fu .controlWithdrawn = some (m, u)) (hv : reasonOf (byteAt m.payload 0) = some why)
    (hr : s.fu.record m.sender = none) : exec .controlWithdrawnTaken s = .next u := by
  obtain ⟨rfl, -⟩ := State.take_eq ht
  simp [exec, execControlWithdrawnTaken, hd, ht, hv, hr]

/-- A withdrawal that bears another id, or that the record's state ignores, changes nothing (R58). -/
theorem exec_controlWithdrawnTaken_of_ignored {why : Reason} (hd : s.servingAs .desk = true)
    (ht : s.take .fu .controlWithdrawn = some (m, u)) (hv : reasonOf (byteAt m.payload 0) = some why)
    (hr : s.fu.record m.sender = some r)
    (h : m.payload.getD 1 0 ≠ r.id ∨ withdrawalState why r.state = none) : exec .controlWithdrawnTaken s = .next u := by
  obtain ⟨rfl, -⟩ := State.take_eq ht
  simp only [exec, execControlWithdrawnTaken, hd, ht, hv, hr, if_true, State.setFP_fu]
  split
  · rename_i hid
    rw [h.resolve_left (not_not_intro hid)]
  · rfl

/-- Any other moves the record, and FU judges its INPUT (R58). -/
theorem exec_controlWithdrawnTaken_of_matching {why : Reason} {st : RecState} (hd : s.servingAs .desk = true)
    (ht : s.take .fu .controlWithdrawn = some (m, u)) (hv : reasonOf (byteAt m.payload 0) = some why)
    (hr : s.fu.record m.sender = some r) (hid : m.payload.getD 1 0 = r.id)
    (hst : withdrawalState why r.state = some st) :
    exec .controlWithdrawnTaken s = .next (u.moveRecord r st).judgeInput := by
  obtain ⟨rfl, -⟩ := State.take_eq ht
  simp only [exec, execControlWithdrawnTaken, hd, ht, hv, hr, hid, hst, if_true, State.setFP_fu]

end Messages

/-- Settles O49 (R64): outside the hold-off, the table of R64 is the one by which a record is reconciled. -/
theorem reconciled : Obligations.Reconciled := by
  rintro s u v m r q held waits hd ht hr hq rfl hheld hwaits
  have hrun := exec_presenceTakenByFu hd ht hr hq
  have hlisted : decide (s.fp.own ∈ presenceWaiting m.payload) = waits := by
    rw [Bool.eq_iff_iff, decide_eq_true_iff]
    exact hwaits.symm
  have hst : q.state = r.state := by rw [hq]
  rw [listedHolder_eq hheld, hlisted] at hrun
  refine ⟨fun hoff => by rw [hrun, if_pos hoff], fun hoff => ?_⟩
  rw [hrun, if_neg (by simp [hoff])]
  refine ⟨fun hr h => ?_, fun hr h hw => ?_, fun i hr h => ?_, fun hr h => ?_, fun hr h hw => ?_, fun hr h hw => ?_,
    fun i hr h => ?_, fun hr h hw => ?_, fun hr h hw => ?_⟩
  · have hrelease : (u.putRecord q).sendRelease q = (u.putRecord q).hand0 (.controlRelease r.station r.id) := by
      rw [hq]; rfl
    cases held with
    | none => simp [State.reconcile, hst, hr, h.resolve_left (by simp), hrelease]
    | some i => simp [State.reconcile, hst, hr, hrelease]
  · simp [State.reconcile, hst, hr, h, hw]
  · obtain hr | hr := hr <;> simp [State.reconcile, hst, hr, h]
  · simp [State.reconcile, hst, hr, h]
  · simp [State.reconcile, hst, hr, h, hw]
  · simp [State.reconcile, hst, hr, h, hw]
  · simp [State.reconcile, hst, hr, h]
  · simp [State.reconcile, hst, hr, h, hw]
  · simp [State.reconcile, hst, hr, h, hw]

/-- The table of R58: what a withdrawal that bears the record's id makes of the record. -/
theorem withdrawalState_eq_none_iff {why : Reason} {st : RecState} :
    withdrawalState why st = none ↔ st = .idle ∨ st = .asking
      ∨ (st = .queued ∧ why ≠ .expired ∧ why ≠ .displaced) ∨ (st = .holding ∧ why = .displaced) := by
  cases st <;> cases why <;> simp [withdrawalState]

/-- Settles O51 (R55 to R59, R190): a verdict goes by the record's state, a withdrawal by the table of R58. -/
theorem verdictsAndWithdrawals : Obligations.VerdictsAndWithdrawals := by
  refine ⟨fun s u m hd ht => ⟨exec_controlVerdictTaken_of_malformed hd ht, fun v hv =>
      ⟨exec_controlVerdictTaken_of_no_record hd ht hv, fun r hr => ?_⟩⟩,
    fun s u m hd ht => ⟨exec_controlWithdrawnTaken_of_malformed hd ht, fun why hv =>
      ⟨exec_controlWithdrawnTaken_of_no_record hd ht hv, fun r hr => ⟨fun h => ?_, fun hid => ?_⟩⟩⟩⟩
  · have hrun := exec_controlVerdictTaken_of_record hd ht hv hr
    obtain ⟨hu, -⟩ := State.take_eq ht
    have hnow : u.now = s.now := by rw [hu]; rfl
    refine ⟨fun hid => by rw [hrun, if_neg hid], fun hid => ?_⟩
    rw [hrun, if_pos hid]
    refine ⟨?_, ?_, ?_, ?_⟩
    · rintro (hr | hr) rfl <;> simp [State.takeVerdict, hr]
    · rintro n hr rfl
      simp [State.takeVerdict, hr]
    · rintro (hr | hr) (rfl | rfl) <;> simp [State.takeVerdict, SrcRec.markRefused, hr, hnow]
    · rintro (hr | hr | ⟨hr, n, rfl⟩) <;> simp [State.takeVerdict, hr]
  · exact exec_controlWithdrawnTaken_of_ignored hd ht hv hr (h.imp_right withdrawalState_eq_none_iff.2)
  · have hrun {st : RecState} := exec_controlWithdrawnTaken_of_matching (st := st) hd ht hv hr hid
    refine ⟨fun hr h => hrun ?_, fun hr h => hrun ?_, fun hr h h' => hrun ?_⟩
    · obtain rfl | rfl := h <;> rw [hr] <;> rfl
    · rw [hr, h]; rfl
    · cases why <;> simp_all [withdrawalState]

end Sys2Proof.Machine
end

section
/-!
PROOF. The paced INPUT (04_focus_at_the_desk.md, R67, R68): when one is due, what FU's judgement comes to with no leave
pending, what the INPUT built carries and leaves, and the statement assembled from them.
-/

namespace Sys2Proof.Machine

theorem State.focusRecord_of_record {s : State} {p : Nat} {r : SrcRec} (hp : s.cp.focusSource = some p)
    (h : s.fu.record p = some r) : s.focusRecord = some r := by
  simp [State.focusRecord, hp, h]

/-- The model's wheel share is the bound on both sides (R34). -/
theorem wheelShare_eq (v : Int) : wheelShare v = max (-127) (min 127 v) := by
  unfold wheelShare clampInt
  split
  · omega
  · split <;> omega

/-- What calls for an INPUT of a record (R67). -/
def State.callsForInput (s : State) (r : SrcRec) : Prop :=
  s.fu.fresh = true ∨ s.fu.queue ≠ [] ∨ s.cp.field ≠ r.noted.field ∨ s.cp.buttons ≠ r.noted.buttons ∨ s.cp.wheel ≠ 0

section Judged
variable {s : State} {r : SrcRec}

/-- With no leave pending an INPUT of a HOLDING record waits for the interval, for room in class 1 and for something to
call for it (R67). -/
theorem State.inputDue_iff (hst : r.state = .holding) (hleave : r.leave = none) (horder : s.fu.leaveOrder = []) :
    s.inputDue r = true
      ↔ s.fu.interval = none ∧ (s.fp.linkUp = false ∨ s.fp.class1.length < 4) ∧ s.callsForInput r := by
  rw [← s.roomInClass1_iff]
  simp [State.inputDue, State.callsForInput, hst, hleave, horder, and_assoc, and_left_comm, or_assoc]

/-- With no leave pending FU's judgement is whether an INPUT of the focus record is due (R61, R67). -/
theorem State.judgeInput_of_no_leave (hr : s.focusRecord = some r) (horder : s.fu.leaveOrder = []) :
    s.judgeInput = if s.inputDue r then s.buildInput r else s := by
  simp [State.judgeInput, horder, State.runLeaves, hr]

end Judged

/-! ### The INPUT built (R68) -/

section Built
variable (s : State) (r : SrcRec)

/-- The INPUT that FU builds for a record. -/
def State.pacedInput (s : State) (r : SrcRec) : OutInput :=
  { target := r.station, id := r.id, seq := r.seq, snapshot := s.inputSnapshot, buttons := s.cp.buttons,
    field := s.cp.field, wheel := wheelShare s.cp.wheel }

theorem State.buildInput_fp : (s.buildInput r).fp = (s.hand1 (s.pacedInput r)).fp := by
  simp [State.buildInput, State.sendInput, State.pacedInput]

theorem State.buildInput_cp : (s.buildInput r).cp = { s.cp with wheel := s.cp.wheel - wheelShare s.cp.wheel } := by
  simp [State.buildInput]

theorem State.buildInput_fu : (s.buildInput r).fu = { FU.put { s.fu with interval := some s.now }
      { r with seq := r.seq + 1, noted := ⟨s.inputSnapshot, s.cp.buttons, s.cp.field⟩ } with
    queue := if s.fu.fresh then [] else s.fu.queue.tail
    fresh := false } := by
  simp [State.buildInput, State.sendInput, State.putRecord, FU.put]

theorem State.hand1_fp_of_up {s : State} (m : OutInput) (h : s.fp.linkUp = true) :
    (s.hand1 m).fp = { s.fp with class1 := s.fp.class1 ++ [m] } := by
  simp [State.hand1, h]

theorem State.hand1_of_down {s : State} (m : OutInput) (h : s.fp.linkUp = false) : s.hand1 m = s := by
  simp [State.hand1, h]

variable {s r}

/-- The focus record counts the INPUT and notes what it carried. -/
theorem State.buildInput_focusRecord (hr : s.focusRecord = some r) :
    (s.buildInput r).focusRecord
      = some { r with seq := r.seq + 1, noted := ⟨s.inputSnapshot, s.cp.buttons, s.cp.field⟩ } := by
  obtain ⟨hsource, hrecord⟩ := State.focusRecord_eq_some hr
  refine State.focusRecord_of_record (p := r.station) ?_ ?_
  · rw [State.buildInput_cp]
    exact hsource
  · have hput (f : FU) (q : SrcRec) (l : List Snapshot) (b : Bool) (p : Nat) :
        FU.record { f.put q with queue := l, fresh := b } p = (f.put q).record p := rfl
    have hkept (f : FU) (t : Timer) (p : Nat) : FU.record { f with interval := t } p = f.record p := rfl
    rw [State.buildInput_fu, hput, FU.record_put, hkept, hrecord]
    exact if_pos rfl

end Built

/-- The interval's expiry frees FU to judge its INPUT (R67). -/
theorem exec_inputIntervalExpiry {s : State} {u : Time} (hu : s.fu.interval = some u)
    (h : 1000 * s.fu.intervalMs ≤ (s.now - u).toNat) :
    exec .inputIntervalExpiry s = .next (s.setFU { s.fu with interval := none }).judgeInput := by
  have hms : Config.ms s.fu.intervalMs = 1000 * s.fu.intervalMs := Nat.mul_comm ..
  have hdue : timerDue s.now s.fu.interval (Config.ms s.fu.intervalMs) = true :=
    (timerDue_iff ..).2 ⟨u, hu, hms ▸ h⟩
  simp [exec, execInputIntervalExpiry, hdue]

/-- Settles O56 (R67, R68): an INPUT that is due is built, and else the judgement changes nothing. -/
theorem pacedInput : Obligations.PacedInput := by
  refine ⟨fun s u hu h => exec_inputIntervalExpiry hu h, fun s r hr hst hleave horder => ?_⟩
  have hjudge := State.judgeInput_of_no_leave hr horder
  have hdue := State.inputDue_iff hst hleave horder
  refine ⟨fun hinterval hroom hcalls => ⟨s.buildInput r, s.inputSnapshot, wheelShare s.cp.wheel, ?_⟩, fun h => ?_⟩
  · have hfp := s.buildInput_fp r
    have hfu := s.buildInput_fu r
    refine ⟨hjudge.trans (if_pos (hdue.2 ⟨hinterval, hroom, hcalls⟩)), wheelShare_eq _, fun hf => ?_,
      fun q l hf hq => ?_, fun hf hq => ?_, fun hup => hfp.trans (State.hand1_fp_of_up _ hup),
      fun hdown => hfp.trans (by rw [State.hand1_of_down _ hdown]), by rw [hfu], by rw [hfu]; rfl, s.buildInput_cp r,
      State.buildInput_focusRecord hr, ?_⟩
    · simp [hfu, State.inputSnapshot, hf]
    · simp [hfu, State.inputSnapshot, hf, hq]
    · simp [hfu, State.inputSnapshot, hf, hq]
    · simp [State.sameSource]
  · rw [hjudge, if_neg]
    rw [hdue]
    rintro ⟨hinterval, hroom, hcalls⟩
    obtain h | ⟨hup, hfull⟩ | ⟨hf, hq, hfield, hbuttons, hwheel⟩ := h
    · simp [hinterval] at h
    · simp [hup, Nat.not_lt.2 hfull] at hroom
    · simp [State.callsForInput, hf, hq, hfield, hbuttons, hwheel] at hcalls

end Sys2Proof.Machine
end

section
/-!
PROOF. The tables of the control arbiter (05_control_arbitration_at_the_workstation.md, CONTROL STATE): what hearing a
viewer and answering a desk that does not hold leave of CA, a desk's place in the wait list, and the expiries and
ATTN-CLEAR assembled from them.
-/

namespace Sys2Proof.Machine

/-! ### CA replaced, and messages handed to class 0 -/

@[simp] theorem State.setCA_setCA (s : State) (b c : CA) : (s.setCA b).setCA c = s.setCA c := rfl

/-- What is handed to class 0 does not depend on CA. -/
theorem State.hand0_setCA (s : State) (c : CA) (m : Out0) : (s.setCA c).hand0 m = (s.hand0 m).setCA c := by
  simp only [State.hand0, State.setCA_fp, apply_ite (State.setCA · c)]
  rfl

/-- Nor on WP. -/
theorem State.hand0_setWP (s : State) (w : WP) (m : Out0) : (s.setWP w).hand0 m = (s.hand0 m).setWP w := by
  simp only [State.hand0, State.setWP_fp, apply_ite (State.setWP · w)]
  rfl

theorem State.hand0_of_room {s : State} {m : Out0} (hup : s.fp.linkUp = true) (h : s.fp.class0.length < 16) :
    s.hand0 m = s.setFP { s.fp with class0 := s.fp.class0 ++ [m] } := by
  obtain ⟨hdown, -⟩ | ⟨-, -, hadd⟩ | ⟨-, hfull, -⟩ := s.hand0_cases m
  · simp [hup] at hdown
  · exact hadd
  · omega

theorem State.hand0_hand0_of_room {s : State} {m n : Out0} (hup : s.fp.linkUp = true)
    (h : s.fp.class0.length ≤ 14) :
    (s.hand0 m).hand0 n = s.setFP { s.fp with class0 := s.fp.class0 ++ [m, n] } := by
  rw [State.hand0_of_room hup (by omega), State.hand0_of_room]
  · simp [State.setFP]
  · exact hup
  · simp only [State.setFP_fp, List.length_append, List.length_singleton]
    omega

/-- Hearing a viewer changes the viewer table alone of CA (R73). -/
@[simp] theorem State.hear_ca_frame (s : State) (d : Nat) (w : Channels) :
    (s.hear d w).ca.permits = s.ca.permits ∧ (s.hear d w).ca.grace = s.ca.grace
      ∧ (s.hear d w).ca.slot = s.ca.slot ∧ (s.hear d w).ca.idle = s.ca.idle
      ∧ (s.hear d w).ca.idleExpired = s.ca.idleExpired ∧ (s.hear d w).ca.wait = s.ca.wait := by
  unfold State.hear
  split
  · dsimp only; split <;> simp
  · split <;> simp

/-! ### A desk's standing (R71, R72, R88) -/

section Standing
variable {c : CA} {d : Nat}

theorem CA.holds_eq_false_iff : c.holds d = false ↔ ∀ h, c.slot = some h → h.desk ≠ d := by
  unfold CA.holds
  cases c.slot <;> simp

theorem CA.waits_eq_false_iff : c.waits d = false ↔ ∀ e ∈ c.wait, e.desk ≠ d := by
  simp [CA.waits]

theorem CA.noted_iff : c.noted d = true ↔ ∃ n ∈ c.notes, n.desk = d ∧ n.timer.isSome = true := by
  simp [CA.noted]

theorem CA.rank_congr {b : CA} (h : c.permits = b.permits) : c.rank d = b.rank d := by
  unfold CA.rank
  rw [h]

end Standing

/-- A desk's position is counted from 1 (R72). -/
theorem positionOf_eq (d : Nat) (l : List WaitEntry) : positionOf d l = (l.map WaitEntry.desk).idxOf d + 1 := by
  induction l with
  | nil => rfl
  | cons e r ih => by_cases h : e.desk = d <;> simp [positionOf, ih, h]

/-! ### Notes (R88) -/

theorem mem_replaceNote {p : Note → Bool} (n : Note) {l : List Note} (h : ∃ m ∈ l, p m = true) :
    n ∈ replaceNote p n l := by
  induction l with
  | nil => simp at h
  | cons m r ih =>
    unfold replaceNote
    split
    · exact List.mem_cons_self
    · rename_i hm
      exact List.mem_cons_of_mem _ (ih (by simpa [hm] using h))

/-- A greatest age is the one that was there before, or a note's. -/
theorem foldl_max_age (now : Time) (l : List Note) (a : Nat) :
    l.foldl (fun a n => max a (n.age now)) a = a
      ∨ ∃ n ∈ l, n.age now = l.foldl (fun a n => max a (n.age now)) a := by
  induction l generalizing a with
  | nil => exact .inl rfl
  | cons n r ih =>
    simp only [List.foldl_cons, List.exists_mem_cons_iff]
    obtain h | h := ih (max a (n.age now))
    · rw [h]
      obtain hle | hle := le_total (n.age now) a
      · exact .inl (max_eq_left hle)
      · exact .inr (.inl (max_eq_right hle).symm)
    · exact .inr (.inr h)

theorem oldestAge_attained {now : Time} {l : List Note} (h : l ≠ []) : ∃ n ∈ l, n.age now = oldestAge now l := by
  obtain ⟨n, r, rfl⟩ := List.exists_cons_of_ne_nil h
  have hhead : oldestAge now (n :: r) = r.foldl (fun a n => max a (n.age now)) (n.age now) := by
    simp [oldestAge]
  rw [hhead, List.exists_mem_cons_iff]
  exact (foldl_max_age now r (n.age now)).imp_left Eq.symm

/-- However the place is found, the sender's note is then among the notes. -/
theorem mem_setNote (l : List Note) (d : Nat) (now : Time) : (⟨d, now, some now⟩ : Note) ∈ setNote l d now := by
  unfold setNote
  dsimp only
  split
  · rename_i h
    exact mem_replaceNote _ (List.any_eq_true.1 h)
  split
  · simp
  split
  · rename_i h
    exact mem_replaceNote _ (List.any_eq_true.1 h)
  · rename_i hfull _
    have hne : l ≠ [] := by rintro rfl; simp [Config.noteMax] at hfull
    obtain ⟨n, hn, hage⟩ := oldestAge_attained (now := now) hne
    exact mem_replaceNote _ ⟨n, hn, by simp [hage]⟩

/-! ### ATTN_CLEAR_TAKEN and the expiries (R71, R84, R88, R89) -/

section Commands
variable {s u : State} {m : RxMsg} {d : Nat}

theorem exec_attnClearTaken (hs : s.servingAs .source = true) (ht : s.take .ca .attnClear = some (m, u)) :
    exec .attnClearTaken s = .next (if s.ca.holds m.sender = true
      then u.setSA (SA.drive { s.sa with latched := s.sa.latched &&& s.sa.current }) else u) := by
  obtain ⟨rfl, -⟩ := State.take_eq ht
  by_cases h : s.ca.holds m.sender = true <;> simp [exec, execAttnClearTaken, hs, ht, h, SA.acknowledge]

theorem exec_waitEntryExpiry {e : WaitEntry} (he : s.ca.wait.find? (fun e => e.desk = d) = some e)
    (h : 1000000 * s.ca.waitLife ≤ (s.now - e.entered).toNat) :
    exec (.waitEntryExpiry d) s = .next ((s.setCA { s.ca with wait := s.ca.wait.filter fun e => e.desk ≠ d }).hand0
      (.controlWithdrawn d .expired e.id)) := by
  have hdue : timerDue s.now (some e.entered) s.ca.waitUs = true :=
    (timerDue_iff ..).2 ⟨_, rfl, by unfold CA.waitUs Config.ms; omega⟩
  simp [exec, execWaitEntryExpiry, he, hdue]

/-- T_grace in microseconds. -/
theorem CA.graceUs_eq (c : CA) : c.graceUs = 1000000 * c.grace := by
  unfold CA.graceUs Config.ms
  omega

theorem exec_idleTimerExpiry (h : ranFor s.now s.ca.idle (1000000 * s.ca.grace)) :
    exec .idleTimerExpiry s = .next (s.setCA { s.ca with idle := none, idleExpired := true }) := by
  have hdue : timerDue s.now s.ca.idle s.ca.graceUs = true := (timerDue_iff ..).2 (s.ca.graceUs_eq ▸ h)
  simp [exec, execIdleTimerExpiry, hdue]

/-- A note of desk `d` that has run its 100 ms counts no longer. -/
def Note.lapsed (n : Note) (d : Nat) (now : Time) : Note :=
  if n.desk = d && timerDue now n.timer Config.noteUs then { n with timer := none } else n

theorem exec_notHolderNoteExpiry : exec (.notHolderNoteExpiry d) s
    = .next (s.setCA { s.ca with notes := s.ca.notes.map fun n => n.lapsed d s.now }) := rfl

theorem Note.lapsed_of_other {n : Note} {now : Time} (h : n.desk ≠ d) : n.lapsed d now = n := by
  simp [Note.lapsed, h]

@[simp] theorem Note.lapsed_desk (n : Note) (now : Time) : (n.lapsed d now).desk = n.desk := by
  unfold Note.lapsed
  split <;> rfl

/-- A note's timer that has run its time, if it runs, runs no more. -/
theorem Note.lapsed_timer {n : Note} {now : Time} (hd : n.desk = d)
    (h : ∀ u, n.timer = some u → 100000 ≤ (now - u).toNat) : (n.lapsed d now).timer = none := by
  cases ht : n.timer with
  | none => simp [Note.lapsed, ht, timerDue]
  | some u =>
    have hdue : timerDue now (some u) Config.noteUs = true := (timerDue_iff ..).2 ⟨u, rfl, h u ht⟩
    simp [Note.lapsed, hd, ht, hdue]

end Commands

/-- Settles O33 (R71, R84, R88, R89): each command's equation; a lapsed note counts no longer, and no other lapses. -/
theorem arbiterTimersAndClear : Obligations.ArbiterTimersAndClear := by
  refine ⟨fun s u m hs ht => ⟨fun h => ?_, fun h => ?_⟩, fun s d e => exec_waitEntryExpiry,
    fun s t ht h => exec_idleTimerExpiry ⟨t, ht, h⟩,
    fun s d h => ⟨_, exec_notHolderNoteExpiry, ?_, fun q hq => ?_, rfl⟩⟩
  · rw [exec_attnClearTaken hs ht, if_pos h]
  · rw [exec_attnClearTaken hs ht, if_neg (by simp [h])]
  · rw [← Bool.not_eq_true, CA.noted_iff]
    rintro ⟨n, hn, hdesk, hruns⟩
    obtain ⟨k, hk, rfl⟩ := List.mem_map.1 hn
    have hd : k.desk = d := by simpa using hdesk
    simp [Note.lapsed_timer hd (h k hk hd)] at hruns
  · have hkept (n : Note) :
        ((n.lapsed d s.now).desk = q && (n.lapsed d s.now).timer.isSome) = (n.desk = q && n.timer.isSome) := by
      by_cases hn : n.desk = d
      · simp [hn, hq.symm]
      · rw [Note.lapsed_of_other hn]
    simp only [CA.noted, State.setCA_ca, List.any_map, Function.comp_def, hkept]

end Sys2Proof.Machine
end

section
/-!
PROOF. The slot filled and emptied (05_control_arbitration_at_the_workstation.md, GIVING UP AND LOSING CONTROL;
06_the_workstation_port.md, THE SNAPSHOT QUEUE): a snapshot offered to the workstation's queue, what a grant does, and
CONTROL-RELEASE and a viewer's expiry assembled from them.
-/

namespace Sys2Proof.Machine

/-! ### A snapshot offered to the queue (R96) -/

section Offer
variable {w : WP} {k : Snapshot} {now : Time}

theorem WP.reference_of_empty (h : w.queue = []) : w.reference = w.presented := by
  simp [WP.reference, h]

theorem WP.reference_of_tail {l : List QueueEntry} {e : QueueEntry} (h : w.queue = l ++ [e]) :
    w.reference = e.snapshot := by
  simp [WP.reference, h]

theorem WP.offer_of_reference (h : k = w.reference) : w.offer k now = w := if_pos h

theorem WP.offer_of_room (h : k ≠ w.reference) (hroom : w.queue.length < 32) :
    w.offer k now = { w with queue := w.queue ++ [⟨k, now, false⟩] } := by
  simp [WP.offer, h, Config.wpQueueMax, hroom]

/-- At a full queue the tail goes when the entry before it holds the same snapshot. -/
theorem WP.offer_of_repeat {l : List QueueEntry} {a e : QueueEntry} (h : k ≠ w.reference) (hfull : 32 ≤ w.queue.length)
    (hq : w.queue = l ++ [a, e]) (ha : a.snapshot = k) : w.offer k now = { w with queue := l ++ [a] } := by
  have hdrop : w.queue.dropLast = l ++ [a] := by simp [hq]
  simp [WP.offer, h, Config.wpQueueMax, Nat.not_lt.2 hfull, hdrop, ha]

/-- Else the snapshot takes the tail's place. -/
theorem WP.offer_of_full {l : List QueueEntry} {a e : QueueEntry} (h : k ≠ w.reference) (hfull : 32 ≤ w.queue.length)
    (hq : w.queue = l ++ [a, e]) (ha : a.snapshot ≠ k) :
    w.offer k now = { w with queue := l ++ [a, ⟨k, now, false⟩] } := by
  have hdrop : w.queue.dropLast = l ++ [a] := by simp [hq]
  simp [WP.offer, h, Config.wpQueueMax, Nat.not_lt.2 hfull, hdrop, ha]

/-- A queue of at least two entries, by its last two. -/
theorem exists_last_two {α : Type} {q : List α} (h : 2 ≤ q.length) : ∃ l a e, q = l ++ [a, e] := by
  obtain ⟨m, e, rfl⟩ := List.eq_nil_or_concat' q |>.resolve_left (by rintro rfl; simp at h)
  obtain ⟨l, a, rfl⟩ := List.eq_nil_or_concat' m |>.resolve_left (by rintro rfl; simp at h)
  exact ⟨l, a, e, by simp⟩

/-- An offer in one of its four cases (R96). -/
theorem WP.offer_cases (w : WP) (k : Snapshot) (now : Time) :
    (k = w.reference ∧ w.offer k now = w)
      ∨ (k ≠ w.reference ∧ w.queue.length < 32 ∧ w.offer k now = { w with queue := w.queue ++ [⟨k, now, false⟩] })
      ∨ ∃ l a e, k ≠ w.reference ∧ 32 ≤ w.queue.length ∧ w.queue = l ++ [a, e]
          ∧ ((a.snapshot = k ∧ w.offer k now = { w with queue := l ++ [a] })
            ∨ (a.snapshot ≠ k ∧ w.offer k now = { w with queue := l ++ [a, ⟨k, now, false⟩] })) := by
  by_cases h : k = w.reference
  · exact .inl ⟨h, WP.offer_of_reference h⟩
  obtain hroom | hfull := Nat.lt_or_ge w.queue.length 32
  · exact .inr (.inl ⟨h, hroom, WP.offer_of_room h hroom⟩)
  obtain ⟨l, a, e, hq⟩ := exists_last_two (le_trans (by decide) hfull)
  refine .inr (.inr ⟨l, a, e, h, hfull, hq, ?_⟩)
  by_cases ha : a.snapshot = k
  · exact .inl ⟨ha, WP.offer_of_repeat h hfull hq ha⟩
  · exact .inr ⟨ha, WP.offer_of_full h hfull hq ha⟩

theorem WP.offer_queue (w : WP) (k : Snapshot) (now : Time) :
    w.offer k now = { w with queue := (w.offer k now).queue } := by
  obtain ⟨-, h⟩ | ⟨-, -, h⟩ | ⟨l, a, e, -, -, -, ⟨-, h⟩ | ⟨-, h⟩⟩ := w.offer_cases k now <;> rw [h]

/-- An offer leaves the snapshot as the queue's reference. -/
theorem WP.offer_reference (w : WP) (k : Snapshot) (now : Time) : (w.offer k now).reference = k := by
  obtain ⟨hk, h⟩ | ⟨-, -, h⟩ | ⟨l, a, e, -, -, -, ⟨ha, h⟩ | ⟨-, h⟩⟩ := w.offer_cases k now <;> rw [h]
  · exact hk.symm
  · simp [WP.reference]
  · simp [WP.reference, ha]
  · simp [WP.reference]

theorem WP.offerUnlessDetached_of_detached (h : w.port = .detached) : w.offerUnlessDetached k now = w := if_pos h

theorem WP.offerUnlessDetached_of_attached (h : w.port ≠ .detached) : w.offerUnlessDetached k now = w.offer k now :=
  if_neg h

/-- An offer changes the queue alone. -/
theorem WP.offerUnlessDetached_queue (w : WP) (k : Snapshot) (now : Time) :
    w.offerUnlessDetached k now = { w with queue := (w.offerUnlessDetached k now).queue } := by
  by_cases h : w.port = .detached
  · rw [WP.offerUnlessDetached_of_detached h]
  · rw [WP.offerUnlessDetached_of_attached h]
    exact w.offer_queue k now

@[simp] theorem WP.offerUnlessDetached_lamps (w : WP) (k : Snapshot) (now : Time) :
    (w.offerUnlessDetached k now).lamps = w.lamps := by
  rw [WP.offerUnlessDetached_queue]

end Offer

/-! ### A grant (R77, R85, R100) -/

/-- WP told of a holder change: the all-released snapshot offered, and every button released (R100). -/
def WP.holderChanged (w : WP) (now : Time) : WP := { w.offerUnlessDetached .released now with buttons := 0 }

theorem WP.holderChanged_queue (w : WP) (now : Time) :
    w.holderChanged now = { w with queue := (w.holderChanged now).queue, buttons := 0 } := by
  unfold WP.holderChanged
  rw [WP.offerUnlessDetached_queue]

theorem WP.holderChanged_reference {w : WP} (now : Time) (h : w.port ≠ .detached) :
    (w.holderChanged now).reference = .released :=
  (congrArg WP.reference (WP.offerUnlessDetached_of_attached h)).trans (w.offer_reference .released now)

theorem WP.holderChanged_of_detached {w : WP} (now : Time) (h : w.port = .detached) :
    (w.holderChanged now).queue = w.queue := by
  rw [WP.holderChanged, WP.offerUnlessDetached_of_detached h]

theorem State.wpHolderChange_none (s : State) : s.wpHolderChange none = s.setWP (s.wp.holderChanged s.now) := rfl

theorem State.wpHolderChange_some (s : State) (d : Nat) :
    s.wpHolderChange (some d) = (s.setWP (s.wp.holderChanged s.now)).hand0 (.lamps d s.wp.lamps) := by
  simp [State.wpHolderChange, State.lampsTo, WP.holderChanged]

/-- CA once its slot has been filled (R71, R77). -/
def CA.granted (c : CA) (d r : Nat) (i : Byte) (now : Time) : CA :=
  CA.startIdle { c with slot := some (newSlot d r i now) } now

/-- A grant of a desk, while the link is up and class 0 has room for both messages. -/
theorem State.grant_of_room {s : State} (d r : Nat) (i : Byte) (hup : s.fp.linkUp = true)
    (hroom : s.fp.class0.length ≤ 14) :
    s.grant d r i = ((s.setCA (s.ca.granted d r i s.now)).setWP (s.wp.holderChanged s.now)).setFP
      { s.fp with class0 := s.fp.class0 ++ [.controlVerdict d .granted i, .lamps d s.wp.lamps] } := by
  let u := (s.setCA (s.ca.granted d r i s.now)).setWP (s.wp.holderChanged s.now)
  have hgrant : s.grant d r i = (u.hand0 (.controlVerdict d .granted i)).hand0 (.lamps d s.wp.lamps) := by
    simp [State.grant, State.wpHolderChange_some, State.hand0_setWP, u, CA.granted]
  rw [hgrant]
  exact State.hand0_hand0_of_room (s := u) hup hroom

/-! ### The slot emptied (R83) -/

section Emptied
variable {s : State}

theorem State.emptySlot_of_none (h : s.ca.wait.filter (fun e => s.ca.views e.desk) = []) :
    s.emptySlot = (s.setCA { s.ca with slot := none, wait := [] }).setWP (s.wp.holderChanged s.now) := by
  simp [State.emptySlot, h, State.wpHolderChange_none]

theorem State.emptySlot_of_head {e : WaitEntry} {r : List WaitEntry}
    (h : s.ca.wait.filter (fun e => s.ca.views e.desk) = e :: r) :
    s.emptySlot = (s.setCA { s.ca with slot := none, wait := r }).grant e.desk e.rank e.id := by
  simp [State.emptySlot, h]

end Emptied

section Commands
variable {s u : State} {m : RxMsg} {d : Nat}

theorem exec_controlReleaseTaken (hs : s.servingAs .source = true) (ht : s.take .ca .controlRelease = some (m, u)) :
    exec .controlReleaseTaken s = .next (if s.ca.holds m.sender = true then u.emptySlot
      else u.setCA { s.ca with wait := s.ca.wait.filter fun e => e.desk ≠ m.sender }) := by
  obtain ⟨rfl, -⟩ := State.take_eq ht
  by_cases h : s.ca.holds m.sender = true <;> simp [exec, execControlReleaseTaken, hs, ht, h]

/-- A viewer entry is due when some entry of the desk was last heard 1000 ms ago (R74). -/
theorem State.viewerDue_iff :
    s.viewerDue d = true ↔ ∃ v ∈ s.ca.viewers, v.desk = d ∧ 1000000 ≤ (s.now - v.heard).toNat := by
  simp only [State.viewerDue, List.any_eq_true, Bool.and_eq_true, decide_eq_true_eq, timerDue_iff, ranFor,
    Option.some.injEq, exists_eq_left']
  rfl

theorem exec_viewerEntryExpiry_of_holder {h : Slot} (hdue : s.viewerDue d = true) (hslot : s.ca.slot = some h)
    (hd : h.desk = d) : exec (.viewerEntryExpiry d) s
      = .next ((s.setCA { s.ca with viewers := s.ca.viewers.filter fun v => v.desk ≠ d }).hand0
          (.controlWithdrawn d .expired h.id)).emptySlot := by
  simp [exec, execViewerEntryExpiry, hdue, hslot, hd]

theorem exec_viewerEntryExpiry_of_other (hdue : s.viewerDue d = true) (h : s.ca.holds d = false) :
    exec (.viewerEntryExpiry d) s = .next (s.setCA { s.ca with
      viewers := s.ca.viewers.filter fun v => v.desk ≠ d
      wait := s.ca.wait.filter fun e => e.desk ≠ d }) := by
  cases hslot : s.ca.slot with
  | none => simp [exec, execViewerEntryExpiry, hdue, hslot]
  | some q => simp [exec, execViewerEntryExpiry, hdue, hslot, CA.holds_eq_false_iff.1 h q hslot]

end Commands

/-- Settles O31 (R74, R82, R83): the two ways of an emptied slot, and the two commands that may empty it. -/
theorem slotEmptied : Obligations.SlotEmptied := by
  refine ⟨fun s => ⟨fun e r => State.emptySlot_of_head, State.emptySlot_of_none⟩,
    fun s u m hs ht => ⟨fun h => ?_, fun h => ?_⟩,
    fun s d hdue => ⟨fun h => exec_viewerEntryExpiry_of_holder (State.viewerDue_iff.2 hdue),
      exec_viewerEntryExpiry_of_other (State.viewerDue_iff.2 hdue)⟩⟩
  · rw [exec_controlReleaseTaken hs ht, if_pos h]
  · rw [exec_controlReleaseTaken hs ht, if_neg (by simp [h])]

end Sys2Proof.Machine
end

section
/-!
PROOF. CONTROL_REQUEST_TAKEN (05_control_arbitration_at_the_workstation.md, CONTROL-REQUEST): the seven cases of R76 as
equations of the state in which the viewer entry has been heard, an entry's place in the wait list, and the two
statements assembled from them.
-/

namespace Sys2Proof.Machine

/-! ### An entry's place (R72, R78, R80) -/

/-- An entry is placed behind the entries ahead of it, before every other. -/
theorem placeEntry_eq (ahead : Nat → Bool) (e : WaitEntry) (l : List WaitEntry) :
    placeEntry ahead e l = l.takeWhile (fun x => ahead x.rank) ++ e :: l.dropWhile (fun x => ahead x.rank) := by
  induction l with
  | nil => rfl
  | cons x r ih => by_cases h : ahead x.rank = true <;> simp [placeEntry, ih, h]

/-- A desk that was not in a list stands where its entry is placed. -/
theorem positionOf_placed {e : WaitEntry} {a b : List WaitEntry} (h : ∀ x ∈ a, x.desk ≠ e.desk) :
    positionOf e.desk (a ++ e :: b) = a.length + 1 := by
  induction a with
  | nil => simp [positionOf]
  | cons x r ih =>
    rw [List.forall_mem_cons] at h
    simp [positionOf, h.1, ih h.2]

section Room
variable {s : State} {r : Nat}

theorem State.makeRoom_of_room (h : s.ca.wait.length < 4) : s.makeRoom r = some s := if_pos h

variable {l : List WaitEntry} {e : WaitEntry}

/-- A lower-ranked tail is withdrawn DISPLACED. -/
theorem State.makeRoom_of_lower_tail (hw : s.ca.wait = l ++ [e]) (hfull : 4 ≤ s.ca.wait.length) (h : e.rank < r) :
    s.makeRoom r
      = some ((s.hand0 (.controlWithdrawn e.desk .displaced e.id)).setCA { s.ca with wait := l }) := by
  have hdrop : s.ca.wait.dropLast = l := by simp [hw]
  have htail : displaced r s.ca.wait = some e := by simp [displaced, hw, h]
  simp only [State.makeRoom, Config.waitMax, if_neg (Nat.not_lt.2 hfull), htail, hdrop, State.hand0_setCA]

theorem State.makeRoom_of_no_room (hw : s.ca.wait = l ++ [e]) (hfull : 4 ≤ s.ca.wait.length) (h : r ≤ e.rank) :
    s.makeRoom r = none := by
  have htail : displaced r s.ca.wait = none := by simp [displaced, hw, Nat.not_lt.2 h]
  simp only [State.makeRoom, Config.waitMax, if_neg (Nat.not_lt.2 hfull), htail]

end Room

/-- The wait list with an entry placed behind those whose rank is ahead. -/
def CA.place (c : CA) (ahead : Nat → Bool) (e : WaitEntry) : CA :=
  { c with wait := c.wait.takeWhile (fun x => ahead x.rank) ++ e :: c.wait.dropWhile (fun x => ahead x.rank) }

section Placed
variable {s u : State} {h : Slot} {d r : Nat} {i : Byte}

theorem State.preempt_of_room (hu : s.makeRoom h.rank = some u) :
    s.preempt h d r i
      = ((u.setCA (u.ca.place (fun k => h.rank < k) ⟨h.desk, h.rank, h.id, s.now⟩)).hand0
          (.controlWithdrawn h.desk .preemptedQueued h.id)).grant d r i := by
  obtain ⟨-, hnow, -⟩ := State.makeRoom_frame hu
  simp [State.preempt, hu, placeEntry_eq, CA.place, hnow]

theorem State.preempt_of_lower_tail {l : List WaitEntry} {e : WaitEntry} (hw : s.ca.wait = l ++ [e])
    (hfull : 4 ≤ s.ca.wait.length) (he : e.rank < h.rank) :
    s.preempt h d r i
      = (((s.hand0 (.controlWithdrawn e.desk .displaced e.id)).setCA
          (CA.place { s.ca with wait := l } (fun k => h.rank < k) ⟨h.desk, h.rank, h.id, s.now⟩)).hand0
            (.controlWithdrawn h.desk .preemptedQueued h.id)).grant d r i := by
  rw [State.preempt_of_room (State.makeRoom_of_lower_tail hw hfull he), State.setCA_setCA, State.setCA_ca]

theorem State.preempt_of_no_room (hu : s.makeRoom h.rank = none) :
    s.preempt h d r i = (s.hand0 (.controlWithdrawn h.desk .preempted h.id)).grant d r i := by
  simp [State.preempt, hu]

theorem State.joinWait_of_room (hu : s.makeRoom r = some u) (hd : ∀ e ∈ u.ca.wait, e.desk ≠ d) :
    s.joinWait d r i
      = (u.setCA (u.ca.place (fun k => r ≤ k) ⟨d, r, i, s.now⟩)).hand0
          (.controlVerdict d (.queued ((u.ca.wait.takeWhile (fun e => r ≤ e.rank)).length + 1)) i) := by
  obtain ⟨-, hnow, -⟩ := State.makeRoom_frame hu
  have hpos := positionOf_placed (e := ⟨d, r, i, s.now⟩) (b := u.ca.wait.dropWhile (fun e => r ≤ e.rank))
    fun x hx => hd x ((List.takeWhile_subset (fun e => decide (r ≤ e.rank))) hx)
  simp [State.joinWait, hu, placeEntry_eq, CA.place, hnow, hpos]

theorem State.joinWait_of_lower_tail {l : List WaitEntry} {e : WaitEntry} (hw : s.ca.wait = l ++ [e])
    (hfull : 4 ≤ s.ca.wait.length) (he : e.rank < r) (hd : ∀ e ∈ s.ca.wait, e.desk ≠ d) :
    s.joinWait d r i
      = ((s.hand0 (.controlWithdrawn e.desk .displaced e.id)).setCA
          (CA.place { s.ca with wait := l } (fun k => r ≤ k) ⟨d, r, i, s.now⟩)).hand0
            (.controlVerdict d (.queued ((l.takeWhile (fun e => r ≤ e.rank)).length + 1)) i) := by
  have hleft : ∀ x ∈ l, x.desk ≠ d := fun x hx => hd x (hw ▸ List.mem_append_left _ hx)
  rw [State.joinWait_of_room (State.makeRoom_of_lower_tail hw hfull he) hleft, State.setCA_setCA, State.setCA_ca]

theorem State.joinWait_of_no_room (hu : s.makeRoom r = none) :
    s.joinWait d r i = s.hand0 (.controlVerdict d .listFull i) := by
  simp [State.joinWait, hu]

end Placed

/-! ### The cases of a request (R76) -/

/-- A holder is idle when its timer has expired or has run T_grace (R71, R79; log 35). -/
theorem State.holderIdle_iff (s : State) :
    s.holderIdle = true ↔ s.ca.idleExpired = true ∨ ranFor s.now s.ca.idle (1000000 * s.ca.grace) := by
  rw [State.holderIdle, Bool.or_eq_true, timerDue_iff, CA.graceUs_eq]

section Request
variable {s : State} {d : Nat} {i : Byte} {h : Slot}

theorem State.request_of_no_permit (hr : s.ca.rank d = 0) :
    s.request d i = s.hand0 (.controlVerdict d .noPermit i) := if_pos hr

/-- A re-affirmation. -/
theorem State.request_of_holder (hr : s.ca.rank d ≠ 0) (hslot : s.ca.slot = some h) (hd : h.desk = d) :
    s.request d i = ((s.setCA { s.ca with slot := some { h with id := i, accepted := none } }).hand0
      (.controlVerdict d .granted i)).hand0 (.lamps d s.wp.lamps) := by
  simp [State.request, hr, hslot, hd, State.lampsTo]

/-- The new id changes neither the desks that wait nor their order. -/
theorem State.request_of_waiting (hr : s.ca.rank d ≠ 0) (hholds : s.ca.holds d = false)
    (hwaits : s.ca.waits d = true) :
    s.request d i = (s.setCA { s.ca with
        wait := s.ca.wait.map fun e => if e.desk = d then { e with id := i } else e }).hand0
      (.controlVerdict d (.queued ((s.ca.wait.map WaitEntry.desk).idxOf d + 1)) i) := by
  have hdesk (e : WaitEntry) : (if e.desk = d then { e with id := i } else e).desk = e.desk := by split <;> rfl
  have hpos : positionOf d (s.ca.wait.map fun e => if e.desk = d then { e with id := i } else e)
      = (s.ca.wait.map WaitEntry.desk).idxOf d + 1 := by
    rw [positionOf_eq, List.map_map]
    simp [Function.comp_def, hdesk]
  cases hslot : s.ca.slot with
  | none => simp [State.request, hr, hslot, hwaits, hpos]
  | some h => simp [State.request, hr, hslot, hwaits, hpos, CA.holds_eq_false_iff.1 hholds h hslot]

theorem State.request_of_empty (hr : s.ca.rank d ≠ 0) (hslot : s.ca.slot = none) (hwaits : s.ca.waits d = false) :
    s.request d i = s.grant d (s.ca.rank d) i := by
  simp [State.request, hr, hslot, hwaits]

/-- Against another holder a desk that does not wait preempts, takes over, or joins the wait list. -/
theorem State.request_of_other (hr : s.ca.rank d ≠ 0) (hslot : s.ca.slot = some h) (hd : h.desk ≠ d)
    (hwaits : s.ca.waits d = false) :
    s.request d i = if h.rank < s.ca.rank d then s.preempt h d (s.ca.rank d) i
      else if h.rank = s.ca.rank d && s.holderIdle then
        (s.hand0 (.controlWithdrawn h.desk .idleTaken h.id)).grant d (s.ca.rank d) i
      else s.joinWait d (s.ca.rank d) i := by
  simp [State.request, hr, hslot, hd, hwaits]

end Request

section Commands
variable {s u : State} {m : RxMsg}

theorem exec_controlRequestTaken_of_malformed (hs : s.servingAs .source = true)
    (ht : s.take .ca .controlRequest = some (m, u)) (h : 3 < byteAt m.payload 1) :
    exec .controlRequestTaken s = .next (u.latch .malformed) := by
  simp [exec, execControlRequestTaken, hs, ht, Nat.not_le.2 h]

theorem exec_controlRequestTaken (hs : s.servingAs .source = true)
    (ht : s.take .ca .controlRequest = some (m, u)) (h : byteAt m.payload 1 ≤ 3) :
    exec .controlRequestTaken s = .next
      ((u.hear m.sender ((m.payload.getD 1 0).setWidth 2)).request m.sender (m.payload.getD 0 0)) := by
  simp [exec, execControlRequestTaken, hs, ht, h]

end Commands

/-- Settles O29 (R76, R77): cases 1 to 4 of R76 after the viewer entry is heard, and what a grant does. -/
theorem requestAnswered : Obligations.RequestAnswered := by
  refine ⟨fun s u v m i hs ht hi hv => ⟨exec_controlRequestTaken_of_malformed hs ht, fun hwatched => ?_⟩,
    fun s d r i hup hroom => ?_⟩
  · obtain ⟨hu, -⟩ := State.take_eq ht
    have hrun : exec .controlRequestTaken s = .next (v.request m.sender i) := by
      rw [exec_controlRequestTaken hs ht hwatched, ← hv, ← hi]
    have hslot : v.ca.slot = s.ca.slot := by simp [hv, hu]
    have hwait : v.ca.wait = s.ca.wait := by simp [hv, hu]
    have hwp : v.wp = s.wp := by simp [hv, hu]
    have hrank : v.ca.rank m.sender = s.ca.rank m.sender := CA.rank_congr (by simp [hv, hu])
    have hholds : v.ca.holds m.sender = s.ca.holds m.sender := by simp [CA.holds, hslot]
    have hwaits : v.ca.waits m.sender = s.ca.waits m.sender := by simp [CA.waits, hwait]
    rw [hrun, ← hslot, ← hwait, ← hwp, ← hrank, ← hholds, ← hwaits]
    exact ⟨fun hr => congrArg _ (State.request_of_no_permit hr), fun hr =>
      ⟨fun h hh hd => congrArg _ (State.request_of_holder hr hh hd),
        fun hh hw => congrArg _ (State.request_of_waiting hr hh hw),
        fun hh hw => congrArg _ (State.request_of_empty hr hh hw)⟩⟩
  · rw [State.grant_of_room d r i hup hroom]
    exact ⟨rfl, rfl, rfl, s.wp.holderChanged_queue s.now, WP.holderChanged_reference s.now,
      WP.holderChanged_of_detached s.now, rfl, rfl, rfl, rfl, rfl, rfl, rfl, rfl, rfl⟩

/-- Settles O30 (R76, R78, R79, R80): cases 5 to 7 of R76, each with the room that the wait list has. -/
theorem requestTakesOver : Obligations.RequestTakesOver := by
  intro s u v m i h d r hs ht hwatched hi hv hd hr hpermit hslot hother hwaits
  obtain ⟨hu, -⟩ := State.take_eq ht
  have hwait : v.ca.wait = s.ca.wait := by simp [hv, hu]
  have hidle : v.ca.idle = s.ca.idle := by simp [hv, hu]
  have hexpired : v.ca.idleExpired = s.ca.idleExpired := by simp [hv, hu]
  have hgrace : v.ca.grace = s.ca.grace := by simp [hv, hu]
  have hnow : v.now = s.now := by simp [hv, hu]
  have hrank : v.ca.rank d = r := (CA.rank_congr (by simp [hv, hu])).trans hr.symm
  have hfree : ∀ e ∈ v.ca.wait, e.desk ≠ d := hwait ▸ CA.waits_eq_false_iff.1 hwaits
  have hrun : exec .controlRequestTaken s = .next (if h.rank < r then v.preempt h d r i
      else if h.rank = r && v.holderIdle then (v.hand0 (.controlWithdrawn h.desk .idleTaken h.id)).grant d r i
      else v.joinWait d r i) := by
    rw [exec_controlRequestTaken hs ht hwatched, ← hv, ← hi, ← hd, ← hrank]
    exact congrArg _ (State.request_of_other (hrank ▸ hpermit) (by simp [hv, hu, hslot]) hother
      (CA.waits_eq_false_iff.2 hfree))
  rw [hrun, ← hwait, ← hidle, ← hexpired, ← hgrace, ← hnow]
  refine ⟨fun hlow => ?_, fun heq hid => ?_, fun hjoin => ?_⟩
  · rw [if_pos hlow]
    refine ⟨fun hroom => ?_, fun l e hw hfull => ⟨fun he => ?_, fun he => ?_⟩⟩
    · rw [State.preempt_of_room (State.makeRoom_of_room hroom)]
      rfl
    · rw [State.preempt_of_lower_tail hw hfull he]
      rfl
    · rw [State.preempt_of_no_room (State.makeRoom_of_no_room hw hfull he)]
  · rw [if_neg (by omega), if_pos (by simp [heq, v.holderIdle_iff.2 hid])]
  · have hnot : ¬ (h.rank = r && v.holderIdle) = true := by
      rw [Bool.and_eq_true, decide_eq_true_iff, v.holderIdle_iff]
      rintro ⟨heq, hid⟩
      obtain hlow | ⟨-, hexp, hran⟩ := hjoin
      · omega
      · exact hid.elim (by simp [hexp]) hran
    rw [if_neg (by omega), if_neg hnot]
    refine ⟨fun hroom => ?_, fun l e hw hfull => ⟨fun he => ?_, fun he => ?_⟩⟩
    · rw [State.joinWait_of_room (State.makeRoom_of_room hroom) hfree]
      rfl
    · rw [State.joinWait_of_lower_tail hw hfull he hfree]
      rfl
    · rw [State.joinWait_of_no_room (State.makeRoom_of_no_room hw hfull he)]

end Sys2Proof.Machine
end

section
/-!
PROOF. INPUT_TAKEN (05_control_arbitration_at_the_workstation.md, INPUT FROM DESKS; 06_the_workstation_port.md, APPLYING
INPUT): what an accepted INPUT does at WP, which INPUT the holder's slot accepts, the answer to a desk that does not
hold, and the two statements about INPUT assembled from them.
-/

namespace Sys2Proof.Machine

/-! ### WP's part of an accepted INPUT (R96, R99, R102, R103, R105) -/

section Applied
variable {w : WP} {k : Snapshot}

/-- A snapshot is put into the queue unless it is the reference's or only removes the tail (R96; log 25). -/
theorem WP.offerAdds_iff : w.offerAdds k = true ↔ k ≠ w.reference ∧ (w.queue.length < 32
    ∨ (w.queue.dropLast.getLast?).map (fun e => e.snapshot) ≠ some k) := by
  rw [WP.offerAdds, Bool.and_eq_true, Bool.or_eq_true, decide_eq_true_iff, decide_eq_true_iff, decide_eq_true_iff]
  rfl

theorem WP.offerAdds_iff_of_full {l : List QueueEntry} {a e : QueueEntry} (h : k ≠ w.reference)
    (hfull : 32 ≤ w.queue.length) (hq : w.queue = l ++ [a, e]) : w.offerAdds k = true ↔ a.snapshot ≠ k := by
  have hdrop : w.queue.dropLast = l ++ [a] := by simp [hq]
  simp [WP.offerAdds_iff, h, Nat.not_lt.2 hfull, hdrop]

theorem WP.offerUnlessDetached_of_unchanged {now : Time} (h : w.port = .detached ∨ k = w.reference) :
    w.offerUnlessDetached k now = w := by
  by_cases hport : w.port = .detached
  · exact WP.offerUnlessDetached_of_detached hport
  · rw [WP.offerUnlessDetached_of_attached hport, WP.offer_of_reference (h.resolve_left hport)]

theorem WP.point_of_locked {f : PtrField} {z e : Size} (hz : (w.places.get f.channel).mode = some z)
    (he : w.extent = some e) : w.point (some f) = { w with
      x := logicalAxis (w.places.get f.channel).px f.x z.w e.w
      y := logicalAxis (w.places.get f.channel).py f.y z.h e.h } := by
  simp [WP.point, hz, he]

theorem WP.point_of_unlocked {f : PtrField} (h : (w.places.get f.channel).mode = none ∨ w.extent = none) :
    w.point (some f) = w := by
  unfold WP.point
  dsimp only
  split
  · rename_i hz he
    simp [hz, he] at h
  · rfl

/-- A pointer field is mapped alike whatever the queue and the buttons (R102). -/
theorem WP.point_queue_buttons (w : WP) (f : Option PtrField) (q : List QueueEntry) (b : Buttons) :
    ({ w with queue := q, buttons := b } : WP).point f
      = { w with queue := q, buttons := b, x := (w.point f).x, y := (w.point f).y } := by
  cases f with
  | none => rfl
  | some f =>
    unfold WP.point
    dsimp only
    split <;> rfl

theorem WP.apply_eq (w : WP) (i : InputContent) (now : Time) : w.apply i now = { w with
    queue := (w.offerUnlessDetached i.snapshot now).queue
    buttons := i.buttons
    x := (w.point i.field).x
    y := (w.point i.field).y
    wheel := max (-32768) (min 32767 (w.wheel + i.wheel)) } := by
  obtain ⟨q, hq⟩ : ∃ q, w.offerUnlessDetached i.snapshot now = { w with queue := q } :=
    ⟨_, w.offerUnlessDetached_queue i.snapshot now⟩
  have hpoint := w.point_queue_buttons i.field q i.buttons
  simp only [WP.apply, hq, hpoint, saturate16_eq]

/-- Whether an INPUT makes WP signal resume (R105). -/
def WP.wakesFor (w : WP) (i : InputContent) (now : Time) : Bool :=
  w.port = .suspended .configured && w.remoteWake && w.inputChanges i && w.mayResume now

theorem WP.inputChanges_iff (w : WP) (i : InputContent) : w.inputChanges i = true ↔
    w.offerAdds i.snapshot = true ∨ i.buttons ≠ w.buttons ∨ (w.point i.field).x ≠ w.x ∨ (w.point i.field).y ≠ w.y := by
  simp only [WP.inputChanges, Bool.or_eq_true, decide_eq_true_eq, or_assoc, ne_comm (a := i.buttons)]

theorem WP.mayResume_iff (w : WP) (now : Time) :
    w.mayResume now = true ↔ ∀ u, w.resumeGap = some u → 100000 ≤ (now - u).toNat := by
  unfold WP.mayResume
  cases w.resumeGap with
  | none => simp
  | some u =>
    simp only [Option.some.injEq, forall_eq']
    exact decide_eq_true_iff

theorem WP.wakesFor_iff (w : WP) (i : InputContent) (now : Time) : w.wakesFor i now = true ↔
    w.port = .suspended .configured ∧ w.remoteWake = true
      ∧ (w.offerAdds i.snapshot = true ∨ i.buttons ≠ w.buttons ∨ (w.point i.field).x ≠ w.x ∨ (w.point i.field).y ≠ w.y)
      ∧ ∀ u, w.resumeGap = some u → 100000 ≤ (now - u).toNat := by
  rw [← w.inputChanges_iff, ← w.mayResume_iff]
  simp [WP.wakesFor, and_assoc]

/-- WP after an accepted INPUT: applied in the order of R99, with resume signalled where R105 calls for it. -/
def WP.received (w : WP) (i : InputContent) (now : Time) : WP := { w with
  queue := (w.offerUnlessDetached i.snapshot now).queue
  buttons := i.buttons
  x := (w.point i.field).x
  y := (w.point i.field).y
  wheel := max (-32768) (min 32767 (w.wheel + i.wheel))
  resuming := if w.wakesFor i now = true then some now else w.resuming
  resumeGap := if w.wakesFor i now = true then some now else w.resumeGap }

theorem WP.received_queue (w : WP) (i : InputContent) (now : Time) :
    (w.received i now).queue = (w.offerUnlessDetached i.snapshot now).queue := rfl

theorem WP.received_x (w : WP) (i : InputContent) (now : Time) : (w.received i now).x = (w.point i.field).x := rfl

theorem WP.received_y (w : WP) (i : InputContent) (now : Time) : (w.received i now).y = (w.point i.field).y := rfl

theorem State.wpInput_wp (s : State) (i : InputContent) : (s.wpInput i).wp = s.wp.received i s.now := by
  have hwake : (s.wpInput i).wp
      = if s.wp.wakesFor i s.now = true then { s.wp.apply i s.now with resuming := some s.now, resumeGap := some s.now }
        else s.wp.apply i s.now := by
    simp only [State.wpInput, State.setWP_wp, WP.wake, WP.apply_eq]
    rfl
  rw [hwake, WP.apply_eq, WP.received]
  split <;> rfl

end Applied

/-! ### Admission (R86, R87) -/

theorem Slot.changedBy_iff (h : Slot) (i : InputContent) : h.changedBy i = true ↔ i.snapshot ≠ h.prevSnapshot
    ∨ i.buttons ≠ h.prevButtons ∨ i.wheel ≠ 0 ∨ (i.field ≠ none ∧ i.field ≠ h.prevField) := by
  simp [Slot.changedBy, or_assoc, Option.isSome_iff_ne_none]

/-- The slot accepts an INPUT of its id whose sequence is the first or newer. -/
theorem Slot.accepts_iff (h : Slot) (i : InputContent) (seq : BitVec 16) : h.accepts i seq = true ↔ i.id = h.id
    ∧ (h.accepted = none ∨ ∃ a, h.accepted = some a ∧ 1 ≤ (seq - a).toNat ∧ (seq - a).toNat ≤ 32767) := by
  unfold Slot.accepts
  cases h.accepted with
  | none => simp
  | some a =>
    simp only [newer, Bool.and_eq_true, decide_eq_true_eq, Option.some.injEq, exists_eq_left', reduceCtorEq, false_or]
    rfl

theorem Slot.accepts_eq_false {h : Slot} {i : InputContent} {seq : BitVec 16} (hold : i.id ≠ h.id
    ∨ ∃ a, h.accepted = some a ∧ ((seq - a).toNat = 0 ∨ 32768 ≤ (seq - a).toNat)) : h.accepts i seq = false := by
  rw [← Bool.not_eq_true, Slot.accepts_iff]
  rintro ⟨hid, hseq⟩
  obtain ⟨a, ha, hdist⟩ := hold.resolve_left (not_not_intro hid)
  obtain hnone | ⟨b, hb, hlow, hhigh⟩ := hseq
  · simp [ha] at hnone
  · obtain rfl : a = b := Option.some.inj (ha.symm.trans hb)
    omega

/-- CA after an accepted INPUT: a change starts the idle timer (R71, R87). -/
def CA.heardFrom (c : CA) (h : Slot) (i : InputContent) (seq : BitVec 16) (now : Time) : CA :=
  { c with
    slot := some (h.accept i seq now)
    idle := if h.changedBy i then some now else c.idle
    idleExpired := if h.changedBy i then decide (c.grace = 0) else c.idleExpired }

section Admission
variable {s : State} {d : Nat} {seq : BitVec 16} {i : InputContent} {h : Slot}

theorem State.inputFrom_of_accepted (hslot : s.ca.slot = some h) (hd : h.desk = d) (ha : h.accepts i seq = true) :
    s.inputFrom d seq i = (s.setCA (s.ca.heardFrom h i seq s.now)).wpInput i := by
  cases hc : h.changedBy i <;>
    simp [State.inputFrom, hslot, hd, ha, hc, CA.heardFrom, CA.startIdle]

theorem State.inputFrom_of_old (hslot : s.ca.slot = some h) (hd : h.desk = d) (ha : h.accepts i seq = false) :
    s.inputFrom d seq i = s := by
  simp [State.inputFrom, hslot, hd, ha]

theorem State.inputFrom_of_other (hholds : s.ca.holds d = false) : s.inputFrom d seq i = s.notHolder d i.id := by
  cases hslot : s.ca.slot with
  | none => simp [State.inputFrom, hslot]
  | some h => simp [State.inputFrom, hslot, CA.holds_eq_false_iff.1 hholds h hslot]

end Admission

/-! ### The answer to a desk that does not hold (R88) -/

section Refused
variable {s : State} {d : Nat}

theorem State.notHolder_of_noted (i : Byte) (h : s.ca.noted d = true) : s.notHolder d i = s := if_pos h

theorem State.notHolder_of_not_noted (i : Byte) (h : s.ca.noted d = false) :
    s.notHolder d i = (s.hand0 (.controlWithdrawn d .notHolder i)).setCA
      { s.ca with notes := setNote s.ca.notes d s.now } := if_neg (by simp [h])

/-- It changes the notes alone of CA. -/
@[simp] theorem State.notHolder_ca_frame (s : State) (d : Nat) (i : Byte) :
    (s.notHolder d i).ca.slot = s.ca.slot ∧ (s.notHolder d i).ca.wait = s.ca.wait
      ∧ (s.notHolder d i).ca.idle = s.ca.idle := by
  cases h : s.ca.noted d with
  | true => simp [State.notHolder_of_noted i h]
  | false => simp [State.notHolder_of_not_noted i h]

theorem CA.noted_setNote (c : CA) (d : Nat) (now : Time) :
    CA.noted { c with notes := setNote c.notes d now } d = true :=
  CA.noted_iff.2 ⟨_, mem_setNote c.notes d now, rfl, rfl⟩

end Refused

section Commands
variable {s u : State} {m : RxMsg}

theorem exec_inputTaken_of_malformed (hs : s.servingAs .source = true) (ht : s.take .ca .input = some (m, u))
    (hi : readInput m.payload = none) : exec .inputTaken s = .next (u.latch .malformed) := by
  simp [exec, execInputTaken, hs, ht, hi]

theorem exec_inputTaken {i : InputContent} (hs : s.servingAs .source = true) (ht : s.take .ca .input = some (m, u))
    (hi : readInput m.payload = some i) : exec .inputTaken s = .next (u.inputFrom m.sender m.seq i) := by
  simp [exec, execInputTaken, hs, ht, hi]

end Commands

/-- Settles O7 (R86, R88): the INPUT of a desk that does not hold is malformed, or goes to the notes alone. -/
theorem onlyTheHolderReachesTheWorkstation : Obligations.OnlyTheHolderReachesTheWorkstation := by
  intro s u m hs ht hother
  obtain ⟨hu, -⟩ := State.take_eq ht
  cases hi : readInput m.payload with
  | none => exact ⟨_, exec_inputTaken_of_malformed hs ht hi, by simp [hu]⟩
  | some i =>
    have hholds : u.ca.holds m.sender = false := CA.holds_eq_false_iff.2 (by simpa [hu] using hother)
    refine ⟨_, exec_inputTaken hs ht hi, ?_⟩
    rw [State.inputFrom_of_other hholds]
    simp [hu]

/-- Settles O32 (R86 to R88, R96, R99, R102, R103, R105, R190): an accepted INPUT is applied at WP, an old one is
discarded, and another desk's is answered unless a note of it counts. -/
theorem inputAdmitted : Obligations.InputAdmitted := by
  intro s u m hs ht
  obtain ⟨hu, -⟩ := State.take_eq ht
  have hca : u.ca = s.ca := by simp [hu]
  have hwpu : u.wp = s.wp := by simp [hu]
  have hnow : u.now = s.now := by simp [hu]
  refine ⟨exec_inputTaken_of_malformed hs ht, fun i hi => ⟨fun h hslot hd => ⟨fun hid hseq => ?_, fun hold => ?_⟩,
    fun hholds hnoted => ?_, fun hholds hnoted => ?_⟩⟩ <;> rw [exec_inputTaken hs ht hi]
  · let t := (u.setCA (s.ca.heardFrom h i m.seq s.now)).wpInput i
    have haccepts : h.accepts i m.seq = true := (h.accepts_iff i m.seq).2 ⟨hid, hseq⟩
    have hinput : u.inputFrom m.sender m.seq i = t := by
      rw [State.inputFrom_of_accepted (hca ▸ hslot) hd haccepts, hca, hnow]
    have hcat : t.ca = s.ca.heardFrom h i m.seq s.now := by simp [t]
    have hwp : t.wp = s.wp.received i s.now := by
      rw [State.wpInput_wp, State.setCA_wp, State.setCA_now, hwpu, hnow]
    refine ⟨t, s.wp.reference, s.wp.offerAdds i.snapshot = true, s.wp.wakesFor i s.now = true, congrArg _ hinput, hcat,
      h.changedBy_iff i, ?_, WP.reference_of_empty, fun l e => WP.reference_of_tail, fun hsame => ?_,
      fun hport hk => ⟨fun hroom => ⟨WP.offerAdds_iff.2 ⟨hk, .inl hroom⟩, ?_⟩, fun l a e hfull hq =>
        ⟨fun ha => ⟨fun hadds => (WP.offerAdds_iff_of_full hk hfull hq).1 hadds ha, ?_⟩,
          fun ha => ⟨(WP.offerAdds_iff_of_full hk hfull hq).2 ha, ?_⟩⟩⟩,
      fun _ hk hadds => (WP.offerAdds_iff.1 hadds).1 hk, fun hf => ?_, fun f z e hf hz he => ?_,
      fun f hf hlock => ?_, ?_, fun hwake => ?_, fun hwake => ?_, ?_⟩
    · rw [hwp]
      rfl
    -- the snapshot
    · rw [hwp, WP.received_queue, WP.offerUnlessDetached_of_unchanged hsame]
    · rw [hwp, WP.received_queue, WP.offerUnlessDetached_of_attached hport, WP.offer_of_room hk hroom]
    · rw [hwp, WP.received_queue, WP.offerUnlessDetached_of_attached hport, WP.offer_of_repeat hk hfull hq ha]
    · rw [hwp, WP.received_queue, WP.offerUnlessDetached_of_attached hport, WP.offer_of_full hk hfull hq ha]
    -- the position
    · rw [hwp, WP.received_x, WP.received_y, hf]
      exact ⟨rfl, rfl⟩
    · rw [hwp, WP.received_x, WP.received_y, hf, WP.point_of_locked hz he]
      exact ⟨rfl, rfl⟩
    · rw [hwp, WP.received_x, WP.received_y, hf, WP.point_of_unlocked hlock]
      exact ⟨rfl, rfl⟩
    -- remote wake
    · rw [hwp]
      exact s.wp.wakesFor_iff i s.now
    · rw [hwp]
      exact ⟨if_pos hwake, if_pos hwake⟩
    · rw [hwp]
      exact ⟨if_neg hwake, if_neg hwake⟩
    -- everything else
    · simp [t, hu, State.sameDesk]
  · rw [State.inputFrom_of_old (hca ▸ hslot) hd (Slot.accepts_eq_false hold)]
  · rw [State.inputFrom_of_other (hca ▸ hholds), State.notHolder_of_noted _ (hca ▸ hnoted)]
  · rw [State.inputFrom_of_other (hca ▸ hholds), State.notHolder_of_not_noted _ (hca ▸ hnoted), hca]
    exact ⟨_, rfl, rfl, CA.noted_setNote ..⟩

end Sys2Proof.Machine
end

section
/-!
PROOF. What CU, TS, WP and PU keep after a change of a capture channel (07_capture_and_tile_signatures.md, R110 to R115):
a channel's context replaced, the blocks told that a channel entered or left LOCKED, CHANNEL-UNSUPPORTED as the other
channel leaves it, and the loss of sync.
-/

namespace Sys2Proof.Machine

/-! ### One channel replaced -/

@[simp] theorem Pair_get_set_one_sub {α : Type} (p : Pair α) (i : Fin 2) (a : α) :
    (p.set i a).get (1 - i) = p.get (1 - i) :=
  Pair_get_set_other p i (1 - i) a (one_sub_ne i)

section Replaced
variable (s : State) (i : Fin 2)

@[simp] theorem State.setChannel_cu (c : Channel) :
    (s.setChannel i c).cu.ch.get i = c ∧ (s.setChannel i c).cu.ch.get (1 - i) = s.cu.ch.get (1 - i)
      ∧ (s.setChannel i c).cu.store = s.cu.store := by
  simp [State.setChannel]

@[simp] theorem State.setTsChannel_ts (k : TsChannel) :
    (s.setTsChannel i k).ts.ch.get i = k ∧ (s.setTsChannel i k).ts.ch.get (1 - i) = s.ts.ch.get (1 - i) := by
  simp [State.setTsChannel]

/-- CHANNEL-UNSUPPORTED stands for the other channel alone when this one is not UNSUPPORTED (R111). -/
theorem State.recomputeUnsupported_setChannel {c : Channel} (h : c.state ≠ .unsupported) :
    (s.setChannel i c).recomputeUnsupported = (s.setChannel i c).setCurrent .channelUnsupported
      ((s.cu.ch.get (1 - i)).state = .unsupported) := by
  have hany : (s.setChannel i c).cu.anyUnsupported = decide ((s.cu.ch.get (1 - i)).state = .unsupported) := by
    match i with
    | 0 => simp [CU.anyUnsupported, State.setChannel, Pair.get, Pair.set, h]
    | 1 => simp [CU.anyUnsupported, State.setChannel, Pair.get, Pair.set, h]
  rw [State.recomputeUnsupported, hany]

end Replaced

/-! ### A channel that enters or leaves LOCKED: TS, WP and PU are told (R114, R115) -/

@[simp] theorem WP.lockChange_places (w : WP) (i : Fin 2) (z : Option Size) :
    ((w.lockChange i z).places.get i).mode = z := by
  simp [WP.lockChange]

@[simp] theorem State.handPresence_start (s : State) : s.handPresence.sa.start = s.sa.start := by
  obtain ⟨-, h⟩ | ⟨-, -, -, h⟩ | ⟨-, -, -, h⟩ := s.handPresence_cases <;> rw [h] <;> rfl

/-- A PRESENCE asked for while the link is UP stands in class 2 (R173, R175). -/
theorem State.presence_mem_askPresence {s : State} (h : s.fp.linkUp = true) :
    Out2.presence ∈ s.askPresence.fp.class2 := by
  rw [State.askPresence, State.setPU_fp]
  obtain ⟨hthere, e⟩ | ⟨-, -, -, e⟩ | ⟨-, -, -, e⟩ := s.handPresence_cases <;> rw [e]
  · exact hthere.resolve_left (by simp [h])
  · simp
  · simp

/-- A channel's context and TS's part for it replaced, WP told of its size, and a PRESENCE asked for: what entering and
leaving LOCKED have in common. -/
def State.lockTold (s : State) (i : Fin 2) (c : Channel) (k : TsChannel) (z : Option Size) : State :=
  (((s.setChannel i c).setTsChannel i k).setWP (s.wp.lockChange i z)).askPresence

theorem State.enterLocked_eq (s : State) (i : Fin 2) (c : Channel) (m : Meas) : s.enterLocked i c m
    = s.lockTold i (c.lock m) ((s.ts.ch.get i).locked ⟨m.w, m.h⟩) (some ⟨m.w, m.h⟩) := rfl

theorem State.leaveLocked_eq (s : State) (i : Fin 2) (c : Channel) : s.leaveLocked i c
    = s.lockTold i { c with mode := none } (s.ts.ch.get i).unlocked none := rfl

section Told
variable (s : State) (i : Fin 2) (c : Channel) (k : TsChannel) (z : Option Size)

@[simp] theorem State.lockTold_frame :
    (s.lockTold i c k z).sa.start = s.sa.start ∧ (s.lockTold i c k z).ca = s.ca ∧ s.sameDesk (s.lockTold i c k z) := by
  simp [State.lockTold, State.sameDesk, State.askPresence]

@[simp] theorem State.lockTold_cu :
    (s.lockTold i c k z).cu.ch.get i = c ∧ (s.lockTold i c k z).cu.ch.get (1 - i) = s.cu.ch.get (1 - i)
      ∧ (s.lockTold i c k z).cu.store = s.cu.store := by
  simp [State.lockTold]

@[simp] theorem State.lockTold_ts :
    (s.lockTold i c k z).ts.ch.get i = k ∧ (s.lockTold i c k z).ts.ch.get (1 - i) = s.ts.ch.get (1 - i) := by
  simp [State.lockTold]

@[simp] theorem State.lockTold_wp : (s.lockTold i c k z).wp = s.wp.lockChange i z := by
  simp [State.lockTold]

@[simp] theorem State.lockTold_pu : (s.lockTold i c k z).pu.timer = some s.now := by
  simp [State.lockTold, State.askPresence]

theorem State.presence_mem_lockTold (h : s.fp.linkUp = true) : Out2.presence ∈ (s.lockTold i c k z).fp.class2 :=
  State.presence_mem_askPresence (by simpa using h)

end Told

/-! ### The loss of sync (R112) -/

section Lost
variable {s : State} {i : Fin 2}

theorem State.loseSync_of_locked (h : (s.cu.ch.get i).state = .locked) : s.loseSync i
    = s.lockTold i { (s.cu.ch.get i).silent with mode := none } (s.ts.ch.get i).unlocked none := by
  rw [State.loseSync, h, State.leaveLocked_eq]

theorem State.loseSync_of_unsupported (h : (s.cu.ch.get i).state = .unsupported) : s.loseSync i
    = (s.setChannel i (s.cu.ch.get i).silent).setCurrent .channelUnsupported
        ((s.cu.ch.get (1 - i)).state = .unsupported) := by
  rw [State.loseSync, h, ← State.recomputeUnsupported_setChannel s i (by simp [Channel.silent])]

theorem State.loseSync_of_other (hl : (s.cu.ch.get i).state ≠ .locked) (hu : (s.cu.ch.get i).state ≠ .unsupported) :
    s.loseSync i = s.setChannel i (s.cu.ch.get i).silent := by
  cases h : (s.cu.ch.get i).state with
  | locked => exact absurd h hl
  | unsupported => exact absurd h hu
  | noSignal | measuring => simp [State.loseSync, h]

/-- A channel that lost its sync: NO-SIGNAL, and without a locked mode when it was LOCKED; the other channel and the
store stay. -/
theorem State.loseSync_cu (s : State) (i : Fin 2) :
    (s.loseSync i).cu.ch.get i = { (s.cu.ch.get i).silent with
        mode := if (s.cu.ch.get i).state = .locked then none else (s.cu.ch.get i).mode }
      ∧ (s.loseSync i).cu.ch.get (1 - i) = s.cu.ch.get (1 - i) ∧ (s.loseSync i).cu.store = s.cu.store := by
  by_cases hl : (s.cu.ch.get i).state = .locked
  · simp [State.loseSync_of_locked hl, hl]
  by_cases hu : (s.cu.ch.get i).state = .unsupported
  · simp [State.loseSync_of_unsupported hu, hu, Channel.silent]
  · simp [State.loseSync_of_other hl hu, hl, Channel.silent]

theorem State.loseSync_state (s : State) (i : Fin 2) : ((s.loseSync i).cu.ch.get i).state = .noSignal := by
  rw [(s.loseSync_cu i).1]
  rfl

theorem State.loseSync_servingAs (s : State) (i : Fin 2) (r : Role) : (s.loseSync i).servingAs r = s.servingAs r := by
  have hstart : (s.loseSync i).sa.start = s.sa.start := by
    by_cases hl : (s.cu.ch.get i).state = .locked
    · simp [State.loseSync_of_locked hl]
    by_cases hu : (s.cu.ch.get i).state = .unsupported
    · rw [State.loseSync_of_unsupported hu]
      rfl
    · rw [State.loseSync_of_other hl hu]
      rfl
  simp [State.servingAs, hstart]

/-- SYNC_TIMER_EXPIRY once 100 ms have passed since the last sync. -/
theorem exec_syncTimerExpiry {u : Time} (hu : (s.cu.ch.get i).sync = some u) (h : 100000 ≤ (s.now - u).toNat) :
    exec (.syncTimerExpiry i) s = .next (s.loseSync i) :=
  if_pos ((timerDue_iff ..).2 ⟨u, hu, h⟩)

end Lost

end Sys2Proof.Machine
end

section
/-!
PROOF. FRAME_SYNC (07_capture_and_tile_signatures.md, R108, R110 to R117): what a measurement says, the run of a
MEASURING channel and where it settles, the sync by the channel's state, and the command assembled from them.
-/

namespace Sys2Proof.Machine

/-! ### Measurements that agree and that lie within limits (R108) -/

theorem Meas.agrees_iff (a b : Meas) : a.agrees b = true ↔ a.w = b.w ∧ a.h = b.h ∧ a.lines = b.lines
    ∧ a.period ≤ b.period + 20 ∧ b.period ≤ a.period + 20 := by
  simp [Meas.agrees, and_assoc]

theorem Meas.withinLimits_iff (m : Meas) :
    m.withinLimits = true ↔ 640 ≤ m.w ∧ m.w ≤ 2560 ∧ 480 ≤ m.h ∧ m.h ≤ 1600 := by
  simp [Meas.withinLimits, and_assoc]

/-- A regular measurement's width is that of every valid line, and 0 without one. -/
theorem measure_fields {l : List Nat} {n p : Nat} {m : Meas} (h : measure l n p = some m) :
    (∀ a ∈ l, m.w = min 4095 a) ∧ (l = [] → m.w = 0) ∧ m.h = min 4095 l.length ∧ m.lines = min 4095 n
      ∧ m.period = p := by
  obtain ⟨rfl, hall⟩ := measure_eq_some h
  refine ⟨fun a ha => by rw [hall a ha], ?_, rfl, rfl, rfl⟩
  rintro rfl
  rfl

section Measured
variable {c : Channel} {n : FrameCounts} {now u : Time}

/-- A channel that is not LOCKED is measured from the counts given (log 8). -/
theorem Channel.measurement_of_unlocked (hu : c.sync = some u) (h : c.state ≠ .locked) :
    c.measurement n now = measure n.validLines n.totalLines (now - u).toNat := by
  simp [Channel.measurement, Channel.frameLines, Channel.size, Channel.period, elapsed, hu, h]

/-- A LOCKED channel is measured from the lines it has taken (R113). -/
theorem Channel.measurement_of_locked {r : Meas} (hu : c.sync = some u) (h : c.state = .locked)
    (hr : c.mode = some r) :
    c.measurement n now = measure (List.replicate c.line r.w) n.totalLines (now - u).toNat := by
  simp [Channel.measurement, Channel.frameLines, Channel.size, Channel.period, elapsed, hu, h, hr]

end Measured

/-! ### The run of a MEASURING channel (R110, R111) -/

section Run
variable {s : State} {i : Fin 2} {c : Channel} {m r : Meas} {x : Option Meas}

theorem agreesWith_some {ref : Option Meas} (h : ∀ r, ref = some r → m.agrees r = false) :
    agreesWith (some m) ref = false := by
  cases ref with
  | none => rfl
  | some r => exact h r rfl

theorem Channel.measured_of_agrees (hr : c.ref = some r) (h : m.agrees r = true) :
    c.measured (some m) = { c with run := c.run + 1 } := by
  simp [Channel.measured, agreesWith, hr, h]

/-- The run started anew on a measurement just completed, and not at all on an irregular one (R110). -/
def Channel.restarted (c : Channel) (x : Option Meas) : Channel :=
  { c with ref := x, run := if x.isSome then 1 else 0 }

theorem Channel.measured_of_differs (h : agreesWith x c.ref = false) : c.measured x = c.restarted x := by
  cases x <;> simp [Channel.measured, Channel.restarted, h]

theorem State.settle_of_short (h : c.run < 3) : s.settle i c = s.setChannel i c := if_neg (by omega)

theorem State.settle_restarted : s.settle i (c.restarted x) = s.setChannel i (c.restarted x) :=
  State.settle_of_short (by cases x <;> simp [Channel.restarted])

theorem State.settle_within (h : 3 ≤ c.run) (hr : c.ref = some r) (hw : r.withinLimits = true) :
    s.settle i c = s.enterLocked i c r := by
  simp [State.settle, h, hr, hw]

theorem State.settle_beyond (h : 3 ≤ c.run) (hr : c.ref = some r) (hw : r.withinLimits = false) :
    s.settle i c = (s.setChannel i { c with state := .unsupported }).raise .channelUnsupported := by
  simp [State.settle, State.enterUnsupported, h, hr, hw]

end Run

/-! ### A sync by the channel's state (R110, R111, R113, R117) -/

/-- The channel's context with its sync timer restarted and a frame begun. -/
def Channel.synced (c : Channel) (now : Time) : Channel := { c with sync := some now, line := 0 }

@[simp] theorem Channel.synced_frame (c : Channel) (now : Time) :
    (c.synced now).state = c.state ∧ (c.synced now).ref = c.ref ∧ (c.synced now).run = c.run
      ∧ (c.synced now).mode = c.mode := ⟨rfl, rfl, rfl, rfl⟩

section Sync
variable {s : State} {i : Fin 2} {n : FrameCounts} {c : Channel} {x : Option Meas} {m r : Meas}
  (hc : c = (s.cu.ch.get i).synced s.now) (hx : x = (s.cu.ch.get i).measurement n s.now)
include hc

theorem State.takeSync_of_noSignal (h : c.state = .noSignal) :
    s.takeSync i n = s.setChannel i { c with state := .measuring, ref := none, run := 0 } := by
  subst hc
  rw [State.takeSync, show (s.cu.ch.get i).state = _ from h]
  rfl

include hx

theorem State.takeSync_of_measuring (h : c.state = .measuring) : s.takeSync i n = s.settle i (c.measured x) := by
  subst hc hx
  rw [State.takeSync, show (s.cu.ch.get i).state = _ from h]
  rfl

/-- In MEASURING a measurement that agrees with the reference makes the run grow. -/
theorem State.takeSync_of_run (h : c.state = .measuring) (hm : x = some m) (hr : c.ref = some r)
    (ha : m.agrees r = true) : s.takeSync i n = s.settle i { c with run := c.run + 1 } := by
  rw [State.takeSync_of_measuring hc hx h, hm, Channel.measured_of_agrees hr ha]

/-- In MEASURING a measurement that does not agree with the reference starts the run anew. -/
theorem State.takeSync_of_restart (h : c.state = .measuring) (hd : agreesWith x c.ref = false) :
    s.takeSync i n = s.setChannel i (c.restarted x) := by
  rw [State.takeSync_of_measuring hc hx h, Channel.measured_of_differs hd, State.settle_restarted]

theorem State.takeSync_of_unsupported (h : c.state = .unsupported) (hm : x = some m) (hr : c.ref = some r)
    (ha : m.agrees r = true) : s.takeSync i n = s.setChannel i c := by
  subst hc
  rw [State.takeSync, show (s.cu.ch.get i).state = _ from h, ← hx, hm, show (s.cu.ch.get i).ref = _ from hr]
  exact if_pos ha

/-- UNSUPPORTED is left for MEASURING, and CHANNEL-UNSUPPORTED stands as the other channel says. -/
theorem State.takeSync_of_supported (h : c.state = .unsupported) (hd : agreesWith x c.ref = false) :
    s.takeSync i n
      = (s.setChannel i { c.restarted x with state := .measuring }).setCurrent .channelUnsupported
          ((s.cu.ch.get (1 - i)).state = .unsupported) := by
  have hleft : s.takeSync i n = (s.setChannel i { c.measured x with state := .measuring }).recomputeUnsupported := by
    subst hc
    rw [State.takeSync, show (s.cu.ch.get i).state = _ from h, ← hx]
    exact if_neg (by simpa using hd)
  rw [hleft, Channel.measured_of_differs hd, State.recomputeUnsupported_setChannel _ _ (by simp)]

theorem State.takeSync_of_frameEnd (h : c.state = .locked) (hm : x = some m) (hr : c.mode = some r)
    (ha : m.agrees r = true) : s.takeSync i n = s.frameEnd i c r := by
  subst hc
  rw [State.takeSync, show (s.cu.ch.get i).state = _ from h, show (s.cu.ch.get i).mode = _ from hr, ← hx, hm]
  exact if_pos ha

theorem State.takeSync_of_unlocking (h : c.state = .locked) (hd : agreesWith x c.mode = false) :
    s.takeSync i n = s.leaveLocked i { c.restarted x with state := .measuring } := by
  subst hc
  rw [State.takeSync, show (s.cu.ch.get i).state = _ from h, ← hx]
  match hm : x, hr : (s.cu.ch.get i).mode with
  | some m, some r => exact if_neg (by simpa [agreesWith, hr] using hd)
  | some _, none => rfl
  | none, _ => rfl

end Sync

/-! ### FRAME_SYNC (R110, R112) -/

section Command
variable {s : State} {i : Fin 2} {n : FrameCounts}

theorem State.atSync_of_noSignal (h : (s.cu.ch.get i).state = .noSignal) : s.atSync i = s := by
  simp [State.atSync, Channel.syncOverdue, h]

theorem State.atSync_of_overdue {u : Time} (hu : (s.cu.ch.get i).sync = some u)
    (hst : (s.cu.ch.get i).state ≠ .noSignal) (h : 100000 < (s.now - u).toNat) : s.atSync i = s.loseSync i := by
  have hlate : Config.syncUs < elapsed s.now u := h
  simp [State.atSync, Channel.syncOverdue, Channel.period, hu, hst, hlate]

theorem exec_frameSync (hs : s.servingAs .source = true) :
    exec (.frameSync i n) s = .next ((s.atSync i).takeSync i n) := if_pos hs

theorem exec_frameSync_of_noSignal (hs : s.servingAs .source = true) (h : (s.cu.ch.get i).state = .noSignal) :
    exec (.frameSync i n) s = .next (s.takeSync i n) := by
  rw [exec_frameSync hs, State.atSync_of_noSignal h]

theorem exec_frameSync_of_inTime (hs : s.servingAs .source = true)
    (h : ∀ u, (s.cu.ch.get i).sync = some u → (s.now - u).toNat ≤ 100000) :
    exec (.frameSync i n) s = .next (s.takeSync i n) := by
  rw [exec_frameSync hs, State.atSync_of_inTime h]

/-- The sync of a frame longer than 100 ms is taken as after the loss of sync. -/
theorem exec_frameSync_of_overdue {u : Time} (hs : s.servingAs .source = true)
    (hu : (s.cu.ch.get i).sync = some u) (hst : (s.cu.ch.get i).state ≠ .noSignal)
    (h : 100000 < (s.now - u).toNat) : exec (.frameSync i n) s = exec (.frameSync i n) (s.loseSync i) := by
  rw [exec_frameSync_of_noSignal (by rwa [State.loseSync_servingAs]) (s.loseSync_state i), exec_frameSync hs,
    State.atSync_of_overdue hu hst h]

end Command

/-- Settles O36 (R108, R110 to R117): the three readings of R108, then the sync by the channel's state; an overdue one
comes after the loss of sync. -/
theorem frameSyncResult : Obligations.FrameSyncResult := by
  refine ⟨fun l n p => ⟨measure_eq_none_iff l n p, fun m => measure_fields⟩, Meas.agrees_iff, Meas.withinLimits_iff,
    fun s i n c x hs hc hx => ⟨fun u hu => ⟨fun h => ?_, fun r h hr => ?_⟩, fun u t hu hst hlate ht => ?_, fun h => ?_,
      fun hin => ?_⟩⟩
  · subst hc hx
    exact Channel.measurement_of_unlocked hu h
  · subst hc hx
    exact Channel.measurement_of_locked hu h hr
  · subst hc
    obtain rfl : s.loseSync i = t := by
      simpa [exec_syncTimerExpiry hu (by omega)] using ht
    exact ⟨exec_frameSync_of_overdue hs hu hst hlate, s.loseSync_state i⟩
  · rw [exec_frameSync_of_noSignal hs (by subst hc; exact h), State.takeSync_of_noSignal hc h]
  simp only [exec_frameSync_of_inTime hs hin]
  refine ⟨fun h hm => ?_, fun m h hm hd => ?_, fun m r h hm hr ha => ⟨fun hrun => ?_, fun hrun hw => ?_,
    fun hrun hw => ?_⟩, fun m r h hm hr ha => ?_, fun m h hm hd => ?_, fun h hm => ?_, fun m r h hr hm ha => ?_,
    fun h hd => ?_⟩
  -- MEASURING
  · rw [State.takeSync_of_restart hc hx h (hm ▸ rfl), hm]
    rfl
  · rw [State.takeSync_of_restart hc hx h (hm ▸ agreesWith_some hd), hm]
    rfl
  · rw [State.takeSync_of_run hc hx h hm hr ha, State.settle_of_short hrun]
  · rw [State.takeSync_of_run hc hx h hm hr ha, State.settle_beyond (c := { c with run := c.run + 1 }) hrun hr hw]
  · refine ⟨_, rfl, ?_⟩
    rw [State.takeSync_of_run hc hx h hm hr ha, State.settle_within (c := { c with run := c.run + 1 }) hrun hr hw,
      State.enterLocked_eq]
    simpa [Channel.lock, TsChannel.locked, WP.lockChange] using s.presence_mem_lockTold i _ _ _
  -- UNSUPPORTED
  · rw [State.takeSync_of_unsupported hc hx h hm hr ha]
  · rw [State.takeSync_of_supported hc hx h (hm ▸ agreesWith_some hd), hm]
    rfl
  · rw [State.takeSync_of_supported hc hx h (hm ▸ rfl), hm]
    rfl
  -- LOCKED
  · rw [State.takeSync_of_frameEnd hc hx h hm hr ha]
    simp [State.frameEnd]
  · have hdiffer : agreesWith x c.mode = false := by
      cases x with
      | none => rfl
      | some m => exact agreesWith_some fun r hr => hd m r rfl hr
    refine ⟨_, rfl, ?_⟩
    rw [State.takeSync_of_unlocking hc hx h hdiffer, State.leaveLocked_eq]
    refine ⟨?_, ?_, ?_⟩
    · rintro m rfl
      simp [Channel.restarted]
    · rintro rfl
      simp [Channel.restarted]
    · simpa [TsChannel.unlocked, WP.lockChange] using s.presence_mem_lockTold i _ _ _

end Sys2Proof.Machine
end

section
/-!
PROOF. Tile rows, signatures, a lost sync and the pulse level (07_capture_and_tile_signatures.md, R107, R112, R118 to
R121): a tile put into a dirty set, one signature taken, the signatures of a row taken column by column, and the
commands assembled from them.
-/

namespace Sys2Proof.Machine

/-! ### A tile put into a dirty set (R121) -/

section Dirty
variable {t u : Tile} {f : BitVec 32} {l : List DirtyTile} {d : DirtyTile}

theorem mem_insertDirty : d ∈ insertDirty t f l ↔ d = ⟨t, f⟩ ∨ d ∈ l := by
  induction l with
  | nil => simp [insertDirty]
  | cons e l ih =>
    rw [insertDirty]
    split
    · simp
    · rw [List.mem_cons, ih, List.mem_cons, or_left_comm]

theorem sublist_insertDirty (t : Tile) (f : BitVec 32) (l : List DirtyTile) : l.Sublist (insertDirty t f l) := by
  induction l with
  | nil => exact List.nil_sublist _
  | cons e l ih =>
    rw [insertDirty]
    split
    · exact List.sublist_cons_self ..
    · exact ih.cons_cons e

theorem dirtyHas_iff : dirtyHas l u = true ↔ ∃ d ∈ l, d.tile = u := by
  simp [dirtyHas]

theorem dirtyHas_insertDirty : dirtyHas (insertDirty t f l) u = true ↔ u = t ∨ dirtyHas l u = true := by
  simp only [dirtyHas_iff, mem_insertDirty, or_and_right, exists_or, exists_eq_left, eq_comm (a := u)]

end Dirty

/-! ### One signature taken (R120) -/

section Signature
variable (k : TsChannel) (z : Size) (f : BitVec 32) (t : Tile) (sig : BitVec 32)

/-- Taking a signature changes the table and the dirty set alone. -/
theorem TsChannel.takeSignature_frame : k.takeSignature z f t sig = { k with
    sigs := (k.takeSignature z f t sig).sigs, dirty := (k.takeSignature z f t sig).dirty } := rfl

/-- A tile's signature has not changed when the table holds the one just taken. -/
theorem getD_none_eq_some_iff {l : List (Option (BitVec 32))} {j : Nat} {v : BitVec 32} :
    l.getD j none = some v ↔ l[j]? = some (some v) := by
  rw [List.getD_eq_getElem?_getD]
  cases l[j]? <;> simp

theorem TsChannel.takeSignature_sigs :
    (k.takeSignature z f t sig).sigs = k.sigs.set (t.row * tilesAlong z.w + t.col) (some sig) := rfl

/-- The dirty set is joined by a tile that changed and was not in it, and otherwise stays. -/
theorem TsChannel.takeSignature_dirty : (k.takeSignature z f t sig).dirty
    = if k.sigs[t.row * tilesAlong z.w + t.col]? ≠ some (some sig) ∧ dirtyHas k.dirty t = false
      then insertDirty t f k.dirty else k.dirty := by
  simp only [TsChannel.takeSignature, Bool.and_eq_true, decide_eq_true_eq, Bool.not_eq_true', Ne,
    getD_none_eq_some_iff]

theorem TsChannel.takeSignature_sublist : k.dirty.Sublist (k.takeSignature z f t sig).dirty := by
  rw [TsChannel.takeSignature_dirty]
  split
  · exact sublist_insertDirty ..
  · exact List.Sublist.refl _

variable {k z f t sig}

theorem TsChannel.dirtyHas_takeSignature {u : Tile} : dirtyHas (k.takeSignature z f t sig).dirty u = true
    ↔ dirtyHas k.dirty u = true ∨ (u = t ∧ k.sigs[t.row * tilesAlong z.w + t.col]? ≠ some (some sig)) := by
  rw [TsChannel.takeSignature_dirty]
  split
  · next h => rw [dirtyHas_insertDirty, or_comm, and_iff_left h.1]
  · next h =>
    refine ⟨.inl, ?_⟩
    rintro (hu | ⟨rfl, hs⟩)
    · exact hu
    · simpa [hs] using h

theorem TsChannel.mem_takeSignature {d : DirtyTile} (h : d ∈ (k.takeSignature z f t sig).dirty) :
    d ∈ k.dirty ∨ (d = ⟨t, f⟩ ∧ dirtyHas k.dirty t = false) := by
  rw [TsChannel.takeSignature_dirty] at h
  split at h
  · next hnew => exact (mem_insertDirty.1 h).symm.imp_right fun hd => ⟨hd, hnew.2⟩
  · exact .inl h

end Signature

/-! ### The signatures of a row (R119) -/

/-- The signatures of the first `n` tiles of row `r` taken in column order, the tile of column `x` having `sig x`. -/
def TsChannel.takeColumns (k : TsChannel) (z : Size) (f : BitVec 32) (r : Nat) (sig : Nat → BitVec 32) :
    Nat → TsChannel
  | 0 => k
  | n + 1 => (k.takeColumns z f r sig n).takeSignature z f ⟨n, r⟩ (sig n)

theorem TsChannel.takeRow_eq (k : TsChannel) (m : Memory) (region : Nat) (z : Size) (f : BitVec 32) (r : Nat) :
    k.takeRow m region z f r
      = k.takeColumns z f r (fun c => signature (tilePixels m region z ⟨c, r⟩)) (tilesAlong z.w) := by
  have hfold (n : Nat) : (List.range n).foldl
      (fun k c => k.takeSignature z f ⟨c, r⟩ (signature (tilePixels m region z ⟨c, r⟩))) k
        = k.takeColumns z f r (fun c => signature (tilePixels m region z ⟨c, r⟩)) n := by
    induction n with
    | zero => rfl
    | succ n ih => rw [List.range_succ, List.foldl_append, ih]; rfl
  exact hfold _

section Columns
variable (k : TsChannel) (z : Size) (f : BitVec 32) (r : Nat) (sig : Nat → BitVec 32) (n : Nat)

theorem TsChannel.takeColumns_frame : k.takeColumns z f r sig n = { k with
    sigs := (k.takeColumns z f r sig n).sigs, dirty := (k.takeColumns z f r sig n).dirty } := by
  induction n with
  | zero => rfl
  | succ n ih => rw [TsChannel.takeColumns, TsChannel.takeSignature_frame, ih]

@[simp] theorem TsChannel.takeColumns_length : (k.takeColumns z f r sig n).sigs.length = k.sigs.length := by
  induction n with
  | zero => rfl
  | succ n ih => rw [TsChannel.takeColumns, TsChannel.takeSignature_sigs, List.length_set, ih]

theorem TsChannel.takeColumns_sublist : k.dirty.Sublist (k.takeColumns z f r sig n).dirty := by
  induction n with
  | zero => exact List.Sublist.refl _
  | succ n ih => exact ih.trans (TsChannel.takeSignature_sublist ..)

variable {k z f r sig n}

/-- No place of the table outside the columns taken changes. -/
theorem TsChannel.takeColumns_sigs_of_other {j : Nat} (h : ∀ x < n, j ≠ r * tilesAlong z.w + x) :
    (k.takeColumns z f r sig n).sigs[j]? = k.sigs[j]? := by
  induction n with
  | zero => rfl
  | succ n ih =>
    rw [TsChannel.takeColumns, TsChannel.takeSignature_sigs, List.getElem?_set_ne (h n (by omega)).symm,
      ih fun x hx => h x (by omega)]

/-- Each column taken has its new signature. -/
theorem TsChannel.takeColumns_sigs_of_taken {x : Nat} (hx : x < n) (hlen : r * tilesAlong z.w + x < k.sigs.length) :
    (k.takeColumns z f r sig n).sigs[r * tilesAlong z.w + x]? = some (some (sig x)) := by
  induction n with
  | zero => omega
  | succ n ih =>
    rw [TsChannel.takeColumns, TsChannel.takeSignature_sigs]
    by_cases hlast : x = n
    · subst hlast
      exact List.getElem?_set_self (by simpa using hlen)
    · rw [List.getElem?_set_ne (by simp only; omega), ih (by omega)]

/-- A tile of the row is dirty when it was, or when it has been taken and its signature changed. -/
theorem TsChannel.dirtyHas_takeColumns {x : Nat} : dirtyHas (k.takeColumns z f r sig n).dirty ⟨x, r⟩ = true
    ↔ dirtyHas k.dirty ⟨x, r⟩ = true ∨ (x < n ∧ k.sigs[r * tilesAlong z.w + x]? ≠ some (some (sig x))) := by
  induction n with
  | zero => simp [TsChannel.takeColumns]
  | succ n ih =>
    have hold : (k.takeColumns z f r sig n).sigs[r * tilesAlong z.w + n]? = k.sigs[r * tilesAlong z.w + n]? :=
      TsChannel.takeColumns_sigs_of_other fun x hx => by omega
    rw [TsChannel.takeColumns, TsChannel.dirtyHas_takeSignature, ih, hold, or_assoc, Nat.lt_succ_iff_lt_or_eq,
      or_and_right]
    simp only [Tile.mk.injEq, and_true]
    refine or_congr_right (or_congr_right (and_congr_right ?_))
    rintro rfl
    rfl

/-- A tile that joins the dirty set is one of the columns taken, was not in the set, and has the frame number as age. -/
theorem TsChannel.mem_takeColumns {d : DirtyTile} (h : d ∈ (k.takeColumns z f r sig n).dirty) :
    d ∈ k.dirty ∨ (d.tile.row = r ∧ d.tile.col < n ∧ d.age = f ∧ dirtyHas k.dirty d.tile = false) := by
  induction n with
  | zero => exact .inl h
  | succ n ih =>
    obtain h | ⟨rfl, hnew⟩ := TsChannel.mem_takeSignature h
    · exact (ih h).imp_right fun ⟨hrow, hcol, hrest⟩ => ⟨hrow, by omega, hrest⟩
    · refine .inr ⟨rfl, by simp, rfl, ?_⟩
      rw [← Bool.not_eq_true] at hnew ⊢
      exact fun hold => hnew (TsChannel.dirtyHas_takeColumns.2 (.inl hold))

end Columns

/-! ### TILE_ROW_BEGIN and TILE_ROW_COMPLETE (R118) -/

section Rows
variable {s : State} {i : Fin 2} {r : Meas} {n : Nat}

theorem Channel.size_of_locked {c : Channel} (h : c.state = .locked) (hr : c.mode = some r) :
    c.size = some ⟨r.w, r.h⟩ := by
  simp [Channel.size, h, hr]

theorem Channel.rowBegins_iff (c : Channel) (z : Size) (r : Nat) :
    c.rowBegins z r = true ↔ r < tilesAlong z.h ∧ c.line = 16 * r := by
  simp [Channel.rowBegins]

theorem Channel.rowWritten_iff (c : Channel) (z : Size) (r : Nat) : c.rowWritten z r = true
    ↔ c.line = min (16 * (r + 1)) z.h ∨ (c.line = 0 ∧ r + 1 = tilesAlong z.h) := by
  simp [Channel.rowWritten]

theorem Channel.mem_rowDone (c : Channel) (n k : Nat) : k ∈ (c.rowDone n).completed ↔ k = n ∨ k ∈ c.completed := by
  unfold Channel.rowDone
  dsimp only
  split
  · next h =>
    have hn : n ∈ c.completed := by simpa using h
    exact ⟨.inr, fun h => h.elim (fun e => e ▸ hn) id⟩
  · exact List.mem_cons

theorem exec_tileRowBegin (hs : s.servingAs .source = true) (h : (s.cu.ch.get i).state = .locked)
    (hr : (s.cu.ch.get i).mode = some r) : exec (.tileRowBegin i n) s
      = if (s.cu.ch.get i).rowBegins ⟨r.w, r.h⟩ n then .next (s.setChannel i { s.cu.ch.get i with row := some n })
        else .next s := by
  simp [exec, execTileRowBegin, hs, Channel.size_of_locked h hr]

theorem exec_tileRowComplete_of_no_row (h : (s.cu.ch.get i).row = none) : exec (.tileRowComplete i) s = .next s := by
  simp [exec, execTileRowComplete, h]

/-- Row `n` of a channel of mode `r` completed, with the signature of every tile of it taken. -/
def State.rowCompleted (s : State) (i : Fin 2) (r : Meas) (n : Nat) : State :=
  (s.setTsChannel i ((s.ts.ch.get i).takeColumns ⟨r.w, r.h⟩ (s.cu.ch.get i).frame n
    (fun x => signature (tilePixels s.cu.store i.val ⟨r.w, r.h⟩ ⟨x, n⟩)) (tilesAlong r.w))).setChannel i
      ((s.cu.ch.get i).rowDone n)

@[simp] theorem State.rowCompleted_frame (s : State) (i : Fin 2) (r : Meas) (n : Nat) :
    (s.rowCompleted i r n).cu.ch.get i = (s.cu.ch.get i).rowDone n
      ∧ (s.rowCompleted i r n).cu.ch.get (1 - i) = s.cu.ch.get (1 - i) ∧ (s.rowCompleted i r n).cu.store = s.cu.store
      ∧ (s.rowCompleted i r n).ts.ch.get (1 - i) = s.ts.ch.get (1 - i) ∧ (s.rowCompleted i r n).sa = s.sa
      ∧ (s.rowCompleted i r n).pu = s.pu ∧ (s.rowCompleted i r n).fp = s.fp ∧ (s.rowCompleted i r n).ca = s.ca
      ∧ (s.rowCompleted i r n).wp = s.wp ∧ s.sameDesk (s.rowCompleted i r n) := by
  simp [State.rowCompleted, State.sameDesk]

theorem State.rowCompleted_ts (s : State) (i : Fin 2) (r : Meas) (n : Nat) : (s.rowCompleted i r n).ts.ch.get i
    = (s.ts.ch.get i).takeColumns ⟨r.w, r.h⟩ (s.cu.ch.get i).frame n
        (fun x => signature (tilePixels s.cu.store i.val ⟨r.w, r.h⟩ ⟨x, n⟩)) (tilesAlong r.w) := by
  simp [State.rowCompleted]

theorem exec_tileRowComplete (hs : s.servingAs .source = true) (h : (s.cu.ch.get i).state = .locked)
    (hr : (s.cu.ch.get i).mode = some r) (hn : (s.cu.ch.get i).row = some n) : exec (.tileRowComplete i) s
      = if (s.cu.ch.get i).rowWritten ⟨r.w, r.h⟩ n then .next (s.rowCompleted i r n) else .next s := by
  simp only [exec, execTileRowComplete, hs, if_true, Channel.size_of_locked h hr, hn, TsChannel.takeRow_eq,
    State.rowCompleted]

end Rows

/-- Settles O38 (R107, R112, R118 to R121): a row's begin and its completion by the place of the next line, the
signatures of the row by `takeColumns`, the loss of sync, and the pulse levels. -/
theorem rowsAndSync : Obligations.RowsAndSync := by
  refine ⟨fun s i r n hs h hr => ⟨fun hn hl => ?_, fun hout => ?_, exec_tileRowComplete_of_no_row,
    fun hn hl hlast => ?_⟩, fun s i r n hs h hr hn hrow hw hlen => ⟨s.rowCompleted i r n, ?_, ?_⟩,
      fun s i u hu hdue => ⟨_, exec_syncTimerExpiry hu hdue, ?_⟩, fun s i hi lo hs => ⟨if_pos hs, if_pos hs⟩⟩
  -- a row's begin, and the events out of their place
  · rw [exec_tileRowBegin hs h hr, if_pos ((Channel.rowBegins_iff ..).2 ⟨hn, hl⟩)]
  · rw [exec_tileRowBegin hs h hr, if_neg]
    rw [Channel.rowBegins_iff]
    exact fun ⟨hn, hl⟩ => hout.elim hn.not_ge fun g => g hl
  · rw [exec_tileRowComplete hs h hr hn, if_neg]
    rw [Channel.rowWritten_iff]
    exact fun hw => hw.elim hl fun ⟨h0, hend⟩ => hlast.elim (fun g => g h0) fun g => g hend
  -- a row completes
  · rw [exec_tileRowComplete hs h hr hn, if_pos ((Channel.rowWritten_iff ..).2 hw)]
  · have hplace (x : Nat) (hx : x < tilesAlong r.w) : n * tilesAlong r.w + x < (s.ts.ch.get i).sigs.length := by
      rw [hlen]
      nlinarith
    have hrc : (s.rowCompleted i r n).ts.ch.get i = _ := State.rowCompleted_ts ..
    refine ⟨by simp [Channel.rowDone], by simp [Channel.rowDone], by simp [Channel.rowDone],
      fun k => by simp [Channel.mem_rowDone], by simp, fun x hx => ⟨?_, ?_⟩, fun j hj => ?_, ?_, fun d hd => ?_, ?_, rfl,
      by simp⟩
    · rw [hrc, TsChannel.takeColumns_sigs_of_taken hx (hplace x hx)]
    · rw [hrc, TsChannel.dirtyHas_takeColumns, and_iff_right hx]
    · rw [hrc, TsChannel.takeColumns_sigs_of_other hj]
    · rw [hrc]
      exact TsChannel.takeColumns_sublist ..
    · rw [hrc] at hd
      exact TsChannel.mem_takeColumns hd
    · rw [hrc]
      exact TsChannel.takeColumns_frame ..
  -- a lost sync
  · obtain ⟨hch, hother, hstore⟩ := s.loseSync_cu i
    simp only [hch, hother, hstore, true_and]
    refine ⟨rfl, rfl, rfl, rfl, rfl, rfl, rfl, rfl, fun h => ⟨if_pos h, ?_⟩, fun h => ?_, fun h => ?_⟩
    · simp [State.loseSync_of_locked h, TsChannel.unlocked]
    · by_cases hu : (s.cu.ch.get i).state = .unsupported
      · simp [State.loseSync_of_unsupported hu]
      · simp [State.loseSync_of_other h hu]
    · rw [State.loseSync_of_unsupported h, State.setCurrent_has, decide_eq_true_iff]

end Sys2Proof.Machine
end

section
/-!
PROOF. Choosing and sending a tile (08_tile_sending.md, R125 to R131): the candidates of a channel, the choice between
the two channels, the length of a coded tile, and TILE_CHOICE assembled from them.
-/

namespace Sys2Proof.Machine

/-! ### The candidates of a channel (R127, R131) -/

section Candidates
variable {c : Channel} {k : TsChannel} {d : DirtyTile} {x : Tile}

theorem Channel.eligible_iff :
    c.eligible x = true ↔ c.state = .locked ∧ c.row ≠ some x.row ∧ x.row ∈ c.completed := by
  simp [Channel.eligible, Channel.rowBeingWritten]

theorem dirtyCandidate_eq_some_iff : dirtyCandidate c k = some d ↔
    ∃ l r, k.dirty = l ++ d :: r ∧ c.eligible d.tile = true ∧ ∀ e ∈ l, c.eligible e.tile = false := by
  simp only [dirtyCandidate, List.find?_eq_some_iff_append, Bool.not_eq_true']
  constructor
  · rintro ⟨hd, l, r, hsplit, hl⟩
    exact ⟨l, r, hsplit, hd, hl⟩
  · rintro ⟨l, r, hsplit, hd, hl⟩
    exact ⟨hd, l, r, hsplit, hl⟩

/-- That the channel is LOCKED is part of eligibility, so the test of it in `rollingCandidate` adds nothing. -/
theorem rollingCandidate_eq_some_iff :
    rollingCandidate c k = some x ↔ x = k.cursor ∧ 1 ≤ k.allowance ∧ c.eligible x = true := by
  simp only [rollingCandidate, Option.ite_none_right_eq_some, Bool.and_eq_true, decide_eq_true_eq, Option.some.injEq]
  constructor
  · rintro ⟨⟨⟨-, hallow⟩, helig⟩, rfl⟩
    exact ⟨rfl, hallow, helig⟩
  · rintro ⟨rfl, hallow, helig⟩
    exact ⟨⟨⟨(Channel.eligible_iff.1 helig).1, hallow⟩, helig⟩, rfl⟩

theorem eligible_of_dirtyCandidate (h : dirtyCandidate c k = some d) : c.eligible d.tile = true := by
  obtain ⟨-, -, -, helig, -⟩ := dirtyCandidate_eq_some_iff.1 h
  exact helig

theorem eligible_of_rollingCandidate (h : rollingCandidate c k = some x) : c.eligible x = true := by
  obtain ⟨-, -, helig⟩ := rollingCandidate_eq_some_iff.1 h
  exact helig

end Candidates

/-! ### The cursor (R130) -/

section Cursor
variable {z : Size} {x : Tile}

theorem nextCursor_in_row (h : x.col + 1 < tilesAlong z.w) : nextCursor z x = ⟨x.col + 1, x.row⟩ := if_pos h

theorem nextCursor_of_row_end (h : tilesAlong z.w ≤ x.col + 1) :
    nextCursor z x = if x.row + 1 < tilesAlong z.h then ⟨0, x.row + 1⟩ else ⟨0, 0⟩ := if_neg h.not_gt

end Cursor

/-! ### The choice between the channels (R128, R129, R131) -/

section Choice
variable {s : State} {d e : DirtyTile} {x : TileChoice}

theorem State.tileChoice_of_both (hd : dirtyCandidate s.cu.ch.zero s.ts.ch.zero = some d)
    (he : dirtyCandidate s.cu.ch.one s.ts.ch.one = some e) : s.tileChoice
      = if e.wait s.cu.ch.one.frame ≤ d.wait s.cu.ch.zero.frame then some ⟨0, d.tile, true⟩
        else some ⟨1, e.tile, true⟩ := by
  by_cases hw : e.wait s.cu.ch.one.frame ≤ d.wait s.cu.ch.zero.frame
  · simp only [State.tileChoice, State.dirtyChoice, hd, he, if_pos hw]
  · simp only [State.tileChoice, State.dirtyChoice, hd, he, if_neg hw]

theorem State.tileChoice_of_zero (hd : dirtyCandidate s.cu.ch.zero s.ts.ch.zero = some d)
    (he : dirtyCandidate s.cu.ch.one s.ts.ch.one = none) : s.tileChoice = some ⟨0, d.tile, true⟩ := by
  simp only [State.tileChoice, State.dirtyChoice, hd, he]

theorem State.tileChoice_of_one (hd : dirtyCandidate s.cu.ch.zero s.ts.ch.zero = none)
    (he : dirtyCandidate s.cu.ch.one s.ts.ch.one = some e) : s.tileChoice = some ⟨1, e.tile, true⟩ := by
  simp only [State.tileChoice, State.dirtyChoice, hd, he]

theorem State.tileChoice_of_none (hd : dirtyCandidate s.cu.ch.zero s.ts.ch.zero = none)
    (he : dirtyCandidate s.cu.ch.one s.ts.ch.one = none) : s.tileChoice = s.rollingChoice := by
  simp only [State.tileChoice, State.dirtyChoice, hd, he]

theorem State.eligible_of_rollingChoice (h : s.rollingChoice = some x) :
    (s.cu.ch.get x.channel).eligible x.tile = true := by
  unfold State.rollingChoice at h
  split at h <;> cases h
  · next hzero => exact eligible_of_rollingCandidate hzero
  · next hone => exact eligible_of_rollingCandidate hone

/-- Whatever TS chooses is a candidate of its own channel, and so eligible there. -/
theorem State.eligible_of_tileChoice (h : s.tileChoice = some x) :
    (s.cu.ch.get x.channel).eligible x.tile = true := by
  rcases hzero : dirtyCandidate s.cu.ch.zero s.ts.ch.zero with - | d <;>
    rcases hone : dirtyCandidate s.cu.ch.one s.ts.ch.one with - | e
  case none.none => exact State.eligible_of_rollingChoice (State.tileChoice_of_none hzero hone ▸ h)
  case none.some =>
    cases (State.tileChoice_of_one hzero hone).symm.trans h
    exact eligible_of_dirtyCandidate hone
  case some.none =>
    cases (State.tileChoice_of_zero hzero hone).symm.trans h
    exact eligible_of_dirtyCandidate hzero
  case some.some =>
    rw [State.tileChoice_of_both hzero hone] at h
    split at h <;> cases h
    · exact eligible_of_dirtyCandidate hzero
    · exact eligible_of_dirtyCandidate hone

end Choice

/-! ### The length of a coded tile (R126) -/

theorem length_pack2 (n : Nat) (l : List (BitVec 2)) : (pack2 n l).length = n := by
  induction n generalizing l with
  | zero => rfl
  | succ n ih => rw [pack2, List.length_cons, ih]

theorem length_flatMap_colourBytes (l : List Colour) : (l.flatMap colourBytes).length = 3 * l.length := by
  induction l with
  | nil => rfl
  | cons c l ih =>
    have hcolour : (colourBytes c).length = 3 := rfl
    rw [List.flatMap_cons, List.length_append, hcolour, ih, List.length_cons]
    omega

theorem length_tilePixels (m : Memory) (region : Nat) (z : Size) (t : Tile) :
    (tilePixels m region z t).length = (tileSize z t).w * (tileSize z t).h := by
  simp [tilePixels, List.length_flatMap, Nat.mul_comm]

/-- The pixels' coding names the palette's own size. -/
theorem length_palette_of_few {px : List Colour} {n : Nat} (h : codingFor px = .few n) : (palette px).length = n := by
  unfold codingFor at h
  dsimp only at h
  split_ifs at h
  exact Coding.few.inj h

theorem codingPayload_of_fill {px : List Colour} (h : codingFor px = .fill) :
    codingPayload px = colourBytes (px.headD ⟨0, 0, 0⟩) := by
  simp only [codingPayload, h]

theorem codingPayload_of_few {px : List Colour} {n : Nat} (h : codingFor px = .few n) :
    codingPayload px = (palette px).flatMap colourBytes
      ++ pack2 ((px.length + 3) / 4) (px.map fun c => BitVec.ofNat 2 ((palette px).idxOf c)) := by
  simp only [codingPayload, h]

theorem codingPayload_of_raw {px : List Colour} (h : codingFor px = .raw) :
    codingPayload px = px.flatMap colourBytes := by
  simp only [codingPayload, h]

/-- A payload is as long as its coding says, of any tile with as many pixels. -/
theorem length_codingPayload {px : List Colour} {w h : Nat} (hpx : px.length = w * h) :
    (codingPayload px).length = (codingFor px).payloadLength w h := by
  cases hcoding : codingFor px with
  | fill =>
    rw [codingPayload_of_fill hcoding]
    rfl
  | few n =>
    rw [codingPayload_of_few hcoding, List.length_append, length_flatMap_colourBytes, length_palette_of_few hcoding,
      length_pack2, hpx, Coding.payloadLength]
  | raw => rw [codingPayload_of_raw hcoding, length_flatMap_colourBytes, hpx, Coding.payloadLength, Nat.mul_assoc]

/-- The coding of a choice's tile gives the length of its payload. -/
theorem State.length_codeTile (s : State) (x : TileChoice) (z : Size) : (s.codeTile x z).payload.length
    = (s.codeTile x z).coding.payloadLength (tileSize z x.tile).w (tileSize z x.tile).h :=
  length_codingPayload (length_tilePixels ..)

/-! ### TILE_CHOICE (R129) -/

section Command
variable {s : State} {x : TileChoice} {r : Meas}

theorem OutTile.price_eq (t : OutTile) : t.price = 8 * (24 + t.payload.length) := rfl

/-- The TILE of a choice handed on: its tokens spent, its channel's part taken, the TILE in class 3. -/
def State.tileSent (s : State) (x : TileChoice) (z : Size) : State :=
  (s.setTS { s.ts with
    tokens := s.ts.tokens - (s.codeTile x z).price
    ch := s.ts.ch.set x.channel ((s.ts.ch.get x.channel).sent z x) }).handTile (s.codeTile x z)

theorem exec_tileChoice (hready : s.tsReady = true) (hx : s.tileChoice = some x)
    (hl : (s.cu.ch.get x.channel).state = .locked) (hr : (s.cu.ch.get x.channel).mode = some r) :
    exec .tileChoice s = if (s.codeTile x ⟨r.w, r.h⟩).price ≤ s.ts.tokens then .next (s.tileSent x ⟨r.w, r.h⟩)
      else .next s := by
  simp only [exec, execTileChoice, State.tileToSend, hready, hx, Channel.size_of_locked hl hr, if_true]
  by_cases hprice : (s.codeTile x ⟨r.w, r.h⟩).price ≤ s.ts.tokens
  · rw [if_pos hprice, if_pos hprice]
    rfl
  · rw [if_neg hprice, if_neg hprice]

theorem exec_tileChoice_of_idle (h : s.tsReady = false ∨ s.tileChoice = none) : exec .tileChoice s = .next s := by
  have hnone : s.tileToSend = none := by
    obtain h | h := h <;> simp [State.tileToSend, h]
  simp only [exec, execTileChoice, hnone]

theorem State.tileSent_ch (s : State) (x : TileChoice) (z : Size) (c : Fin 2) : (s.tileSent x z).ts.ch.get c
    = if c = x.channel then (s.ts.ch.get x.channel).sent z x else s.ts.ch.get c := by
  simp [State.tileSent, Pair_get_set]

theorem State.tileSent_tokens (s : State) (x : TileChoice) (z : Size) :
    (s.tileSent x z).ts.tokens = s.ts.tokens - (s.codeTile x z).price := by
  simp [State.tileSent]

theorem State.tileSent_ts (s : State) (x : TileChoice) (z : Size) : (s.tileSent x z).ts
    = { s.ts with tokens := (s.tileSent x z).ts.tokens, ch := (s.tileSent x z).ts.ch } := by
  simp [State.tileSent]

theorem State.tileSent_fp (s : State) (x : TileChoice) (z : Size) :
    (s.tileSent x z).fp = { s.fp with class3 := some (s.codeTile x z) } := rfl

theorem State.tileSent_frame (s : State) (x : TileChoice) (z : Size) :
    (s.tileSent x z).sa = s.sa ∧ (s.tileSent x z).pu = s.pu ∧ (s.tileSent x z).cu = s.cu
      ∧ (s.tileSent x z).ca = s.ca ∧ (s.tileSent x z).wp = s.wp ∧ s.sameDesk (s.tileSent x z) := by
  simp [State.tileSent, State.sameDesk]

theorem TsChannel.sent_of_dirty (k : TsChannel) (z : Size) (h : x.dirty = true) :
    k.sent z x = { k with dirty := k.dirty.filter fun d => d.tile ≠ x.tile } := if_pos h

theorem TsChannel.sent_of_rolling (k : TsChannel) (z : Size) (h : x.dirty = false) :
    k.sent z x = { k with cursor := nextCursor z k.cursor, allowance := k.allowance - 1 } :=
  if_neg (Bool.eq_false_iff.1 h)

end Command

/-- Settles O35 (R125 to R131): TILE_CHOICE through `State.tileSent`, the payload's length by its coding, and the choice
by the four cases of the two channels' dirty candidates. -/
theorem tileChosen : Obligations.TileChosen := by
  refine ⟨fun s x r t hready hx hl hr ht => ?_, fun s => exec_tileChoice_of_idle,
    fun s d e hd he hw => (State.tileChoice_of_both hd he).trans (if_pos hw),
    fun s d e hd he hw => (State.tileChoice_of_both hd he).trans (if_neg hw.not_ge),
    fun s d => State.tileChoice_of_zero, fun s e => State.tileChoice_of_one,
    fun s hd he => ?_, fun _ _ _ => dirtyCandidate_eq_some_iff, fun _ _ _ => rollingCandidate_eq_some_iff,
    fun _ _ => Channel.eligible_iff, fun z x => ⟨nextCursor_in_row, fun hc hrow => ?_, fun hc hrow => ?_⟩⟩
  -- a ready TS with a choice
  · subst ht
    have hexec := exec_tileChoice hready hx hl hr
    rw [OutTile.price_eq] at hexec
    refine ⟨fun hprice => ⟨s.tileSent x ⟨r.w, r.h⟩, hexec.trans (if_pos hprice), State.tileSent_fp .., ?_,
      State.tileSent_ts .., fun c hc => ?_, fun hdirty => ?_, fun hroll => ?_, State.tileSent_frame ..⟩,
      fun hprice => hexec.trans (if_neg hprice.not_ge), State.length_codeTile .., State.eligible_of_tileChoice hx⟩
    · rw [State.tileSent_tokens, OutTile.price_eq]
      exact Nat.sub_add_cancel hprice
    · rw [State.tileSent_ch, if_neg hc]
    · rw [State.tileSent_ch, if_pos rfl, TsChannel.sent_of_dirty _ _ hdirty]
    · rw [State.tileSent_ch, if_pos rfl, TsChannel.sent_of_rolling _ _ hroll]
  -- no dirty candidate
  · rw [State.tileChoice_of_none hd he]
    exact ⟨fun x hzero => by simp only [State.rollingChoice, hzero],
      fun x hzero hone => by simp only [State.rollingChoice, hzero, hone],
      fun hzero hone => by simp only [State.rollingChoice, hzero, hone]⟩
  -- the cursor at the end of its row
  · exact (nextCursor_of_row_end hc).trans (if_pos hrow)
  · exact (nextCursor_of_row_end hc).trans (if_neg hrow.not_gt)

end Sys2Proof.Machine
end

section
/-!
PROOF. Reception of a stream (09_stream_reception.md): a context put among the others, the repair need, the sequence
of a message, and what TILE_TAKEN and FRAME_CLOSE_TAKEN come to once the sequence has been judged.
-/

namespace Sys2Proof.Machine

/-! ### Contexts put (R137) -/

theorem SR.stream_of_ctx {r : SR} {x : Stream} {c : Ctx} (h : r.ctx x = some c) : c.stream = x := by
  simpa using List.find?_some h

/-- Putting a context replaces what its own stream has, and nothing else. -/
theorem SR.ctx_put (r : SR) (c : Ctx) (x : Stream) :
    (r.put c).ctx x = if x = c.stream then (r.ctx x).map (fun _ => c) else r.ctx x := by
  have hfound (d : Ctx) : decide ((if d.stream = c.stream then c else d).stream = x) = decide (d.stream = x) := by
    split <;> simp_all
  have hput : (r.put c).ctx x = (r.ctx x).map fun d => if d.stream = c.stream then c else d := by
    simp only [SR.ctx, SR.put, List.find?_map, Function.comp_def, hfound]
  rw [hput]
  cases hd : r.ctx x with
  | none => simp
  | some d => simp [SR.stream_of_ctx hd]; split <;> rfl

theorem SR.ctx_put_same {r : SR} {x : Stream} {c d : Ctx} (hc : r.ctx x = some c) (hd : d.stream = x) :
    (r.put d).ctx x = some d := by
  simp [SR.ctx_put, hd, hc]

theorem SR.ctx_put_other {r : SR} {x y : Stream} {d : Ctx} (hd : d.stream = x) (h : y ≠ x) :
    (r.put d).ctx y = r.ctx y := by
  simp [SR.ctx_put, hd, h]

/-- The later of two contexts put for one stream stands. -/
theorem SR.put_put {r : SR} {c d : Ctx} (h : d.stream = c.stream) : (r.put c).put d = r.put d := by
  have hlast (e : Ctx) : (if (if e.stream = c.stream then c else e).stream = d.stream then d
      else if e.stream = c.stream then c else e) = if e.stream = d.stream then d else e := by
    by_cases he : e.stream = c.stream <;> simp [he, h]
  simp only [SR.put, List.map_map, Function.comp_def, hlast]

@[simp] theorem State.putCtx_sr (s : State) (c : Ctx) : (s.putCtx c).sr = s.sr.put c := rfl

theorem State.putCtx_putCtx {s : State} {c d : Ctx} (h : d.stream = c.stream) :
    (s.putCtx c).putCtx d = s.putCtx d :=
  congrArg s.setSR (SR.put_put h)

/-- What is handed to class 0 does not depend on SR. -/
theorem State.hand0_setSR (s : State) (r : SR) (m : Out0) : (s.setSR r).hand0 m = (s.hand0 m).setSR r := by
  simp only [State.hand0, State.setSR_fp, apply_ite (State.setSR · r)]
  rfl

/-! ### A repair need (R143) -/

/-- A context after a repair need: its repair timer runs, and the need is owed when the timer ran before. -/
def Ctx.needing (c : Ctx) (now : Time) : Ctx :=
  { c with repair := some (c.repair.getD now), owed := c.repair.isSome }

/-- The request that a repair need makes, at once or not at all. -/
def State.askRepair (s : State) (c : Ctx) : State :=
  if c.repair.isSome then s else s.hand0 (.repairRequest c.stream.station c.stream.channel)

section Repair
variable {s : State} {x : Stream} {c : Ctx}

@[simp] theorem Ctx.needing_stream (now : Time) : (c.needing now).stream = c.stream := rfl

theorem Ctx.needing_of_stopped (now : Time) (h : c.repair = none) :
    c.needing now = { c with repair := some now, owed := false } := by
  simp [Ctx.needing, h]

theorem Ctx.needing_of_running (now : Time) (h : c.repair.isSome = true) : c.needing now = { c with owed := true } := by
  obtain ⟨u, hu⟩ := Option.isSome_iff_exists.1 h
  simp [Ctx.needing, hu]

theorem State.askRepair_of_stopped (hx : c.stream = x) (h : c.repair = none) :
    s.askRepair c = s.hand0 (.repairRequest x.station x.channel) := by
  simp [State.askRepair, h, hx]

theorem State.askRepair_of_running (h : c.repair.isSome = true) : s.askRepair c = s := if_pos h

@[simp] theorem State.askRepair_frame (s : State) (c : Ctx) :
    (s.askRepair c).sr = s.sr ∧ (s.askRepair c).cp = s.cp ∧ (s.askRepair c).now = s.now := by
  unfold State.askRepair; split <;> simp

theorem State.askRepair_setSR (r : SR) : (s.setSR r).askRepair c = (s.askRepair c).setSR r := by
  unfold State.askRepair
  split
  · rfl
  · exact s.hand0_setSR ..

theorem State.askRepair_putCtx (d : Ctx) : (s.putCtx d).askRepair c = (s.askRepair c).putCtx d := by
  rw [State.putCtx, State.askRepair_setSR, State.putCtx, (s.askRepair_frame c).1]

/-- Where class 0 has room, the request is in it. -/
theorem State.askRepair_class0 (hx : c.stream = x) (h : c.repair = none) (hup : s.fp.linkUp = true)
    (hroom : s.fp.class0.length < 16) :
    (s.askRepair c).fp.class0 = s.fp.class0 ++ [.repairRequest x.station x.channel] := by
  rw [State.askRepair_of_stopped hx h, State.hand0_of_room hup hroom]
  rfl

/-- A repair need asks at once when the repair timer is stopped, and is owed when it runs. -/
theorem State.needRepair_eq (hc : s.sr.ctx x = some c) :
    s.needRepair x = (s.askRepair c).putCtx (c.needing s.now) := by
  cases h : c.repair with
  | none =>
    rw [State.askRepair_of_stopped rfl h, Ctx.needing_of_stopped _ h]
    simp only [State.needRepair, hc, h]
    rfl
  | some u =>
    have hrun : c.repair.isSome = true := by simp [h]
    rw [State.askRepair_of_running hrun, Ctx.needing_of_running _ hrun]
    simp only [State.needRepair, hc, h]

theorem State.needRepair_sr (hc : s.sr.ctx x = some c) : (s.needRepair x).sr = s.sr.put (c.needing s.now) := by
  simp [State.needRepair_eq hc]

theorem State.needRepair_fp (hc : s.sr.ctx x = some c) : (s.needRepair x).fp = (s.askRepair c).fp := by
  simp [State.needRepair_eq hc]

end Repair

/-! ### The sequence (R141, R142) -/

/-- A sequence that is not ahead of the last one. -/
def isOld (last q : BitVec 16) : Prop := (q - last).toNat = 0 ∨ 32768 ≤ (q - last).toNat

theorem newer_iff (a b : BitVec 16) : newer a b = true ↔ 1 ≤ (b - a).toNat ∧ (b - a).toNat ≤ 32767 := by
  rw [newer, Bool.and_eq_true, decide_eq_true_iff, decide_eq_true_iff]
  rfl

section Sequence
variable {c : Ctx} {last q : BitVec 16}

theorem Ctx.checkSeq_of_none (h : c.lastSeq = none) : c.checkSeq q = some false := by
  simp [Ctx.checkSeq, h]

theorem Ctx.checkSeq_of_next (h : c.lastSeq = some last) (hq : (q - last).toNat = 1) : c.checkSeq q = some false := by
  simp [Ctx.checkSeq, h, forward, hq]

theorem Ctx.checkSeq_of_loss (h : c.lastSeq = some last) (hlow : 2 ≤ (q - last).toNat)
    (hhigh : (q - last).toNat ≤ 32767) : c.checkSeq q = some true := by
  have hnext : forward last q ≠ 1 := by unfold forward; omega
  have hnewer : newer last q = true := by rw [newer_iff]; omega
  simp [Ctx.checkSeq, h, hnext, hnewer]

/-- An old message is discarded in LIVE, taken in WAITING, and a resynchronisation in STALE and LOST. -/
theorem Ctx.checkSeq_of_old (h : c.lastSeq = some last) (hq : isOld last q) :
    c.checkSeq q = if c.state = .live then none else some (decide (c.state ≠ .waiting)) := by
  unfold isOld at hq
  have hnext : forward last q ≠ 1 := by unfold forward; omega
  have hnewer : newer last q = false := by rw [← Bool.not_eq_true, newer_iff]; omega
  cases hst : c.state <;> simp [Ctx.checkSeq, h, hnext, hnewer, hst]

end Sequence

/-- A context with a message's sequence noted. -/
def Ctx.noted (c : Ctx) (q : BitVec 16) : Ctx := { c with lastSeq := some q }

@[simp] theorem Ctx.noted_stream (c : Ctx) (q : BitVec 16) : (c.noted q).stream = c.stream := rfl

section Taken
variable {u v : State} {m : RxMsg} {c q : Ctx}

theorem State.takeSeq_of_old (hc : u.sr.ctx m.stream = some c) (hlive : c.state = .live) {last : BitVec 16}
    (hlast : c.lastSeq = some last) (hold : isOld last m.seq) : u.takeSeq m.stream m.seq = none := by
  simp [State.takeSeq, hc, Ctx.checkSeq_of_old hlast hold, hlive]

theorem State.takeSeq_of_new (hc : u.sr.ctx m.stream = some c) (h : c.checkSeq m.seq = some false) :
    u.takeSeq m.stream m.seq = some (u.putCtx (c.noted m.seq)) := by
  simp [State.takeSeq, hc, h, Ctx.noted]

/-- A message that brings a repair need leaves the context with both, and the request of the need. -/
theorem State.takeSeq_of_need (hc : u.sr.ctx m.stream = some c) (h : c.checkSeq m.seq = some true) :
    u.takeSeq m.stream m.seq
      = some ((u.askRepair (c.noted m.seq)).putCtx ((c.noted m.seq).needing u.now)) := by
  have hctx : (u.putCtx (c.noted m.seq)).sr.ctx m.stream = some (c.noted m.seq) :=
    SR.ctx_put_same hc (by simp [SR.stream_of_ctx hc])
  have hneed : (u.putCtx (c.noted m.seq)).needRepair m.stream
      = (u.askRepair (c.noted m.seq)).putCtx ((c.noted m.seq).needing u.now) := by
    rw [State.needRepair_eq hctx, State.askRepair_putCtx, State.putCtx_putCtx (by simp)]
    rfl
  simp only [State.takeSeq, hc, h, if_true]
  exact congrArg some hneed

/-- `SeqTaken` is what steps 1 and 2 of R140 come to. -/
theorem State.takeSeq_of_seqTaken (hc : u.sr.ctx m.stream = some c) (h : SeqTaken u v m c q) :
    u.takeSeq m.stream m.seq = some v := by
  have hstream : (c.noted m.seq).stream = m.stream := by simp [SR.stream_of_ctx hc]
  obtain ⟨hwhy, rfl, rfl⟩ | ⟨hwhy, hrepair⟩ := h
  · refine State.takeSeq_of_new hc ?_
    obtain hnone | ⟨l, hl, hnext | ⟨hwait, hold⟩⟩ := hwhy
    · exact Ctx.checkSeq_of_none hnone
    · exact Ctx.checkSeq_of_next hl hnext
    · rw [Ctx.checkSeq_of_old hl hold, hwait]
      rfl
  · have hneed : c.checkSeq m.seq = some true := by
      obtain ⟨l, hl, ⟨hlow, hhigh⟩ | ⟨hlate, hold⟩⟩ := hwhy
      · exact Ctx.checkSeq_of_loss hl hlow hhigh
      · rw [Ctx.checkSeq_of_old hl hold]
        obtain hst | hst := hlate <;> simp [hst]
    rw [State.takeSeq_of_need hc hneed]
    obtain ⟨hstopped, rfl, rfl⟩ | ⟨hruns, rfl, rfl⟩ := hrepair
    · rw [State.askRepair_of_stopped (c := c.noted m.seq) hstream hstopped,
        Ctx.needing_of_stopped (c := c.noted m.seq) _ hstopped]
      rfl
    · rw [State.askRepair_of_running (c := c.noted m.seq) hruns, Ctx.needing_of_running (c := c.noted m.seq) _ hruns]
      rfl

/-- The context keeps all but its sequence and its repair. -/
theorem SeqTaken.ctx_eq (h : SeqTaken u v m c q) :
    q = { c with lastSeq := some m.seq, repair := q.repair, owed := q.owed } := by
  obtain ⟨-, rfl, -⟩ | ⟨-, ⟨-, rfl, -⟩ | ⟨-, rfl, -⟩⟩ := h <;> rfl

/-- SR's taking a message changes SR by the context alone, and besides FP and SA only. -/
theorem SeqTaken.frame {s : State} {k : Kind} (ht : s.take .sr k = some (m, u)) (h : SeqTaken u v m c q) :
    v.sr = s.sr.put q ∧ v.now = s.now ∧ v.cp = s.cp ∧ v.fu = s.fu ∧ s.sameSource v := by
  obtain ⟨rfl, -⟩ := State.take_eq ht
  obtain ⟨-, -, rfl⟩ | ⟨-, ⟨-, -, rfl⟩ | ⟨-, -, rfl⟩⟩ := h <;> simp [State.sameSource]

theorem SeqTaken.ctx (hc : u.sr.ctx m.stream = some c) (h : SeqTaken u v m c q) : v.sr.ctx m.stream = some q := by
  have hsr : v.sr = u.sr.put q := by obtain ⟨-, -, rfl⟩ | ⟨-, ⟨-, -, rfl⟩ | ⟨-, -, rfl⟩⟩ := h <;> simp
  rw [hsr, SR.ctx_put_same hc ((congrArg Ctx.stream h.ctx_eq).trans (SR.stream_of_ctx hc :))]

end Taken

/-! ### TILE_TAKEN and FRAME_CLOSE_TAKEN (R140) -/

section Commands
variable {s u v : State} {m : RxMsg} {c q : Ctx}

theorem State.take_sr {t : Taker} {k : Kind} (ht : s.take t k = some (m, u)) : u.sr = s.sr := by
  obtain ⟨rfl, -⟩ := State.take_eq ht
  rfl

theorem exec_tileTaken (hd : s.servingAs .desk = true) (ht : s.take .sr .tile = some (m, u)) :
    exec .tileTaken s = .next (u.tile m) := by
  simp [exec, execTileTaken, hd, ht]

theorem exec_frameCloseTaken (hd : s.servingAs .desk = true) (ht : s.take .sr .frameClose = some (m, u)) :
    exec .frameCloseTaken s = .next (u.close m).judgeInput := by
  simp [exec, execFrameCloseTaken, hd, ht]

theorem State.tile_of_old (h : u.takeSeq m.stream m.seq = none) : u.tile m = u := by
  simp only [State.tile, h]

theorem State.close_of_old (h : u.takeSeq m.stream m.seq = none) : u.close m = u := by
  simp only [State.close, h]

theorem State.tile_of_seqTaken (hc : u.sr.ctx m.stream = some c) (h : SeqTaken u v m c q) :
    u.tile m = v.takeTile m.stream m.payload := by
  simp only [State.tile, State.takeSeq_of_seqTaken hc h]

theorem State.close_of_seqTaken (hc : u.sr.ctx m.stream = some c) (h : SeqTaken u v m c q) :
    u.close m = v.takeClose m.stream (readClose m.payload) := by
  simp only [State.close, State.takeSeq_of_seqTaken hc h]

end Commands

end Sys2Proof.Machine
end

section
/-!
PROOF. A FRAME-CLOSE taken (09_stream_reception.md, FRAME-CLOSE AND EPOCHS, LIVENESS): the new epoch, the return to
LIVE, what the two leave of SR and of class 0, and the statement assembled from them.
-/

namespace Sys2Proof.Machine

/-! ### What a FRAME-CLOSE makes of its context (R145, R147) -/

/-- A context with a FRAME-CLOSE's epoch and mode. -/
def Ctx.renewed (c : Ctx) (f : CloseContent) : Ctx := { c with epoch := some f.epoch, mode := some f.mode }

/-- A context made LIVE, its timers started again. -/
def Ctx.revived (c : Ctx) (now : Time) : Ctx :=
  { c with state := .live, lastClose := some now, stale := some now, lost := some now }

/-- The same with the repair need of a return from LOST. -/
def Ctx.lived (c : Ctx) (now : Time) : Ctx :=
  if c.state = .lost then (c.revived now).needing now else c.revived now

/-- A FRAME-CLOSE of the context's own epoch and mode. -/
abbrev Ctx.hasEpoch (c : Ctx) (f : CloseContent) : Prop := c.epoch = some f.epoch ∧ c.mode = some f.mode

/-- A context after a FRAME-CLOSE that passes its check: renewed with its repair need where the epoch or the mode is
another, and LIVE. -/
def Ctx.closed (c : Ctx) (f : CloseContent) (now : Time) : Ctx :=
  if c.hasEpoch f then c.lived now else ((c.renewed f).needing now).lived now

section Closed
variable {c : Ctx} {f : CloseContent} {now : Time}

@[simp] theorem Ctx.renewed_stream : (c.renewed f).stream = c.stream := rfl

/-- Living changes the state, the last FRAME-CLOSE, the timers and the repair alone. -/
theorem Ctx.lived_eq (c : Ctx) (now : Time) : c.lived now = { c with
    state := .live, lastClose := some now, stale := some now, lost := some now
    repair := (c.lived now).repair, owed := (c.lived now).owed } := by
  unfold Ctx.lived; split <;> rfl

/-- A return from LOST is a repair need, and no other FRAME-CLOSE of the epoch is. -/
theorem Ctx.lived_repair : (c.lived now).repair = (if c.state = .lost then (c.needing now).repair else c.repair)
    ∧ (c.lived now).owed = if c.state = .lost then (c.needing now).owed else c.owed := by
  unfold Ctx.lived
  split <;> exact ⟨rfl, rfl⟩

theorem Ctx.closed_of_same (h : c.hasEpoch f) : c.closed f now = c.lived now := if_pos h

theorem Ctx.closed_of_new (h : ¬ c.hasEpoch f) : c.closed f now = ((c.renewed f).needing now).lived now := if_neg h

theorem Ctx.closed_eq : c.closed f now = { c with
    state := .live, epoch := some f.epoch, mode := some f.mode, lastClose := some now, stale := some now
    lost := some now, repair := (c.closed f now).repair, owed := (c.closed f now).owed } := by
  by_cases h : c.hasEpoch f
  · obtain ⟨hepoch, hmode⟩ := h
    rw [Ctx.closed_of_same ⟨hepoch, hmode⟩, ← hepoch, ← hmode]
    exact c.lived_eq now
  · rw [Ctx.closed_of_new h]
    exact Ctx.lived_eq ..

@[simp] theorem Ctx.closed_frame : (c.closed f now).stream = c.stream ∧ (c.closed f now).region = c.region := by
  rw [Ctx.closed_eq]
  exact ⟨rfl, rfl⟩

theorem Ctx.closed_repair_of_no_need (h : c.hasEpoch f) (hst : c.state ≠ .lost) :
    (c.closed f now).repair = c.repair ∧ (c.closed f now).owed = c.owed := by
  simp [Ctx.closed_of_same h, Ctx.lived_repair, hst]

/-- A repair need is owed while the repair timer runs. -/
theorem Ctx.closed_repair_of_running (hneed : ¬ c.hasEpoch f ∨ c.state = .lost) (hruns : c.repair.isSome = true) :
    (c.closed f now).repair = c.repair ∧ (c.closed f now).owed = true := by
  obtain ⟨u, hu⟩ := Option.isSome_iff_exists.1 hruns
  by_cases h : c.hasEpoch f
  · have hlost := hneed.resolve_left (not_not_intro h)
    simp [Ctx.closed_of_same h, Ctx.lived_repair, hlost, Ctx.needing, hu]
  · simp [Ctx.closed_of_new h, Ctx.lived_repair, Ctx.needing, Ctx.renewed, hu]

/-- Else it starts the timer, and only a second one is owed. -/
theorem Ctx.closed_repair_of_stopped (hneed : ¬ c.hasEpoch f ∨ c.state = .lost) (hstopped : c.repair = none) :
    (c.closed f now).repair = some now ∧ ((c.closed f now).owed = true ↔ ¬ c.hasEpoch f ∧ c.state = .lost) := by
  by_cases h : c.hasEpoch f
  · have hlost := hneed.resolve_left (not_not_intro h)
    simp [Ctx.closed_of_same h, Ctx.lived_repair, hlost, Ctx.needing, hstopped, h]
  · simp [Ctx.closed_of_new h, Ctx.lived_repair, Ctx.needing, Ctx.renewed, hstopped, h]

end Closed

/-! ### What it makes of the state -/

section Close
variable {s : State} {x : Stream} {c : Ctx} {f : CloseContent}

/-- A head's record when the stream it shows has a mode (R12). -/
theorem State.placementOf_of_mode {h : Fin 4} {z : Size} (hshown : s.cp.shown h = some x) (hc : s.sr.ctx x = some c)
    (hz : c.mode = some z) :
    s.placementOf h = some (placement c.region z (s.cp.heads.get h).w (s.cp.heads.get h).h) := by
  simp only [State.placementOf, hshown, hc, hz, Option.map_some]

/-- SR with a context put, its region black, and its heads placed in the mode `z`. -/
def State.placedSR (s : State) (d : Ctx) (z : Size) : SR :=
  { s.sr.put d with
    store := s.sr.store.clearRegion d.region.val
    places := Quad.ofFn fun h => if s.cp.shown h = some d.stream
      then some (placement d.region z (s.cp.heads.get h).w (s.cp.heads.get h).h)
      else s.sr.places.get h }

@[simp] theorem State.placedSR_store (d : Ctx) (z : Size) :
    (s.placedSR d z).store = s.sr.store.clearRegion d.region.val := rfl

theorem State.placedSR_ctx (d : Ctx) (z : Size) (y : Stream) : (s.placedSR d z).ctx y = (s.sr.put d).ctx y := rfl

theorem State.placedSR_places (d : Ctx) (z : Size) (h : Fin 4) : (s.placedSR d z).places.get h
    = if s.cp.shown h = some d.stream then some (placement d.region z (s.cp.heads.get h).w (s.cp.heads.get h).h)
      else s.sr.places.get h := Quad_get_ofFn ..

/-- A context put again, of the same stream and region, takes the place of the first. -/
theorem State.placedSR_put {d e : Ctx} (z : Size) (hs : e.stream = d.stream) (hr : e.region = d.region) :
    (s.placedSR d z).put e = s.placedSR e z := by
  have hctxs : ((s.sr.put d).put e).ctxs = (s.sr.put e).ctxs := congrArg SR.ctxs (SR.put_put hs)
  unfold State.placedSR
  rw [hs, hr]
  exact congrArg (SR.mk · _ _) hctxs

/-- A new epoch before its heads are placed: the context renewed and its region black (R145). -/
def State.epochBlack (s : State) (c : Ctx) (f : CloseContent) : State :=
  (s.putCtx (c.renewed f)).setSR ((s.sr.put (c.renewed f)).clear c.region)

/-- The same with its heads placed, before its repair need. -/
def State.epochPlaced (s : State) (c : Ctx) (f : CloseContent) : State :=
  (s.putCtx (c.renewed f)).setSR (s.placedSR (c.renewed f) f.mode)

theorem State.epochBlack_ctx (hc : s.sr.ctx x = some c) : (s.epochBlack c f).sr.ctx x = some (c.renewed f) :=
  SR.ctx_put_same hc (by simp [SR.stream_of_ctx hc])

theorem State.epochBlack_placeStream (hc : s.sr.ctx x = some c) :
    (s.epochBlack c f).placeStream x = s.epochPlaced c f := by
  have hheads (h : Fin 4) : (if (s.epochBlack c f).cp.shown h = some x then (s.epochBlack c f).placementOf h
        else (s.epochBlack c f).sr.places.get h)
      = if s.cp.shown h = some c.stream then some (placement c.region f.mode (s.cp.heads.get h).w (s.cp.heads.get h).h)
        else s.sr.places.get h := by
    rw [SR.stream_of_ctx hc]
    exact ite_congr rfl
      (fun hshown => State.placementOf_of_mode (c := c.renewed f) hshown (State.epochBlack_ctx hc) rfl) fun _ => rfl
  simp only [State.placeStream, hheads]
  rfl

theorem State.takeEpoch_eq (hc : s.sr.ctx x = some c) : s.takeEpoch c f = (s.epochPlaced c f).needRepair x := by
  rw [← State.epochBlack_placeStream hc, ← SR.stream_of_ctx hc]
  rfl

theorem State.epochPlaced_ctx (hc : s.sr.ctx x = some c) : (s.epochPlaced c f).sr.ctx x = some (c.renewed f) :=
  SR.ctx_put_same hc (by simp [SR.stream_of_ctx hc])

theorem State.takeEpoch_sr (hc : s.sr.ctx x = some c) :
    (s.takeEpoch c f).sr = s.placedSR ((c.renewed f).needing s.now) f.mode := by
  rw [State.takeEpoch_eq hc, State.needRepair_sr (State.epochPlaced_ctx hc)]
  exact State.placedSR_put _ rfl rfl

theorem State.takeEpoch_fp (hc : s.sr.ctx x = some c) : (s.takeEpoch c f).fp = (s.askRepair c).fp := by
  rw [State.takeEpoch_eq hc, State.needRepair_fp (State.epochPlaced_ctx hc), State.epochPlaced, State.askRepair_setSR,
    State.askRepair_putCtx]
  rfl

theorem State.closeLive_sr (hc : s.sr.ctx x = some c) : (s.closeLive x).sr = s.sr.put (c.lived s.now) := by
  have hstream := SR.stream_of_ctx hc
  have hctx : (s.putCtx (c.revived s.now)).sr.ctx x = some (c.revived s.now) := SR.ctx_put_same hc hstream
  simp only [State.closeLive, hc]
  by_cases h : c.state = .lost
  · rw [if_pos h]
    refine (State.needRepair_sr hctx).trans ?_
    rw [State.putCtx_sr, SR.put_put (by simp), Ctx.lived, if_pos h]
    rfl
  · rw [if_neg h, Ctx.lived, if_neg h]
    rfl

theorem State.closeLive_fp (hc : s.sr.ctx x = some c) :
    (s.closeLive x).fp = if c.state = .lost then (s.askRepair c).fp else s.fp := by
  have hstream := SR.stream_of_ctx hc
  have hctx : (s.putCtx (c.revived s.now)).sr.ctx x = some (c.revived s.now) := SR.ctx_put_same hc hstream
  simp only [State.closeLive, hc]
  split
  · refine (State.needRepair_fp hctx).trans ?_
    rw [State.askRepair_putCtx]
    rfl
  · rfl

theorem State.takeEpoch_ctx (hc : s.sr.ctx x = some c) :
    (s.takeEpoch c f).sr.ctx x = some ((c.renewed f).needing s.now) := by
  rw [State.takeEpoch_sr hc]
  exact SR.ctx_put_same hc (by simp [SR.stream_of_ctx hc])

/-- A FRAME-CLOSE that passes its check and is of the context's epoch makes it LIVE, and CP and HU are told. -/
theorem State.takeClose_of_same (hc : s.sr.ctx x = some c) (hok : f.ok = true) (hsame : c.hasEpoch f) :
    s.takeClose x f = (s.closeLive x).streamsChanged := by
  obtain ⟨hepoch, hmode⟩ := hsame
  simp [State.takeClose, hok, hc, hepoch, hmode]

/-- One of another epoch or mode brings it first. -/
theorem State.takeClose_of_new (hc : s.sr.ctx x = some c) (hok : f.ok = true) (hnew : ¬ c.hasEpoch f) :
    s.takeClose x f = ((s.takeEpoch c f).closeLive x).streamsChanged := by
  have hdiffer : ¬ (c.epoch = some f.epoch && c.mode = some f.mode) = true := by
    rwa [Bool.and_eq_true, decide_eq_true_iff, decide_eq_true_iff]
  simp only [State.takeClose, hok, hc, if_true, if_neg hdiffer]

theorem State.takeClose_of_malformed (hbad : f.ok = false) : s.takeClose x f = s.latch .malformed := by
  simp [State.takeClose, hbad]

theorem State.takeClose_sr_of_same (hc : s.sr.ctx x = some c) (hok : f.ok = true) (hsame : c.hasEpoch f) :
    (s.takeClose x f).sr = s.sr.put (c.closed f s.now) := by
  simp [State.takeClose_of_same hc hok hsame, State.closeLive_sr hc, Ctx.closed_of_same hsame]

theorem State.takeClose_sr_of_new (hc : s.sr.ctx x = some c) (hok : f.ok = true) (hnew : ¬ c.hasEpoch f) :
    (s.takeClose x f).sr = s.placedSR (c.closed f s.now) f.mode := by
  have hsr : (s.takeClose x f).sr = (s.takeEpoch c f).sr.put (c.closed f s.now) := by
    simp [State.takeClose_of_new hc hok hnew, State.closeLive_sr (State.takeEpoch_ctx hc), Ctx.closed_of_new hnew]
  rw [hsr, State.takeEpoch_sr hc, State.placedSR_put] <;> rw [Ctx.closed_eq] <;> rfl

theorem State.takeClose_ctx (hc : s.sr.ctx x = some c) (hok : f.ok = true) (y : Stream) :
    (s.takeClose x f).sr.ctx y = (s.sr.put (c.closed f s.now)).ctx y := by
  by_cases hsame : c.hasEpoch f
  · rw [State.takeClose_sr_of_same hc hok hsame]
  · rw [State.takeClose_sr_of_new hc hok hsame, State.placedSR_ctx]

/-- A new epoch and a return from LOST hand class 0 one request between them: the first starts the repair timer. -/
theorem State.takeClose_fp_of_need (hc : s.sr.ctx x = some c) (hok : f.ok = true)
    (hneed : ¬ c.hasEpoch f ∨ c.state = .lost) : (s.takeClose x f).fp = (s.askRepair c).fp := by
  by_cases hsame : c.hasEpoch f
  · have hlost := hneed.resolve_left (not_not_intro hsame)
    simp [State.takeClose_of_same hc hok hsame, State.closeLive_fp hc, hlost]
  · have hruns : ((c.renewed f).needing s.now).repair.isSome = true := rfl
    simp [State.takeClose_of_new hc hok hsame, State.closeLive_fp (State.takeEpoch_ctx hc), State.takeEpoch_fp hc,
      State.askRepair_of_running hruns]

theorem State.takeClose_fp_of_no_need (hc : s.sr.ctx x = some c) (hok : f.ok = true) (hsame : c.hasEpoch f)
    (hst : c.state ≠ .lost) : (s.takeClose x f).fp = s.fp := by
  simp [State.takeClose_of_same hc hok hsame, State.closeLive_fp hc, hst]

theorem State.takeClose_fp_of_running (hc : s.sr.ctx x = some c) (hok : f.ok = true)
    (hruns : c.repair.isSome = true) : (s.takeClose x f).fp = s.fp := by
  by_cases hneed : ¬ c.hasEpoch f ∨ c.state = .lost
  · rw [State.takeClose_fp_of_need hc hok hneed, State.askRepair_of_running hruns]
  · obtain ⟨hsame, hst⟩ := not_or.1 hneed
    exact State.takeClose_fp_of_no_need hc hok (not_not.1 hsame) hst

theorem State.takeClose_eq_streamsChanged (hc : s.sr.ctx x = some c) (hok : f.ok = true) :
    ∃ w : State, s.takeClose x f = w.streamsChanged := by
  by_cases hsame : c.hasEpoch f
  · exact ⟨_, State.takeClose_of_same hc hok hsame⟩
  · exact ⟨_, State.takeClose_of_new hc hok hsame⟩

end Close

/-! ### What CP, SA and FU make of it (R33, R148, R67) -/

theorem State.streamsChanged_field (s : State) : s.streamsChanged.cp.field = s.streamsChanged.mapPointer := rfl

/-- STREAM-LOST stands while a context is LOST (R148). -/
theorem State.streamsChanged_streamLost (s : State) :
    s.streamsChanged.sa.current.has .streamLost = true ↔ ∃ d ∈ s.streamsChanged.sr.ctxs, d.state = .lost := by
  have hsa : s.streamsChanged.sa = s.recomputeLost.sa := by simp [State.streamsChanged]
  rw [hsa, State.recomputeLost, State.setCurrent_has]
  simp

/-- With no leave pending FU's judgement hands class 0 nothing. -/
theorem State.judgeInput_class0 {s : State} (horder : s.fu.leaveOrder = []) :
    s.judgeInput.fp.class0 = s.fp.class0 := by
  cases hr : s.focusRecord with
  | none => simp [State.judgeInput, horder, State.runLeaves, hr]
  | some r =>
    rw [State.judgeInput_of_no_leave hr horder]
    split
    · rw [State.buildInput_fp]
      unfold State.hand1
      split <;> rfl
    · rfl

section Judged
variable {s : State} {x : Stream} {c : Ctx} {f : CloseContent}

/-- The pointer stays, and its field is mapped anew. -/
theorem State.judgeInput_takeClose_pointer (hc : s.sr.ctx x = some c) (hok : f.ok = true) :
    let t := (s.takeClose x f).judgeInput
    t.cp.x = s.cp.x ∧ t.cp.y = s.cp.y ∧ t.cp.field = t.mapPointer := by
  obtain ⟨w, hw⟩ := State.takeClose_eq_streamsChanged hc hok
  have hfield : (s.takeClose x f).cp.field = (s.takeClose x f).mapPointer := by rw [hw, State.streamsChanged_field]
  obtain ⟨hx, hy, -, hmap, -⟩ := State.judgeInput_focusFrom_pointer _ _ hfield
  obtain ⟨-, -, hkeptX, hkeptY, -⟩ := CP.eq_of_lasting_eq (s.takeClose_lasting x f)
  rw [State.focusFrom_of_eq rfl] at hx hy hmap
  exact ⟨hx.trans hkeptX, hy.trans hkeptY, hmap⟩

theorem State.judgeInput_takeClose_streamLost (hc : s.sr.ctx x = some c) (hok : f.ok = true) :
    let t := (s.takeClose x f).judgeInput
    t.sa.current.has .streamLost = true ↔ ∃ d ∈ t.sr.ctxs, d.state = .lost := by
  obtain ⟨w, hw⟩ := State.takeClose_eq_streamsChanged hc hok
  simp only [hw, State.judgeInput_current, State.judgeInput_frame]
  exact w.streamsChanged_streamLost

end Judged

/-- Settles O57 (R140 to R145, R147, R148): once the sequence is taken, a FRAME-CLOSE of the context's epoch revives the
context, and one of another epoch renews it and its region and heads first. -/
theorem frameCloseTaken : Obligations.FrameCloseTaken := by
  intro s u m c f hd ht hc hf
  have hexec := exec_frameCloseTaken hd ht
  have hcu : u.sr.ctx m.stream = some c := by rwa [State.take_sr ht]
  refine ⟨fun l hlive hl hold => ?_, fun v q hseq => ?_⟩
  · rw [hexec, State.close_of_old (State.takeSeq_of_old hcu hlive hl hold)]
  have hq := hseq.ctx hcu
  have hkept := hseq.ctx_eq
  obtain ⟨hsr, hnow, hcp, hfu, hsource⟩ := hseq.frame ht
  rw [State.close_of_seqTaken hcu hseq, ← hf] at hexec
  refine ⟨fun hbad => ?_, fun hok => ?_⟩
  · rw [hexec, State.takeClose_of_malformed hbad]
  have hstream := SR.stream_of_ctx hq
  have hregion : q.region = c.region := by rw [hkept]
  have hepoch : ¬ q.hasEpoch f ↔ c.epoch ≠ some f.epoch ∨ c.mode ≠ some f.mode := by rw [hkept]; exact not_and_or
  have hlost : q.state = .lost ↔ c.state = .lost := by rw [hkept]
  have hctx := State.takeClose_ctx hq hok
  have hnew := State.takeClose_sr_of_new hq hok
  rw [hnow] at hctx hnew
  have hjudged : (v.takeClose m.stream f).judgeInput.sr = (v.takeClose m.stream f).sr := by simp
  obtain ⟨hx, hy, hfield⟩ := State.judgeInput_takeClose_pointer hq hok
  rw [hcp] at hx hy
  refine ⟨(v.takeClose m.stream f).judgeInput, q.closed f s.now, ¬ q.hasEpoch f, q.state = .lost, hexec, hepoch, hlost,
    ?_, Ctx.closed_eq, fun x hne => ?_, fun hsame => ?_, fun hother => ?_,
    fun hsame hst => Ctx.closed_repair_of_no_need (not_not.1 hsame) hst, Ctx.closed_repair_of_running,
    Ctx.closed_repair_of_stopped, fun horder hup hroom => ?_, State.judgeInput_takeClose_streamLost hq hok, hx, hy,
    hfield, ?_⟩
  -- the contexts
  · rw [hjudged, hctx, SR.ctx_put_same hq (by simp [hstream])]
  · rw [hjudged, hctx, SR.ctx_put_other (x := m.stream) (by simp [hstream]) hne, hsr, SR.ctx_put_other hstream hne]
  -- the region and the heads
  · rw [hjudged, State.takeClose_sr_of_same hq hok (not_not.1 hsame), hsr]
    exact ⟨rfl, rfl⟩
  · simp only [hjudged, hnew hother, State.placedSR_store, State.placedSR_places, Ctx.closed_frame, hstream, hregion,
      hsr, hcp]
    exact ⟨rfl, fun h hshown => if_pos hshown, fun h hshown => if_neg hshown⟩
  -- class 0
  · rw [State.judgeInput_class0 (by simpa [hfu] using horder)]
    refine ⟨fun hstopped hneed => ?_, fun hnone => ?_⟩
    · rw [State.takeClose_fp_of_need hq hok hneed, State.askRepair_class0 hstream hstopped hup hroom]
      rfl
    · obtain hruns | ⟨hsame, hst⟩ := hnone
      · rw [State.takeClose_fp_of_running hq hok hruns]
      · rw [State.takeClose_fp_of_no_need hq hok (not_not.1 hsame) hst]
  -- the source's blocks
  · simpa [State.sameSource] using hsource

end Sys2Proof.Machine
end

section
/-!
PROOF. A TILE taken (09_stream_reception.md, TILES): a row and a tile written into a region pixel by pixel, how many
pixels a TILE's coding decodes to, and the statement assembled from them.
-/

namespace Sys2Proof.Machine

/-! ### Pixels of a region (R116, R138) -/

/-- An address is one of the three bytes of pixel (x, y) of a region. -/
def inPixel (n x y a : Nat) : Prop := ∃ k < 3, a = pixelAddress n x y + k

/-- Two pixels within the pitch share a byte only when they are one. -/
theorem eq_of_inPixel {n x y x' y' a : Nat} (hx : x < Config.pitch) (hx' : x' < Config.pitch)
    (h : inPixel n x y a) (h' : inPixel n x' y' a) : x = x' ∧ y = y' := by
  obtain ⟨k, hk, rfl⟩ := h
  obtain ⟨k', hk', he⟩ := h'
  unfold pixelAddress Config.pitch at *
  omega

theorem Memory.pixel_eq {m m' : Memory} {n x y : Nat} (h : ∀ a, inPixel n x y a → m'.read a = m.read a) :
    m'.pixel n x y = m.pixel n x y := by
  have hred : m'.read (pixelAddress n x y) = m.read (pixelAddress n x y) :=
    h _ ⟨0, by decide, (Nat.add_zero _).symm⟩
  simp only [Memory.pixel, hred, h _ ⟨1, by decide, rfl⟩, h _ ⟨2, by decide, rfl⟩]

section Written
variable {m : Memory} {n x y : Nat} {c : Colour}

theorem Memory.pixel_setPixel_same (hm : m.wf = true) (hx : x < Config.pitch) (hy : y < Config.regionRows) :
    (m.setPixel n x y c).pixel n x y = c := by
  simp [Memory.pixel, Memory.read_setPixel _ _ _ _ _ _ hm hx hy]

theorem Memory.read_setPixel_outside (hm : m.wf = true) {a : Nat} (ha : ¬ inPixel n x y a) :
    (m.setPixel n x y c).read a = m.read a := by
  by_cases hin : x < Config.pitch ∧ y < Config.regionRows
  · obtain ⟨hx, hy⟩ := hin
    have hbyte (k : Nat) (hk : k < 3) : a ≠ pixelAddress n x y + k := fun h => ha ⟨k, hk, h⟩
    rw [Memory.read_setPixel _ _ _ _ _ _ hm hx hy, if_neg (hbyte 2 (by decide)), if_neg (hbyte 1 (by decide))]
    exact if_neg (Nat.add_zero (pixelAddress n x y) ▸ hbyte 0 (by decide))
  · have hout : ¬ (x < Config.pitch && y < Config.regionRows) = true := by
      rwa [Bool.and_eq_true, decide_eq_true_iff, decide_eq_true_iff]
    rw [Memory.setPixel, if_neg hout]

/-! ### A row of pixels -/

theorem Memory.read_setRow_outside (hm : m.wf = true) {l : List Colour} {a : Nat}
    (ha : ∀ i < l.length, ¬ inPixel n (x + i) y a) : (m.setRow n x y l).read a = m.read a := by
  induction l generalizing m x with
  | nil => rfl
  | cons c r ih =>
    have hhead : ¬ inPixel n x y a := ha 0 (by simp)
    have htail (i : Nat) (hi : i < r.length) : ¬ inPixel n (x + 1 + i) y a := by
      rw [Nat.add_assoc, Nat.add_comm 1]
      exact ha (i + 1) (by simpa using hi)
    rw [Memory.setRow, ih (Memory.wf_setPixel _ _ _ _ _ hm) htail, Memory.read_setPixel_outside hm hhead]

/-- A row within the pitch leaves every pixel of another line, and every pixel before its first. -/
theorem Memory.pixel_setRow_other (hm : m.wf = true) {l : List Colour} (hl : x + l.length ≤ Config.pitch)
    {x' y' : Nat} (hx' : x' < Config.pitch) (h : y' ≠ y ∨ x' < x) :
    (m.setRow n x y l).pixel n x' y' = m.pixel n x' y' := by
  refine Memory.pixel_eq fun a ha => Memory.read_setRow_outside hm fun i hi hrow => ?_
  obtain ⟨hcol, hline⟩ := eq_of_inPixel (by omega) hx' hrow ha
  omega

/-- Each pixel of a row stands in its place. -/
theorem Memory.pixel_setRow (hm : m.wf = true) {l : List Colour} (hl : x + l.length ≤ Config.pitch)
    (hy : y < Config.regionRows) {i : Nat} (hi : i < l.length) :
    some ((m.setRow n x y l).pixel n (x + i) y) = l[i]? := by
  induction l generalizing m x i with
  | nil => cases hi
  | cons c r ih =>
    have hwf := Memory.wf_setPixel m n x y c hm
    rw [List.length_cons] at hl hi
    rw [Memory.setRow]
    cases i with
    | zero =>
      have hkept := Memory.pixel_setRow_other (n := n) (y := y) (x' := x) (y' := y) hwf
        (show x + 1 + r.length ≤ Config.pitch by omega) (by omega) (.inr (by omega))
      exact congrArg some (hkept.trans (Memory.pixel_setPixel_same hm (by omega) hy))
    | succ i =>
      have hrest := ih hwf (show x + 1 + r.length ≤ Config.pitch by omega) (show i < r.length by omega)
      rwa [Nat.add_assoc, Nat.add_comm 1] at hrest

end Written

/-! ### A tile of pixels (R146) -/

section Tile
variable {m : Memory} {n w h : Nat} {t : Tile} {px : List Colour}

/-- One row more is the row written after the others. -/
theorem Memory.setTile_succ (m : Memory) (n : Nat) (t : Tile) (w h : Nat) (px : List Colour) :
    m.setTile n t w (h + 1) px
      = (m.setTile n t w h px).setRow n (16 * t.col) (16 * t.row + h) ((px.drop (h * w)).take w) := by
  simp [Memory.setTile, List.range_succ]

theorem Memory.read_setTile_outside (hm : m.wf = true) {a : Nat}
    (ha : ∀ x < w, ∀ y < h, ¬ inPixel n (16 * t.col + x) (16 * t.row + y) a) :
    (m.setTile n t w h px).read a = m.read a := by
  induction h with
  | zero => rfl
  | succ h ih =>
    rw [Memory.setTile_succ, Memory.read_setRow_outside (Memory.wf_setTile _ _ _ _ _ _ hm)]
    · exact ih fun x hx y hy => ha x hx y (by omega)
    · exact fun i hi => ha i (hi.trans_le (List.length_take_le ..)) h h.lt_succ_self

/-- Each pixel of a tile stands in its place. -/
theorem Memory.pixel_setTile (hm : m.wf = true) (hw : 16 * t.col + w ≤ Config.pitch)
    (hh : 16 * t.row + h ≤ Config.regionRows) (hlen : h * w ≤ px.length) {x y : Nat} (hx : x < w) (hy : y < h) :
    some ((m.setTile n t w h px).pixel n (16 * t.col + x) (16 * t.row + y)) = px[y * w + x]? := by
  induction h with
  | zero => cases hy
  | succ h ih =>
    have hwf := Memory.wf_setTile m n t w h px hm
    have hrow : ((px.drop (h * w)).take w).length = w := by
      rw [List.length_take, List.length_drop]
      rw [Nat.succ_mul] at hlen
      omega
    rw [Memory.setTile_succ]
    obtain hearlier | rfl := Nat.lt_succ_iff_lt_or_eq.1 hy
    · rw [Memory.pixel_setRow_other hwf (by omega) (by omega) (.inl (by omega))]
      exact ih (by omega) (le_trans (Nat.mul_le_mul_right _ h.le_succ) hlen) hearlier
    · rw [Memory.pixel_setRow hwf (by omega) (by omega) (by omega), List.getElem?_take_of_lt hx, List.getElem?_drop]

end Tile

/-! ### What a TILE decodes to (R146) -/

theorem length_unpack2 (l : List Byte) : (unpack2 l).length = 4 * l.length := by
  simp [unpack2, List.length_flatMap, Nat.mul_comm]

theorem length_readColours (l : List Byte) (n : Nat) : (readColours l n).length = n := by
  simp [readColours]

/-- A payload as long as its coding says decodes to as many pixels as the tile has. -/
theorem length_decodePixels {k : Coding} {p : List Byte} {w h : Nat} {px : List Colour}
    (hp : p.length = k.payloadLength w h) (hpx : decodePixels k p (w * h) = some px) : px.length = w * h := by
  cases k with
  | fill =>
    obtain rfl := Option.some.inj hpx
    exact List.length_replicate
  | raw =>
    obtain rfl := Option.some.inj hpx
    exact length_readColours ..
  | few k =>
    simp only [decodePixels, Option.ite_none_right_eq_some, Option.some.injEq] at hpx
    obtain ⟨-, rfl⟩ := hpx
    simp only [Coding.payloadLength] at hp
    rw [List.length_map, List.length_take, length_unpack2, List.length_drop, hp]
    omega

/-- A TILE that decodes lies in its mode's grid, and has as many pixels as its tile. -/
theorem decodeTile_eq_some {z : Size} {p : List Byte} {px : List Colour} {d : Size} (h : decodeTile z p = some px)
    (hd : d = tileSize z ⟨byteAt p 2, byteAt p 3⟩) :
    byteAt p 2 < tilesAlong z.w ∧ byteAt p 3 < tilesAlong z.h ∧ px.length = d.w * d.h := by
  subst hd
  simp only [decodeTile, Option.ite_none_right_eq_some, Bool.and_eq_true, decide_eq_true_eq] at h
  obtain ⟨⟨hcol, hrow⟩, h⟩ := h
  refine ⟨hcol, hrow, ?_⟩
  split at h
  · cases h
  · obtain ⟨hlen, hpx⟩ := Option.ite_none_right_eq_some.1 h
    exact length_decodePixels (by rw [List.length_drop, hlen]) hpx

/-- A tile of the grid ends within its mode's side. -/
theorem tile_end_le {i n : Nat} (h : i < tilesAlong n) : 16 * i + min 16 (n - 16 * i) ≤ n := by
  unfold tilesAlong at h
  omega

/-! ### TILE_TAKEN (R146) -/

section Taken
variable {s : State} {x : Stream} {c : Ctx} {z : Size} {p : List Byte}

/-- A tile of another epoch, or before the first, writes nothing. -/
theorem State.takeTile_of_other (hc : s.sr.ctx x = some c) (h : c.mode = none ∨ c.epoch ≠ some (p.getD 0 0)) :
    s.takeTile x p = s := by
  cases hz : c.mode with
  | none => simp only [State.takeTile, hc, hz]
  | some z => simp only [State.takeTile, hc, hz, if_neg (h.resolve_left (by simp [hz]))]

theorem State.takeTile_of_malformed (hc : s.sr.ctx x = some c) (hz : c.mode = some z)
    (he : c.epoch = some (p.getD 0 0)) (hbad : decodeTile z p = none) :
    s.takeTile x p = (s.latch .malformed).needRepair x := by
  simp only [State.takeTile, hc, hz, he, hbad, if_true]

/-- Any other is written into the context's region. -/
theorem State.takeTile_of_decoded {px : List Colour} (hc : s.sr.ctx x = some c) (hz : c.mode = some z)
    (he : c.epoch = some (p.getD 0 0)) (hpx : decodeTile z p = some px) {d : Size}
    (hd : d = tileSize z ⟨byteAt p 2, byteAt p 3⟩) : s.takeTile x p
    = s.setSR { s.sr with store := s.sr.store.setTile c.region.val ⟨byteAt p 2, byteAt p 3⟩ d.w d.h px } := by
  subst hd
  simp only [State.takeTile, hc, hz, he, hpx, if_true]

end Taken

/-- Settles O58 (R140 to R143, R146): once the sequence is taken, a TILE is of another epoch, malformed, or written
pixel by pixel into its region. -/
theorem tileWritten : Obligations.TileWritten := by
  intro s u m c hd ht hc
  have hexec := exec_tileTaken hd ht
  have hcu : u.sr.ctx m.stream = some c := by rwa [State.take_sr ht]
  refine ⟨fun l hlive hl hold => ?_, fun v q hseq => ?_⟩
  · rw [hexec, State.tile_of_old (State.takeSeq_of_old hcu hlive hl hold)]
  have hq := hseq.ctx hcu
  have hkept := hseq.ctx_eq
  have hstream := SR.stream_of_ctx hq
  have hepoch : q.epoch = c.epoch := by rw [hkept]
  have hmode : q.mode = c.mode := by rw [hkept]
  have hregion : q.region = c.region := by rw [hkept]
  obtain ⟨hsr, hnow, -⟩ := hseq.frame ht
  rw [State.tile_of_seqTaken hcu hseq] at hexec
  refine ⟨fun hother => ?_, fun z hz he hbad => ?_, fun z px d hz hw hh he hpx hd hwf => ?_⟩
  · rw [hexec, State.takeTile_of_other hq (by rwa [hmode, hepoch])]
  · rw [hexec, State.takeTile_of_malformed hq (hmode.trans hz) (hepoch.trans he) hbad,
      State.needRepair_eq (s := v.latch .malformed) hq]
    refine ⟨fun hstopped => ?_, fun hruns => ?_⟩
    · have hlatched : (v.latch .malformed).now = s.now := by simp [hnow]
      rw [State.askRepair_of_stopped hstream hstopped, Ctx.needing_of_stopped _ hstopped, hlatched]
      rfl
    · rw [State.askRepair_of_running hruns, Ctx.needing_of_running _ hruns]
  · obtain ⟨hcol, hrow, hlen⟩ := decodeTile_eq_some hpx hd
    rw [State.takeTile_of_decoded hq (hmode.trans hz) (hepoch.trans he) hpx hd] at hexec
    have hright := (tile_end_le hcol).trans hw
    have hbottom := (tile_end_le hrow).trans hh
    have hdw : d.w = min 16 (z.w - 16 * byteAt m.payload 2) := by rw [hd]; rfl
    have hdh : d.h = min 16 (z.h - 16 * byteAt m.payload 3) := by rw [hd]; rfl
    rw [← hdw] at hright
    rw [← hdh] at hbottom
    have hstore : v.sr.store = s.sr.store := by rw [hsr]; rfl
    rw [hstore, hregion] at hexec
    refine ⟨_, hexec, rfl, hlen, fun x y hx hy => ?_, fun a ha => ?_⟩
    · exact Memory.pixel_setTile hwf hright hbottom (by rw [hlen, Nat.mul_comm]) hx hy
    · refine Memory.read_setTile_outside hwf fun x hx y hy hin => ?_
      obtain ⟨k, hk, rfl⟩ := hin
      exact ha x y k hx hy hk rfl

end Sys2Proof.Machine
end

section
/-!
PROOF. Heads and blanking (10_heads.md, R151 to R163): a line start and the minute timer, the three layers of a pixel
one by one, the outputs of a head, and the statement assembled from them.
-/

namespace Sys2Proof.Machine

/-! ### HEAD_LINE_START (R151, R154, R157) -/

section LineStart
variable {s : State} {h : Fin 4}

/-- What head `h` of `s` holds once its line has started. -/
def State.lineStarted (s : State) (h : Fin 4) : HeadOut :=
  { s.hu.heads.get h with
    latch := some (s.readLine h (s.hu.heads.get h))
    syncOn := if (s.hu.heads.get h).line = 0 then (s.hu.profile (s.hu.heads.get h).state).sync
      else (s.hu.heads.get h).syncOn
    line := ((s.hu.heads.get h).line + 1) % (s.cp.modeOf h).vTotal }

theorem exec_headLineStart (hrun : (s.hu.heads.get h).running = true) : exec (.headLineStart h) s
    = .next (s.setHU { s.hu with heads := s.hu.heads.set h (s.lineStarted h) }) :=
  if_pos hrun

variable {o : HeadOut}

/-- The pointer head's line holds the pointer in head coordinates and the focus record. -/
theorem State.readLine_of_pointerHead (hp : s.cp.head = some h) :
    (s.readLine h o).pointer = some (s.cp.x - (s.cp.heads.get h).cx, s.cp.y - (s.cp.heads.get h).cy)
      ∧ (s.readLine h o).focus = s.focusRecord.map SrcRec.view :=
  ⟨if_pos hp, if_pos hp⟩

theorem State.readLine_of_otherHead (hp : s.cp.head ≠ some h) :
    (s.readLine h o).pointer = none ∧ (s.readLine h o).focus = none :=
  ⟨if_neg hp, if_neg hp⟩

end LineStart

/-! ### MINUTE_TIMER_EXPIRY (R163) -/

section Minute
variable {s : State}

theorem exec_minuteTimerExpiry_of_counting (hran : ranFor s.now s.hu.minute Config.minuteUs)
    (hn : s.hu.count + 1 ≠ s.hu.tBlank) :
    exec .minuteTimerExpiry s = .next (s.setHU { s.hu with count := s.hu.count + 1, minute := some s.now }) := by
  have hdue := (timerDue_iff ..).2 hran
  simp [exec, execMinuteTimerExpiry, hdue, hn]

theorem exec_minuteTimerExpiry_of_full (hran : ranFor s.now s.hu.minute Config.minuteUs)
    (hn : s.hu.count + 1 = s.hu.tBlank) : exec .minuteTimerExpiry s
    = .next (s.setHU { s.hu with count := s.hu.tBlank, minute := none, blank := true }).recomputeHeads := by
  have hdue := (timerDue_iff ..).2 hran
  simp [exec, execMinuteTimerExpiry, hdue, hn]

/-- Head states computed anew change the head states and nothing else (R154). -/
theorem State.recomputeHeads_eq (s : State) :
    s.recomputeHeads = s.setHU { s.hu with heads := s.recomputeHeads.hu.heads } := rfl

@[simp] theorem State.recomputeHeads_state (s : State) (h : Fin 4) :
    (s.recomputeHeads.hu.heads.get h).state = s.headState h := by
  simp [State.recomputeHeads]

variable {h : Fin 4}

theorem State.headState_of_not_valid (hv : (s.cp.heads.get h).validity ≠ .valid) : s.headState h = .off := by
  simp [State.headState, hv]

theorem State.headState_of_blanked (hs : s.sa.start = .serving) (hb : s.hu.blank = true)
    (hv : (s.cp.heads.get h).validity = .valid) : s.headState h = .blank := by
  simp [State.headState, hv, hs, hb]

end Minute

/-! ### The base layer (R14, R157) -/

section Base
variable {s : State} {l : LineLatch} {u : Nat}

/-- Pixel (u, v) of a head lies in the image of its placement (R14). -/
def Placement.covers (p : Placement) (u v : Nat) : Prop :=
  p.ox ≤ u ∧ u < p.ox + p.dw ∧ p.oy ≤ v ∧ v < p.oy + p.dh

theorem State.basePixel_of_image {p : Placement} (hp : l.place = some p) (hi : (s.hu.profile l.state).image = true)
    (hc : p.covers u l.line) :
    s.basePixel l u = s.sr.store.pixel p.region.val (p.k * (u - p.ox)) (p.k * (l.line - p.oy)) := by
  obtain ⟨hleft, hright, htop, hbottom⟩ := hc
  simp [State.basePixel, hp, hi, hleft, hright, htop, hbottom]

theorem State.basePixel_of_no_image (hi : (s.hu.profile l.state).image = false) :
    s.basePixel l u = (s.hu.profile l.state).border := by
  cases hp : l.place <;> simp [State.basePixel, hp, hi]

theorem State.basePixel_of_no_place (hp : l.place = none) : s.basePixel l u = (s.hu.profile l.state).border := by
  simp [State.basePixel, hp]

theorem State.basePixel_of_outside {p : Placement} (hp : l.place = some p) (hc : ¬ p.covers u l.line) :
    s.basePixel l u = (s.hu.profile l.state).border := by
  simp only [State.basePixel, hp]
  refine if_neg fun hin => hc ?_
  simp only [Bool.and_eq_true, decide_eq_true_eq] at hin
  obtain ⟨⟨⟨⟨-, hleft⟩, hright⟩, htop⟩, hbottom⟩ := hin
  exact ⟨hleft, hright, htop, hbottom⟩

end Base

/-! ### The focus frame (R158, R160) -/

theorem HeadState.overlaid_eq_true_iff (x : HeadState) : x.overlaid = true ↔ x ≠ .off ∧ x ≠ .blank := by
  cases x <;> simp [HeadState.overlaid]

theorem HeadState.overlaid_eq_false_iff (x : HeadState) : x.overlaid = false ↔ x = .off ∨ x = .blank := by
  cases x <;> simp [HeadState.overlaid]

theorem inFrame_iff (b w h u v : Nat) : inFrame b w h u v = true ↔ u < b ∨ w ≤ u + b ∨ v < b ∨ h ≤ v + b := by
  simp [inFrame, or_assoc]

section Frame
variable {u : HU} {f : FocusView}

theorem HU.frameColour_of_refused (hr : f.refused = true) : u.frameColour f = u.colours.refused := if_pos hr

variable (hr : f.refused = false)
include hr

theorem HU.frameColour_of_idle (hs : f.state = .idle) :
    u.frameColour f = if f.absent then u.colours.absent else u.colours.idle := by
  simp [HU.frameColour, hr, hs]

theorem HU.frameColour_of_holding (hs : f.state = .holding) : u.frameColour f = u.colours.holding := by
  simp [HU.frameColour, hr, hs]

theorem HU.frameColour_of_asking (hs : f.state = .asking) : u.frameColour f = u.colours.asking := by
  simp [HU.frameColour, hr, hs]

theorem HU.frameColour_of_queued (hs : f.state = .queued) : u.frameColour f = u.colours.queued := by
  simp [HU.frameColour, hr, hs]

end Frame

section FrameLayer
variable {s : State} {h : Fin 4} {l : LineLatch} {u : Nat} {c : Colour}

theorem State.framePixel_of_no_focus (hf : l.focus = none) : s.framePixel h l u c = c := by
  simp [State.framePixel, hf]

theorem State.framePixel_of_not_overlaid (ho : l.state.overlaid = false) : s.framePixel h l u c = c := by
  cases hf : l.focus <;> simp [State.framePixel, hf, ho]

theorem State.framePixel_of_inside
    (hb : inFrame s.hu.frameWidth (s.cp.heads.get h).w (s.cp.heads.get h).h u l.line = false) :
    s.framePixel h l u c = c := by
  cases hf : l.focus <;> simp [State.framePixel, hf, hb]

theorem State.framePixel_of_band {f : FocusView} (hf : l.focus = some f) (ho : l.state.overlaid = true)
    (hb : inFrame s.hu.frameWidth (s.cp.heads.get h).w (s.cp.heads.get h).h u l.line = true) :
    s.framePixel h l u c = s.hu.frameColour f := by
  simp [State.framePixel, hf, ho, hb]

end FrameLayer

/-! ### The pointer glyph (R158, R161, R162) -/

section GlyphLayer
variable {g : Glyph}

theorem Glyph.drawn_iff (f : Option FocusView) :
    g.drawn f = true ↔ g.always = true ∨ ∀ v, f = some v → v.state ≠ .holding := by
  cases f <;> simp [Glyph.drawn]

theorem Glyph.drawn_eq_false_iff (f : Option FocusView) :
    g.drawn f = false ↔ g.always = false ∧ ∃ v, f = some v ∧ v.state = .holding := by
  cases f <;> simp [Glyph.drawn]

/-- With the hotspot on the pointer, the glyph's code (gx, gy) lies on the pixel gx right of and gy below its corner. -/
theorem Glyph.code_of_covered {pu pv u v gx gy : Nat} (hgx : gx < 16) (hgy : gy < 16) (hu : u + g.hx = pu + gx)
    (hv : v + g.hy = pv + gy) : g.code pu pv u v = g.codes.getD (16 * gy + gx) 0 := by
  simp [Glyph.code, hu, hv, hgx, hgy]

theorem Glyph.code_of_uncovered {pu pv u v : Nat}
    (hout : ∀ gx gy, gx < 16 → gy < 16 → u + g.hx ≠ pu + gx ∨ v + g.hy ≠ pv + gy) : g.code pu pv u v = 0 := by
  refine if_neg fun hin => ?_
  simp only [Bool.and_eq_true, decide_eq_true_eq] at hin
  have hnot := hout (u + g.hx - pu) (v + g.hy - pv)
  omega

@[simp] theorem Glyph.paint_zero (c : Colour) : g.paint 0 c = c := rfl
@[simp] theorem Glyph.paint_one (c : Colour) : g.paint 1 c = g.a := rfl
@[simp] theorem Glyph.paint_two (c : Colour) : g.paint 2 c = g.b := rfl
@[simp] theorem Glyph.paint_three (c : Colour) : g.paint 3 c = ⟨255 - c.r, 255 - c.g, 255 - c.b⟩ := rfl

variable {s : State} {l : LineLatch} {u : Nat} {c : Colour}

theorem State.glyphPixel_of_no_pointer (hp : l.pointer = none) : s.glyphPixel l u c = c := by
  simp [State.glyphPixel, hp]

theorem State.glyphPixel_of_not_drawn (h : l.state.overlaid = false ∨ s.hu.glyph.drawn l.focus = false) :
    s.glyphPixel l u c = c := by
  cases hp : l.pointer with
  | none => exact State.glyphPixel_of_no_pointer hp
  | some q =>
    simp only [State.glyphPixel, hp]
    exact if_neg (by simpa [← Bool.not_eq_true, imp_iff_not_or] using h)

theorem State.glyphPixel_of_drawn {pu pv : Nat} (hp : l.pointer = some (pu, pv)) (ho : l.state.overlaid = true)
    (hd : s.hu.glyph.drawn l.focus = true) :
    s.glyphPixel l u c = s.hu.glyph.paint (s.hu.glyph.code pu pv u l.line) c := by
  simp [State.glyphPixel, hp, ho, hd]

end GlyphLayer

/-! ### The outputs (R151, R155, R156) -/

section Pins
variable {s : State} {h : Fin 4} {p : Nat} {l : LineLatch}

/-- A polarity of 0 gives a high pulse, any other a low one. -/
theorem syncLevel_iff (polarity : Nat) (inPulse : Bool) :
    syncLevel polarity inPulse = true ↔ (inPulse = true ↔ polarity = 0) := by
  by_cases hz : polarity = 0 <;> simp [syncLevel, hz]

theorem syncLevel_inactive (polarity : Nat) : syncLevel polarity false = decide (polarity ≠ 0) := by
  by_cases hz : polarity = 0 <;> simp [syncLevel, hz]

theorem State.headPins_of_no_latch (hl : (s.hu.heads.get h).latch = none) :
    s.headPins h p = ⟨false, false, false, false, ⟨0, 0, 0⟩⟩ := by
  simp [State.headPins, hl]

theorem State.headPins_of_sync_off (hl : (s.hu.heads.get h).latch = some l)
    (hs : (s.hu.heads.get h).syncOn = false) : s.headPins h p
    = ⟨true, decide ((s.cp.modeOf h).hpol ≠ 0), decide ((s.cp.modeOf h).vpol ≠ 0), false, ⟨0, 0, 0⟩⟩ := by
  simp [State.headPins, hl, hs, syncLevel_inactive]

theorem State.headPins_pclk (hl : (s.hu.heads.get h).latch = some l) : (s.headPins h p).pclk = true := by
  simp [State.headPins, hl]

section SyncOn
variable (hl : (s.hu.heads.get h).latch = some l) (hs : (s.hu.heads.get h).syncOn = true)
include hl hs

theorem State.headPins_de_iff :
    (s.headPins h p).de = true ↔ p < (s.cp.modeOf h).aw ∧ l.line < (s.cp.modeOf h).ah := by
  simp [State.headPins, hl, hs]

theorem State.headPins_hsync_iff : (s.headPins h p).hsync = true ↔
    (((s.cp.modeOf h).aw + (s.cp.modeOf h).hfp ≤ p
      ∧ p < (s.cp.modeOf h).aw + (s.cp.modeOf h).hfp + (s.cp.modeOf h).hsw) ↔ (s.cp.modeOf h).hpol = 0) := by
  simp [State.headPins, hl, hs, syncLevel_iff]

theorem State.headPins_vsync_iff : (s.headPins h p).vsync = true ↔
    (((s.cp.modeOf h).ah + (s.cp.modeOf h).vfp ≤ l.line
      ∧ l.line < (s.cp.modeOf h).ah + (s.cp.modeOf h).vfp + (s.cp.modeOf h).vsw) ↔ (s.cp.modeOf h).vpol = 0) := by
  simp [State.headPins, hl, hs, syncLevel_iff]

theorem State.headPins_d : (s.headPins h p).d
    = if p < (s.cp.modeOf h).aw ∧ l.line < (s.cp.modeOf h).ah then s.composePixel h l p else ⟨0, 0, 0⟩ := by
  simp [State.headPins, hl, hs]

end SyncOn
end Pins

/-! ### The statement -/

/-- Settles O60 (R151, R154 to R163): what a line start holds and a minute counts, a pixel layer by layer, and the pins
by the sync in force. -/
theorem headsAndBlanking : Obligations.HeadsAndBlanking := by
  refine ⟨fun s h hrun => ?lineStart, fun s u hu hran => ?minute, fun s h l u => ?pixel, fun s h p m hm => ?pins⟩
  case lineStart =>
    refine ⟨_, s.readLine h (s.hu.heads.get h), exec_headLineStart hrun, rfl, fun k hk => ?_, ?_⟩
    · simp [Quad_get_set, hk]
    simp only [State.setHU_hu, Quad_get_set_same]
    refine ⟨rfl, rfl, rfl, rfl, State.readLine_of_pointerHead, State.readLine_of_otherHead, fun h0 => if_pos h0,
      fun h0 => if_neg h0, fun hnext => Nat.mod_eq_of_lt hnext, fun hlast => ?_⟩
    simp [State.lineStarted, hlast]
  case minute =>
    have hran : ranFor s.now s.hu.minute Config.minuteUs := ⟨u, hu, hran⟩
    refine ⟨exec_minuteTimerExpiry_of_counting hran, fun hn =>
      ⟨_, exec_minuteTimerExpiry_of_full hran hn, State.recomputeHeads_eq _, fun hserving h => ?_⟩⟩
    rw [State.recomputeHeads_state]
    exact ⟨fun hv => State.headState_of_blanked hserving rfl hv, fun hv => State.headState_of_not_valid hv⟩
  case pixel =>
    refine ⟨s.basePixel l u, s.framePixel h l u (s.basePixel l u), _, fun p hp hi hleft hright htop hbottom =>
      State.basePixel_of_image hp hi ⟨hleft, hright, htop, hbottom⟩, ?border, inFrame_iff .., ?noFrame, ?frame,
      ?noGlyph, ?glyph⟩
    case border =>
      rintro (hp | hi | ⟨p, hp, hout⟩)
      · exact State.basePixel_of_no_place hp
      · exact State.basePixel_of_no_image hi
      · exact State.basePixel_of_outside hp fun ⟨hleft, hright, htop, hbottom⟩ => by omega
    case noFrame =>
      rintro (hf | hoff | hblank | hb)
      · exact State.framePixel_of_no_focus hf
      · exact State.framePixel_of_not_overlaid ((HeadState.overlaid_eq_false_iff _).2 (.inl hoff))
      · exact State.framePixel_of_not_overlaid ((HeadState.overlaid_eq_false_iff _).2 (.inr hblank))
      · exact State.framePixel_of_inside (Bool.eq_false_iff.2 hb)
    case frame =>
      intro f hf hoff hblank hb
      rw [State.framePixel_of_band hf ((HeadState.overlaid_eq_true_iff _).2 ⟨hoff, hblank⟩) hb]
      refine ⟨HU.frameColour_of_refused, fun hr hst ha => ?_, fun hr hst ha => ?_, HU.frameColour_of_holding,
        HU.frameColour_of_asking, HU.frameColour_of_queued⟩
      · rw [HU.frameColour_of_idle hr hst, if_pos ha]
      · rw [HU.frameColour_of_idle hr hst, if_neg (Bool.eq_false_iff.1 ha)]
    case noGlyph =>
      rintro (hp | hoff | hblank | hholding)
      · exact State.glyphPixel_of_no_pointer hp
      · exact State.glyphPixel_of_not_drawn (.inl ((HeadState.overlaid_eq_false_iff _).2 (.inl hoff)))
      · exact State.glyphPixel_of_not_drawn (.inl ((HeadState.overlaid_eq_false_iff _).2 (.inr hblank)))
      · exact State.glyphPixel_of_not_drawn (.inr ((Glyph.drawn_eq_false_iff _).2 hholding))
    case glyph =>
      intro pu pv hp hoff hblank hdrawn
      have hpainted := State.glyphPixel_of_drawn (u := u) (c := s.framePixel h l u (s.basePixel l u)) hp
        ((HeadState.overlaid_eq_true_iff _).2 ⟨hoff, hblank⟩) ((Glyph.drawn_iff _).2 hdrawn)
      rw [State.composePixel, hpainted]
      refine ⟨fun gx gy hgx hgy hu hv => ?_, fun hout => ?_⟩
      · rw [Glyph.code_of_covered hgx hgy hu hv]
        refine ⟨fun hcode => ?_, fun hcode => ?_, fun hcode => ?_, fun hcode => ?_⟩ <;> rw [hcode]
        · exact Glyph.paint_zero _
        · exact Glyph.paint_one _
        · exact Glyph.paint_two _
        · exact Glyph.paint_three _
      · rw [Glyph.code_of_uncovered hout, Glyph.paint_zero]
  case pins =>
    subst hm
    refine ⟨State.headPins_of_no_latch, fun l hl => ⟨State.headPins_pclk hl, State.headPins_of_sync_off hl,
      fun hs => ⟨State.headPins_de_iff hl hs, State.headPins_hsync_iff hl hs, State.headPins_vsync_iff hl hs,
        fun hp hline => ?_, fun hblanking => ?_⟩⟩⟩
    · rw [State.headPins_d hl hs, if_pos ⟨hp, hline⟩]
    · rw [State.headPins_d hl hs, if_neg (by omega)]

end Sys2Proof.Machine
end

section
/-!
PROOF. The link, the presence timer and what the transmit classes take (11_the_room_fabric.md, THE PORT, SENDING,
PRESENCE and LINK LOSS): what each class does with a message by the link and its room, what FU's judgement leaves alone
while the link is DOWN, the link's commands, and the statement assembled from them.
-/

namespace Sys2Proof.Machine

/-! ### What the classes take (R173, R177) -/

section Handed
variable {s : State}

theorem State.hand0_of_down (m : Out0) (h : s.fp.linkUp = false) : s.hand0 m = s := by
  simp [State.hand0, h]

theorem State.hand0_of_full (m : Out0) (hup : s.fp.linkUp = true) (h : 16 ≤ s.fp.class0.length) :
    s.hand0 m = s.latch .txDrop := by
  simp [State.hand0, hup, Config.class0Max, Nat.not_lt.2 h]

theorem State.handFrameClose_of_down (m : Out2) (h : s.fp.linkUp = false) : s.handFrameClose m = s := by
  simp [State.handFrameClose, h]

theorem State.handFrameClose_of_room (m : Out2) (hup : s.fp.linkUp = true) (h : s.fp.class2.length < 4) :
    s.handFrameClose m = s.setFP { s.fp with class2 := s.fp.class2 ++ [m] } := by
  simp [State.handFrameClose, hup, Config.class2Max, h]

theorem State.handFrameClose_of_full (m : Out2) (hup : s.fp.linkUp = true) (h : 4 ≤ s.fp.class2.length) :
    s.handFrameClose m = s.latch .txDrop := by
  simp [State.handFrameClose, hup, Config.class2Max, Nat.not_lt.2 h]

theorem State.handPresence_of_no_need (h : s.fp.linkUp = false ∨ Out2.presence ∈ s.fp.class2) :
    s.handPresence = s := by
  obtain ⟨-, hsame⟩ | ⟨hup, hnew, -⟩ | ⟨hup, hnew, -⟩ := s.handPresence_cases
  · exact hsame
  all_goals simp [hup, hnew] at h

theorem State.handPresence_of_room (hup : s.fp.linkUp = true) (hnew : Out2.presence ∉ s.fp.class2)
    (h : s.fp.class2.length < 4) :
    s.handPresence = s.setFP { s.fp with class2 := s.fp.class2 ++ [.presence] } := by
  simp [State.handPresence, hup, hnew, Config.class2Max, h]

/-- At a full class 2 the PRESENCE takes the place of the newest entry. -/
theorem State.handPresence_of_full {l : List Out2} {m : Out2} (hup : s.fp.linkUp = true)
    (hnew : Out2.presence ∉ s.fp.class2) (hl : s.fp.class2 = l ++ [m]) (h : 4 ≤ s.fp.class2.length) :
    s.handPresence = (s.setFP { s.fp with class2 := l ++ [.presence] }).latch .txDrop := by
  have hdrop : s.fp.class2.dropLast = l := by rw [hl, List.dropLast_concat]
  simp [State.handPresence, hup, hnew, Config.class2Max, Nat.not_lt.2 h, hdrop]

end Handed

/-! ### FU's judgement while the link is DOWN (R177) -/

/-- FP and SA are alike in two states. -/
def State.sameFpSa (s t : State) : Prop := t.fp = s.fp ∧ t.sa = s.sa

theorem State.sameFpSa.trans {s t u : State} (h : s.sameFpSa t) (g : t.sameFpSa u) : s.sameFpSa u :=
  ⟨g.1.trans h.1, g.2.trans h.2⟩

section Down
variable {s : State}

theorem State.sendInput_sameFpSa (r : SrcRec) (k : Snapshot) (b : Buttons) (f : Option PtrField) (w : Int)
    (h : s.fp.linkUp = false) : s.sameFpSa (s.sendInput r k b f w) := by
  simp [State.sameFpSa, State.sendInput, State.hand1_of_down _ h]

/-- A leave's INPUT and its CONTROL-RELEASE are both lost. -/
theorem State.runLeave_sameFpSa (r : SrcRec) (k : LeaveKind) (h : s.fp.linkUp = false) :
    s.sameFpSa (s.runLeave r k) := by
  have hsent : s.sameFpSa (s.leaveSent r) := by
    simpa [State.sameFpSa, State.leaveSent] using State.sendInput_sameFpSa r .released 0 none 0 h
  cases k with
  | clear => exact hsent
  | release =>
    have hdown : (s.leaveSent r).fp.linkUp = false := by rw [hsent.1, h]
    rw [State.runLeave_release, State.sendRelease, State.hand0_of_down _ hdown]
    simpa [State.sameFpSa] using hsent

theorem State.runLeaves_sameFpSa (l : List Nat) :
    ∀ {s : State}, s.fp.linkUp = false → s.sameFpSa (State.runLeaves l s) := by
  induction l with
  | nil => exact fun _ => ⟨rfl, rfl⟩
  | cons p rest ih =>
    intro s h
    unfold State.runLeaves
    split
    · split
      · exact ih h
      · split
        · exact ih h
        · rename_i d _ _ k _
          have hleft := State.runLeave_sameFpSa d k h
          exact hleft.trans (ih (by rw [hleft.1, h]))
    · exact ⟨rfl, rfl⟩

theorem State.buildInput_sameFpSa (r : SrcRec) (h : s.fp.linkUp = false) : s.sameFpSa (s.buildInput r) := by
  simp [State.sameFpSa, State.buildInput_fp, State.hand1_of_down _ h]

theorem State.judgeInput_sameFpSa (h : s.fp.linkUp = false) : s.sameFpSa s.judgeInput := by
  have hleaves := State.runLeaves_sameFpSa s.fu.leaveOrder h
  unfold State.judgeInput
  dsimp only
  split
  · exact hleaves
  · split
    · exact hleaves.trans (State.buildInput_sameFpSa _ (by rw [hleaves.1, h]))
    · exact hleaves

theorem State.judgeAtDesk_sameFpSa (h : s.fp.linkUp = false) : s.sameFpSa s.judgeAtDesk := by
  unfold State.judgeAtDesk
  split
  · exact State.judgeInput_sameFpSa h
  · exact ⟨rfl, rfl⟩

end Down

/-! ### The link's commands and the presence timer (R166, R175, R177, R178, R183) -/

/-- The state at the loss of the link, before FU judges what it has to send. -/
def State.linkLost (s : State) : State := s.setFP { s.fp.emptied with linkUp := false }

section Commands
variable {s : State}

theorem exec_linkUp_of_listening (hstarted : s.fp.started = true) (hdown : s.fp.linkUp = false)
    (h : s.sa.start = .listening) : exec .linkUp s = .next ((s.setFP { s.fp with linkUp := true }).setSA
      { s.sa with listen := some (s.sa.listen.getD s.now) }) := by
  simp [exec, execLinkUp, hstarted, hdown, h]

theorem exec_linkUp_of_serving (hstarted : s.fp.started = true) (hdown : s.fp.linkUp = false)
    (h : s.sa.start = .serving) : exec .linkUp s = .next (s.setFP { s.fp with linkUp := true }).askPresence := by
  simp [exec, execLinkUp, hstarted, hdown, h]

theorem exec_linkUp_of_no_change (h : s.fp.started = false ∨ s.fp.linkUp = true) : exec .linkUp s = .next s := by
  obtain h | h := h <;> simp [exec, execLinkUp, h]

theorem exec_linkDown_of_up (h : s.fp.linkUp = true) :
    exec .linkDown s = .next s.linkLost.judgeAtDesk :=
  if_pos h

theorem exec_linkDown_of_down (h : s.fp.linkUp = false) : exec .linkDown s = .next s := by
  simp [exec, execLinkDown, h]

theorem exec_presenceTimerExpiry_of_due (h : ranFor s.now s.pu.timer 250000) :
    exec .presenceTimerExpiry s = .next s.askPresence :=
  if_pos ((timerDue_iff ..).2 h)

end Commands

/-- Settles O24 (R166, R173, R175, R177, R178, R183): DOWN leaves nothing in the classes, and FU's judgement after it
hands them nothing; the rest is read off the commands and the classes one by one. -/
theorem linkAndPresenceTimer : Obligations.LinkAndPresenceTimer := by
  refine ⟨fun s hstarted hdown hstart => ⟨fun hl => ?first, fun u hl => ?later⟩,
    fun s => exec_linkUp_of_serving, fun s => exec_linkUp_of_no_change, fun s hup => ?down,
    fun s => exec_linkDown_of_down, fun s u hu h => exec_presenceTimerExpiry_of_due ⟨u, hu, h⟩, fun s => ?asked,
    fun s m => ⟨State.hand0_of_down m, State.hand0_of_room, State.hand0_of_full m⟩,
    fun s m => ⟨State.handFrameClose_of_down m, State.handFrameClose_of_room m, State.handFrameClose_of_full m⟩⟩
  case first => rw [exec_linkUp_of_listening hstarted hdown hstart, hl]; rfl
  case later =>
    have hkept : { s.sa with listen := some ((some u).getD s.now) } = s.sa := by rw [Option.getD_some, ← hl]
    rw [exec_linkUp_of_listening hstarted hdown hstart, hl, hkept]
    rfl
  case down =>
    obtain ⟨hfp, hsa⟩ : s.linkLost.sameFpSa s.linkLost.judgeAtDesk := State.judgeAtDesk_sameFpSa rfl
    refine ⟨_, exec_linkDown_of_up hup, ?_⟩
    rw [hfp, hsa]
    simp [State.linkLost, FP.emptied, State.sameSource]
  case asked =>
    refine ⟨fun h => ?_, fun hup hnew hroom => ?_, fun l m hup hnew hl hfull => ?_⟩ <;> rw [State.askPresence]
    · rw [State.handPresence_of_no_need h]
    · rw [State.handPresence_of_room hup hnew hroom]
    · rw [State.handPresence_of_full hup hnew hl hfull]

end Sys2Proof.Machine
end

section
/-!
PROOF. A frame received (11_the_room_fabric.md, RECEIVING): what becomes of a message that is well formed and fits, by
the clash check, the start state and its takers, the command by the frame's checks, and the statement assembled from
them.
-/

namespace Sys2Proof.Machine

@[simp] theorem SA.latch_has (a : SA) (c : Cond) : (a.latch c).latched.has c = true := by
  have hindex : c.index < 16 := by cases c <;> decide
  simp [SA.latch, SA.drive, CondSet.has, Cond.bit, hindex]

@[simp] theorem State.latch_start (s : State) (c : Cond) : (s.latch c).sa.start = s.sa.start := rfl

/-! ### A message that is well formed and fits (R166, R170, R171, R190) -/

section Accepted
variable {s : State} {m : RxMsg}

theorem State.accept_of_clash_listening (hk : m.kind = .presence) (hown : m.sender = s.fp.own)
    (h : s.sa.start = .listening) :
    s.accept m = (s.latch .stationClash).enterHalted := by
  simp [State.accept, hk, hown, h]

theorem State.accept_of_clash (hk : m.kind = .presence) (hown : m.sender = s.fp.own)
    (h : s.sa.start ≠ .listening) :
    s.accept m = s.latch .stationClash := by
  simp [State.accept, hk, hown, h]

variable (hc : ¬ (m.kind = .presence ∧ m.sender = s.fp.own))
include hc

theorem State.accept_of_not_serving (h : s.sa.start ≠ .serving) : s.accept m = s := by
  simp [State.accept, hc, h]

theorem State.accept_of_malformed (h : s.sa.start = .serving)
    (hbad : m.kind = .presence ∧ presenceOk m.role m.payload = false) : s.accept m = s.latch .malformed := by
  obtain ⟨hk, hbad⟩ := hbad
  have hother : m.sender ≠ s.fp.own := fun hown => hc ⟨hk, hown⟩
  simp [State.accept, hk, hother, h, hbad]

/-- A message that is no bad PRESENCE is held for its takers, and discarded when it has none. -/
theorem State.accept_of_ok (h : s.sa.start = .serving)
    (hok : ¬ (m.kind = .presence ∧ presenceOk m.role m.payload = false)) :
    s.accept m = if s.takersOf m = [] then s
      else s.setFP { s.fp with rx := s.fp.rx ++ [⟨m, s.takersOf m⟩] } := by
  simp [State.accept, hc, h, hok]

end Accepted

/-- A clash in LISTENING halts with the port stopped, the link DOWN and attention asserted (R170, R182; log 24). -/
theorem State.halted_of_clash (s : State) : let t := (s.latch .stationClash).enterHalted
    t.sa.start = .halted ∧ t.sa.latched.has .stationClash = true ∧ t.sa.attnN = false ∧ t.fp.started = false
      ∧ t.fp.linkUp = false ∧ t.pu.timer = none ∧ s.sameSource t ∧ s.sameDesk t := by
  have hlatched : (s.latch .stationClash).enterHalted.sa.latched.has .stationClash = true :=
    s.sa.latch_has .stationClash
  have hattn : (s.latch .stationClash).enterHalted.sa.attnN = false := (SA.drive_attnN _).2 (.inl rfl)
  exact ⟨rfl, hlatched, hattn, rfl, rfl, rfl, by simp [State.sameSource], by simp [State.sameDesk]⟩

/-! ### FRAME_RECEIVED (R168, R169, R172) -/

section Commands
variable {s : State} {fcs : Bool} {f : List Byte} {m : RxMsg}

theorem exec_frameReceived_of_dropped (h : s.fp.started = false ∨ s.fp.linkUp = false
    ∨ framePasses s.fp.own s.fp.typeCode s.fp.subs fcs f = false) : exec (.frameReceived fcs f) s = .next s := by
  obtain h | h | h := h <;> simp [exec, execFrameReceived, h]

variable (hstarted : s.fp.started = true) (hup : s.fp.linkUp = true)
  (hpass : framePasses s.fp.own s.fp.typeCode s.fp.subs fcs f = true)
include hstarted hup hpass

theorem exec_frameReceived_of_malformed (hm : readEnvelope s.fp.own f = none) :
    exec (.frameReceived fcs f) s = .next (s.latch .malformed) := by
  simp [exec, execFrameReceived, hstarted, hup, hpass, hm]

theorem exec_frameReceived_of_overflow (hm : readEnvelope s.fp.own f = some m)
    (h : 262144 < s.fp.rxHeld + m.size) : exec (.frameReceived fcs f) s = .next (s.latch .rxOverflow) := by
  simp [exec, execFrameReceived, hstarted, hup, hpass, hm, Config.rxBytes, Nat.not_le.2 h]

theorem exec_frameReceived_of_fit (hm : readEnvelope s.fp.own f = some m)
    (h : s.fp.rxHeld + m.size ≤ 262144) : exec (.frameReceived fcs f) s = .next (s.accept m) := by
  simp [exec, execFrameReceived, hstarted, hup, hpass, hm, Config.rxBytes, h]

end Commands

/-- Settles O26 (R166, R168 to R172, R175, R190): a frame that passes its checks and fits comes to what its message is
accepted as. -/
theorem frameReceivedResult : Obligations.FrameReceivedResult := by
  refine fun fcs f s => ⟨exec_frameReceived_of_dropped, fun hstarted hup hpass =>
    ⟨exec_frameReceived_of_malformed hstarted hup hpass, fun m hm =>
      ⟨exec_frameReceived_of_overflow hstarted hup hpass hm, fun hfit => ?_⟩⟩⟩
  rw [exec_frameReceived_of_fit hstarted hup hpass hm hfit]
  refine ⟨fun hk hown h => ?clashListening, fun hk hown h => ?clash, fun hc h => ?early,
    fun hc h => ⟨fun hbad => ?malformed, fun hok => ⟨fun hnone => ?discarded, fun htakers => ?held⟩⟩⟩
  case clashListening =>
    rw [State.accept_of_clash_listening hk hown h]
    exact ⟨_, rfl, s.halted_of_clash⟩
  case clash => rw [State.accept_of_clash hk hown h]
  case early => rw [State.accept_of_not_serving hc h]
  case malformed => rw [State.accept_of_malformed hc h hbad]
  case discarded => rw [State.accept_of_ok hc h hok, if_pos hnone]
  case held => rw [State.accept_of_ok hc h hok, if_neg htakers]

end Sys2Proof.Machine
end

section
/-!
PROOF. The transmit arbiter (11_the_room_fabric.md, SENDING): what it does with an entry of each class when the classes
below are empty, and the statement assembled from them.
-/

namespace Sys2Proof.Machine

/-! ### An entry of each class taken (R133, R167, R174, R186) -/

/-- A stream's message bears the sequence that the stream then has. -/
theorem State.sendStream_eq (s : State) (c : Fin 2) (k : Kind) (p : List Byte) :
    s.sendStream c k p = (s.setFP { s.fp with
      sending := some (buildFrame s.fp.own s.fp.typeCode s.role (streamAddress ⟨s.fp.own, c⟩) k 0 c
        ((s.ts.ch.get c).seq + 1).toNat p) }).setTS { s.ts with
          ch := s.ts.ch.set c { s.ts.ch.get c with seq := (s.ts.ch.get c).seq + 1 } } := by
  have hseq : ((s.nextSeq c).ts.ch.get c).seq = (s.ts.ch.get c).seq + 1 := by
    simp [State.nextSeq, State.setTsChannel]
  rw [State.sendStream, hseq]
  rfl

section Taken
variable {s : State}

theorem State.arbiterTake_of_class0 {m : Out0} {r : List Out0} (h0 : s.fp.class0 = m :: r) :
    s.arbiterTake = s.setFP { s.fp with
      class0 := r
      sending := some (buildFrame s.fp.own s.fp.typeCode s.role (endpointAddress m.parts.2.1) m.parts.1
        m.parts.2.1 m.parts.2.2.1 0 m.parts.2.2.2) } := by
  simp only [State.arbiterTake, h0]
  rfl

variable (h0 : s.fp.class0 = [])
include h0

theorem State.arbiterTake_of_class1 {m : OutInput} {r : List OutInput} (h1 : s.fp.class1 = m :: r) :
    s.arbiterTake = s.setFP { s.fp with
      class1 := r
      sending := some (buildFrame s.fp.own s.fp.typeCode s.role (endpointAddress m.target) .input m.target 0
        m.seq.toNat (inputBytes m)) } := by
  simp only [State.arbiterTake, h0, h1]
  rfl

variable (h1 : s.fp.class1 = [])
include h1

/-- The PRESENCE is built before its pulse conditions are cleared. -/
theorem State.arbiterTake_of_presence {r : List Out2} (h2 : s.fp.class2 = .presence :: r) :
    s.arbiterTake = (s.setFP { s.fp with
      class2 := r
      sending := some (buildFrame s.fp.own s.fp.typeCode s.role allAddress .presence 0 0 0
        s.presencePayload) }).setSA s.sa.clearPulses := by
  simp only [State.arbiterTake, h0, h1, h2]
  rfl

theorem State.arbiterTake_of_frameClose {c : Fin 2} {f : BitVec 32} {e : Byte} {z : Size} {d : Nat} {r : List Out2}
    (h2 : s.fp.class2 = .frameClose c f e z d :: r) :
    s.arbiterTake
      = (s.setFP { s.fp with class2 := r }).sendStream c .frameClose (frameCloseBytes f e z d) := by
  simp only [State.arbiterTake, h0, h1, h2]
  rfl

theorem State.arbiterTake_of_tile {m : OutTile} (h2 : s.fp.class2 = []) (h3 : s.fp.class3 = some m) :
    s.arbiterTake = (s.setFP { s.fp with class3 := none }).sendStream m.channel .tile (tileBytes m) := by
  simp only [State.arbiterTake, h0, h1, h2, h3]

end Taken

/-! ### The statement -/

/-- FU judges at a serving desk alone (R61, R67). -/
theorem State.judgeAtDesk_of_not_desk {s : State} (h : s.servingAs .desk = false) : s.judgeAtDesk = s := by
  simp [State.judgeAtDesk, h]

theorem exec_transmitArbiterTake_of_down {s : State} (h : s.fp.linkUp = false) :
    exec .transmitArbiterTake s = .next s := by
  simp [exec, execTransmitArbiterTake, h]

theorem exec_transmitArbiterTake_of_up {s : State} (h : s.fp.linkUp = true) :
    exec .transmitArbiterTake s = .next s.arbiterTake.judgeAtDesk :=
  if_pos h

/-- Settles O27 (R133, R167, R174, R176, R186): one case for each class, and two for class 2. -/
theorem arbiterTakesLowestClass : Obligations.ArbiterTakesLowestClass := by
  refine fun s => ⟨exec_transmitArbiterTake_of_down, State.judgeAtDesk_of_not_desk, fun hup => ?_⟩
  rw [exec_transmitArbiterTake_of_up hup]
  refine ⟨fun m r h0 => ?_, fun m r h0 h1 => ?_, fun r h0 h1 h2 => ?_, fun c f e z d r h0 h1 h2 => ?_,
    fun m h0 h1 h2 h3 => ?_⟩
  · rw [State.arbiterTake_of_class0 h0]
  · rw [State.arbiterTake_of_class1 h0 h1]
  · rw [State.arbiterTake_of_presence h0 h1 h2]; rfl
  · rw [State.arbiterTake_of_frameClose h0 h1 h2, State.sendStream_eq]; rfl
  · rw [State.arbiterTake_of_tile h0 h1 h2 h3, State.sendStream_eq]; rfl

end Sys2Proof.Machine
end

section
/-!
PROOF. A checked image (12_start_up_configuration_and_attention.md, THE CONFIGURATION IMAGE): what the check of a body
comes to, what a refusal leaves, and the statement about a refused image.
-/

namespace Sys2Proof.Machine

/-! ### The check of a body (R181, R182) -/

/-- The head records filled, and HEAD-INVALID raised when one fails: what the check of a desk's body does whatever the
other fields give (R1, R3; log 14). -/
def State.headsRead (s : State) (b : List Byte) : State :=
  let u := s.setCP { s.cp with heads := readHeads b }
  if anyInvalid (readHeads b) then u.raise .headInvalid else u

section Checked
variable (s : State) {b : List Byte}

theorem State.checkDesk_of_refused (hb : deskOk b = false) : s.checkDesk b = (s.headsRead b).refuse := by
  unfold State.checkDesk State.headsRead
  dsimp only
  split
  · rw [hb]; rfl
  · rfl

/-- A body whose refusing fields are in range has a VALID head and a lead. -/
theorem State.checkDesk_of_accepted (hb : deskOk b = true) :
    ∃ h lead, s.checkDesk b = (s.headsRead b).acceptDesk b h lead := by
  have hsome : (lowestValid (readHeads b)).isSome = true ∧ (readLead b).isSome = true := by
    simp only [deskOk, Bool.and_eq_true] at hb
    tauto
  obtain ⟨⟨h, hhead⟩, lead, hlead⟩ := hsome.imp Option.isSome_iff_exists.1 Option.isSome_iff_exists.1
  exact ⟨h, lead, by simp [State.checkDesk, State.headsRead, hhead, hlead, hb]⟩

/-- The heads read set their records, and of SA the condition HEAD-INVALID alone. -/
@[simp] theorem State.headsRead_frame (b : List Byte) :
    (s.headsRead b).sa.imageOk = s.sa.imageOk ∧ (s.headsRead b).sa.fabricUp = s.sa.fabricUp
      ∧ (s.headsRead b).sa.serving = s.sa.serving ∧ (s.headsRead b).sa.mask = s.sa.mask ∧ (s.headsRead b).cu = s.cu
      ∧ (s.headsRead b).ts = s.ts ∧ (s.headsRead b).ca = s.ca ∧ (s.headsRead b).wp = s.wp
      ∧ (s.headsRead b).ii = s.ii ∧ (s.headsRead b).fu = s.fu ∧ (s.headsRead b).sr = s.sr
      ∧ (s.headsRead b).hu = s.hu := by
  unfold State.headsRead
  dsimp only
  split <;> simp [State.raise, SA.raise, SA.drive]

/-- What a refusal leaves (R168, R172, R175, R182; log 24). -/
theorem State.halted_of_refusal : let t := s.refuse
    t.sa.start = .halted ∧ t.sa.latched.has .imageFault = true ∧ t.sa.attnN = false ∧ t.sa.imageOk = s.sa.imageOk
      ∧ t.sa.fabricUp = s.sa.fabricUp ∧ t.sa.serving = s.sa.serving ∧ t.sa.mask = s.sa.mask
      ∧ t.fp.started = false ∧ t.fp.linkUp = false ∧ t.fp.subs = [] ∧ t.fp.rx = [] ∧ t.pu.timer = none
      ∧ s.sameSource t ∧ t.ii = s.ii ∧ t.fu = s.fu ∧ t.sr = s.sr ∧ t.hu = s.hu := by
  have hlatched : s.refuse.sa.latched.has .imageFault = true := s.sa.latch_has .imageFault
  have hattn : s.refuse.sa.attnN = false := (SA.drive_attnN _).2 (.inl rfl)
  exact ⟨rfl, hlatched, hattn, rfl, rfl, rfl, rfl, rfl, rfl, rfl, rfl, rfl, by simp [State.sameSource], by simp⟩

end Checked

/-! ### IMAGE_READ_COMPLETE, refused (R180, R182) -/

section Commands
variable {s : State} {flash b : List Byte} (hreading : s.sa.start = .reading)
include hreading

theorem exec_imageReadComplete_of_no_image (h : imageBody s.role flash = none) :
    exec (.imageReadComplete flash) s = .next s.refuse := by
  simp [exec, execImageReadComplete, hreading, h]

theorem exec_imageReadComplete_of_desk (hrole : s.role = .desk) (h : imageBody s.role flash = some b) :
    exec (.imageReadComplete flash) s = .next (s.checkDesk b) := by
  rw [hrole] at h
  simp [exec, execImageReadComplete, hreading, hrole, h]

theorem exec_imageReadComplete_of_source (hrole : s.role = .source) (h : imageBody s.role flash = some b) :
    exec (.imageReadComplete flash) s = .next (s.checkSource b) := by
  rw [hrole] at h
  simp [exec, execImageReadComplete, hreading, hrole, h]

end Commands

/-- Settles O21 (R166, R168, R172, R175, R180 to R182): a refusal comes of the state as it stands, or, where a desk's
body was read, of that state with its heads read. -/
theorem imageRefused : Obligations.ImageRefused := by
  rintro flash s hreading (hnone | ⟨b, hbody, hdesk, hsource⟩)
  · exact ⟨_, exec_imageReadComplete_of_no_image hreading hnone, s.halted_of_refusal⟩
  · cases hrole : s.role with
    | source =>
      refine ⟨_, exec_imageReadComplete_of_source hreading hrole hbody, ?_⟩
      rw [State.checkSource, hsource hrole]
      exact s.halted_of_refusal
    | desk =>
      refine ⟨_, exec_imageReadComplete_of_desk hreading hrole hbody, ?_⟩
      rw [s.checkDesk_of_refused (hdesk hrole)]
      simpa [State.sameSource] using (s.headsRead b).halted_of_refusal

end Sys2Proof.Machine
end

section
/-!
PROOF. The end of the listen (12_start_up_configuration_and_attention.md, THE STAGES): the contexts made for a layout's
streams, the records made for its sources, what the focus change from none can set, what each role begins, and the
statement.
-/

namespace Sys2Proof.Machine

/-! ### The streams of a layout are at most the heads (R7) -/

theorem length_distinct_le {α : Type} [DecidableEq α] (l : List α) : (distinct l).length ≤ l.length := by
  have key (l acc : List α) :
      (l.foldl (fun acc x => if acc.contains x then acc else acc ++ [x]) acc).length ≤ acc.length + l.length := by
    induction l generalizing acc with
    | nil => simp
    | cons x r ih =>
      have hr := ih (if acc.contains x then acc else acc ++ [x])
      have hx : (if acc.contains x then acc else acc ++ [x]).length ≤ acc.length + 1 := by split <;> simp
      simp only [List.foldl_cons, List.length_cons]
      omega
  exact (key l []).trans (by simp)

theorem CP.length_streams_le (c : CP) : c.streams.length ≤ 4 :=
  (length_distinct_le _).trans (List.length_filterMap_le c.shown headNumbers)

/-! ### Contexts made (R137, R138) -/

/-- Four regions serve at most four contexts: with fewer, one is free. -/
theorem SR.exists_freeRegion {r : SR} (h : r.ctxs.length < 4) : ∃ n, r.freeRegion = some n := by
  rw [← Option.isSome_iff_exists, Option.isSome_iff_ne_none]
  intro hnone
  have hall : Finset.univ ⊆ (r.ctxs.map Ctx.region).toFinset := by
    intro n _
    have hn : n ∈ headNumbers := by revert n; decide
    simpa using List.find?_eq_none.1 hnone n hn
  have hcard := (Finset.card_le_card hall).trans (List.toFinset_card_le _)
  rw [Finset.card_univ, Fintype.card_fin, List.length_map] at hcard
  omega

/-- A context as it is made (R137). -/
def Ctx.asMade (c : Ctx) : Prop := c.state = .waiting ∧ c.epoch = none ∧ c.mode = none

/-- Streams for which there is room each get a context and a subscription, in their order. -/
theorem State.foldl_makeCtx (l : List Stream) : ∀ {s : State}, s.sr.ctxs.length + l.length ≤ 4 →
    (∀ c ∈ s.sr.ctxs, c.asMade) → let t := l.foldl State.makeCtx s
    t.sr.ctxs.map Ctx.stream = s.sr.ctxs.map Ctx.stream ++ l ∧ (∀ c ∈ t.sr.ctxs, c.asMade)
      ∧ t.fp = { s.fp with subs := s.fp.subs ++ l } := by
  induction l with
  | nil => intro s _ hnew; simpa using hnew
  | cons x r ih =>
    intro s hroom hnew
    rw [List.length_cons] at hroom
    obtain ⟨n, hn⟩ := SR.exists_freeRegion (r := s.sr) (by omega)
    have hctxs : (s.makeCtx x).sr.ctxs = s.sr.ctxs ++ [newCtx x n] := by simp [State.makeCtx, hn, SR.clear]
    have hfp : (s.makeCtx x).fp = { s.fp with subs := s.fp.subs ++ [x] } := by simp [State.makeCtx, hn]
    obtain ⟨hstreams, hmade, hport⟩ := ih (s := s.makeCtx x) (by rw [hctxs]; simp; omega) (by
      rw [hctxs]
      simpa [or_imp, forall_and, Ctx.asMade, newCtx] using hnew)
    refine ⟨?_, hmade, ?_⟩
    · rw [List.foldl_cons, hstreams, hctxs]
      simp [newCtx]
    · rw [List.foldl_cons, hport, hfp]
      simp

/-! ### Records made, and the focus change from none (R51, R52) -/

/-- An empty table takes a record, IDLE, for each source of the layout, in its order. -/
theorem State.fillRecords_of_empty {s : State} (h : s.fu.records = []) :
    s.fillRecords.fu.records = s.cp.sources.map fun p => newRecord p (s.cp.watched p) s.now := by
  simp [State.fillRecords, h]

section Focus
variable (s : State)

@[simp] theorem State.hand0_port (m : Out0) :
    (s.hand0 m).fp.linkUp = s.fp.linkUp ∧ (s.hand0 m).fp.class2 = s.fp.class2 ∧ (s.hand0 m).fp.subs = s.fp.subs := by
  obtain ⟨-, e⟩ | ⟨-, -, e⟩ | ⟨-, -, e⟩ := s.hand0_cases m <;> simp [e]

theorem FU.put_stations (f : FU) (r : SrcRec) :
    (f.put r).records.map SrcRec.station = f.records.map SrcRec.station := by
  simp only [FU.put, List.map_map]
  exact List.map_congr_left fun q _ => by simp only [Function.comp]; split <;> simp_all

@[simp] theorem State.moveRecord_stations (r : SrcRec) (st : RecState) :
    (s.moveRecord r st).fu.records.map SrcRec.station = s.fu.records.map SrcRec.station := by
  unfold State.moveRecord State.leftHolding State.enteredHolding State.putRecord
  dsimp only
  (repeat' split) <;> simp [FU.put_stations]

/-- A request at the beginning leaves class 2 and the subscriptions, gives SA a TX-DROP at most, and adds no record. -/
@[simp] theorem State.autoRequest_begins (q : Option Nat) :
    (s.autoRequest q).fp.linkUp = s.fp.linkUp ∧ (s.autoRequest q).fp.class2 = s.fp.class2
      ∧ (s.autoRequest q).fp.subs = s.fp.subs ∧ (s.autoRequest q).sa.sansDrop = s.sa.sansDrop
      ∧ (s.autoRequest q).fu.records.map SrcRec.station = s.fu.records.map SrcRec.station := by
  unfold State.autoRequest State.requestSource; (repeat' split) <;> simp

theorem State.autoRequest_of_off {s : State} (h : s.fu.autoRequest = false) (q : Option Nat) : s.autoRequest q = s := by
  unfold State.autoRequest; (repeat' split) <;> simp_all

@[simp] theorem State.focusFrom_none_begins :
    (s.focusFrom none).fp.linkUp = s.fp.linkUp ∧ (s.focusFrom none).fp.class2 = s.fp.class2
      ∧ (s.focusFrom none).fp.subs = s.fp.subs ∧ (s.focusFrom none).sa.sansDrop = s.sa.sansDrop
      ∧ (s.focusFrom none).fu.records.map SrcRec.station = s.fu.records.map SrcRec.station := by
  unfold State.focusFrom State.focusChange State.leaveFocus; split <;> simp

theorem State.focusFrom_none_records {s : State} (h : s.fu.autoRequest = false) :
    (s.focusFrom none).fu.records = s.fu.records := by
  by_cases hp : s.cp.focusSource = none
  · rw [State.focusFrom_of_eq hp]
  · rw [State.focusFrom_of_ne hp, State.focusChange, State.autoRequest_of_off (by exact h)]
    simp [State.leaveFocus]

end Focus

/-! ### What each role begins (R35, R91, R152, R163, R184) -/

/-- A TX-DROP latched has no part in the stages, nor in the current conditions. -/
theorem SA.stages_of_sansDrop_eq {a b : SA} (h : a.sansDrop = b.sansDrop) : a.start = b.start
    ∧ a.fabricUp = b.fabricUp ∧ a.serving = b.serving ∧ a.listen = b.listen ∧ a.current = b.current :=
  ⟨(congrArg SA.start h :), (congrArg SA.fabricUp h :), (congrArg SA.serving h :), (congrArg SA.listen h :),
    (congrArg SA.current h :)⟩

/-- The state with SA as it is at the listen's end (R183). -/
def State.stagesSet (s : State) : State :=
  s.setSA { s.sa with start := .serving, fabricUp := true, serving := true, listen := none }

@[simp] theorem State.stagesSet_frame (s : State) :
    s.stagesSet.now = s.now ∧ s.stagesSet.fp = s.fp ∧ s.stagesSet.cu = s.cu ∧ s.stagesSet.ts = s.ts
      ∧ s.stagesSet.ca = s.ca ∧ s.stagesSet.wp = s.wp ∧ s.stagesSet.ii = s.ii ∧ s.stagesSet.cp = s.cp
      ∧ s.stagesSet.fu = s.fu ∧ s.stagesSet.sr = s.sr ∧ s.stagesSet.hu = s.hu := by
  simp [State.stagesSet]

/-- The desk's tables as the start layout gives them, before the focus change from none. -/
def State.tablesMade (s : State) : State := (s.cp.streams.foldl State.makeCtx s).placeAll.fillRecords

section Begun
variable {s : State}

/-- The PRESENCE asked of an empty class 2. -/
theorem State.askPresence_of_empty (hup : s.fp.linkUp = true) (h : s.fp.class2 = []) :
    s.askPresence.sa = s.sa ∧ s.askPresence.fp.subs = s.fp.subs ∧ s.askPresence.fp.class2 = [.presence]
      ∧ s.askPresence.pu.timer = some s.now := by
  rw [State.askPresence, State.handPresence_of_room hup (by simp [h]) (by simp [h]), h]
  exact ⟨rfl, rfl, rfl, rfl⟩

theorem exec_listenTimerExpiry_of_due (hlistening : s.sa.start = .listening) (hran : ranFor s.now s.sa.listen 1000000) :
    exec .listenTimerExpiry s = .next (match s.role with
      | .desk => s.stagesSet.beginDesk.askPresence
      | .source => s.stagesSet.wpBegin.askPresence) := by
  have hdue : timerDue s.now s.sa.listen Config.listenUs = true := (timerDue_iff ..).2 hran
  cases hrole : s.role <;> simp [exec, execListenTimerExpiry, hlistening, hdue, hrole, State.stagesSet]

theorem exec_listenTimerExpiry_of_not_due (h : ¬ (s.sa.start = .listening ∧ ranFor s.now s.sa.listen 1000000)) :
    exec .listenTimerExpiry s = .next s :=
  if_neg (by rwa [Bool.and_eq_true, timerDue_iff, decide_eq_true_iff])

end Begun

section Desk
variable (s : State)

@[simp] theorem State.tablesMade_frame :
    s.tablesMade.now = s.now ∧ s.tablesMade.sa = s.sa ∧ s.tablesMade.ii = s.ii ∧ s.tablesMade.cp = s.cp
      ∧ s.tablesMade.hu = s.hu ∧ s.tablesMade.fu.autoRequest = s.fu.autoRequest := by
  simp [State.tablesMade, State.fillRecords]

/-- The host ports, the heads and the pointer field apart, a desk begins with its tables and the focus change. -/
theorem State.beginDesk_tables :
    s.beginDesk.sa = (s.tablesMade.focusFrom none).sa ∧ s.beginDesk.fp = (s.tablesMade.focusFrom none).fp
      ∧ s.beginDesk.fu = (s.tablesMade.focusFrom none).fu ∧ s.beginDesk.sr = s.tablesMade.sr := by
  simp [State.beginDesk, State.tablesMade]

theorem State.beginDesk_port (i : Fin 2) :
    (s.beginDesk.ii.ports.get i).state = .detached ∧ (s.beginDesk.ii.ports.get i).vbusEn = true := by
  match i with
  | 0 => simp [State.beginDesk, Pair.get, HostPort.power]
  | 1 => simp [State.beginDesk, Pair.get, HostPort.power]

theorem State.beginDesk_running (h : Fin 4) :
    (s.beginDesk.hu.heads.get h).running = true ↔ (s.cp.heads.get h).validity = .valid := by
  have hcp : (s.tablesMade.focusFrom none).cp.withWheel 0 = s.cp.withWheel 0 := by simp
  have hheads : (s.tablesMade.focusFrom none).cp.heads = s.cp.heads := (congrArg CP.heads hcp :)
  simp only [State.tablesMade] at hheads
  simp [State.beginDesk, State.recomputeHeads, HU.begin, hheads]

theorem State.beginDesk_minute :
    s.beginDesk.hu.minute = (if s.hu.tBlank = 0 then none else some s.now) ∧ s.beginDesk.hu.count = 0 := by
  simp [State.beginDesk, State.recomputeHeads, HU.begin]

variable {s}

/-- The tables of an endpoint that has none become those of its start layout (R52, R137, R139). -/
theorem State.tablesMade_of_none (h : s.NoTables) : let t := s.tablesMade
    t.sr.ctxs.map Ctx.stream = s.cp.streams ∧ (∀ c ∈ t.sr.ctxs, c.asMade)
      ∧ t.fp = { s.fp with subs := s.cp.streams }
      ∧ t.fu.records = s.cp.sources.map fun p => newRecord p (s.cp.watched p) s.now := by
  obtain ⟨hctxs, hsubs, hrecords, -⟩ := h
  obtain ⟨hstreams, hmade, hfp⟩ := State.foldl_makeCtx s.cp.streams (s := s)
    (by simpa [hctxs] using s.cp.length_streams_le) (by simp [hctxs])
  rw [hctxs] at hstreams
  rw [hsubs] at hfp
  have hplaced : (s.cp.streams.foldl State.makeCtx s).placeAll.fu.records = [] := by simpa using hrecords
  have hfill := State.fillRecords_of_empty hplaced
  refine ⟨?_, ?_, ?_, ?_⟩
  · simpa [State.tablesMade, State.placeAll] using hstreams
  · simpa [State.tablesMade, State.placeAll] using hmade
  · simpa [State.tablesMade] using hfp
  · simpa [State.tablesMade] using hfill

/-- What a desk without tables holds once it has begun. -/
theorem State.beginDesk_of_none (h : s.NoTables) : let t := s.beginDesk
    t.sr.ctxs.map Ctx.stream = s.cp.streams ∧ (∀ c ∈ t.sr.ctxs, c.asMade) ∧ t.fp.subs = s.cp.streams
      ∧ t.fp.linkUp = s.fp.linkUp ∧ t.fp.class2 = s.fp.class2
      ∧ t.fu.records.map SrcRec.station = s.cp.sources
      ∧ (s.fu.autoRequest = false → ∀ r ∈ t.fu.records, r.state = .idle) := by
  obtain ⟨hstreams, hmade, hfp, hrecords⟩ := State.tablesMade_of_none h
  have hstations : s.tablesMade.fu.records.map SrcRec.station = s.cp.sources := by
    simp [hrecords, newRecord, Function.comp_def]
  obtain ⟨-, hfp', hfu, hsr⟩ := s.beginDesk_tables
  dsimp only
  rw [hfp', hfu, hsr]
  refine ⟨hstreams, hmade, by simp [hfp], by simp [hfp], by simp [hfp], by simpa using hstations, fun hoff => ?_⟩
  rw [State.focusFrom_none_records (by simpa using hoff), hrecords]
  simp [newRecord]

/-- Beginning gives SA a TX-DROP at most. -/
theorem State.beginDesk_stages : s.beginDesk.sa.start = s.sa.start ∧ s.beginDesk.sa.fabricUp = s.sa.fabricUp
    ∧ s.beginDesk.sa.serving = s.sa.serving ∧ s.beginDesk.sa.listen = s.sa.listen := by
  have hsa : s.beginDesk.sa.sansDrop = s.sa.sansDrop := by simp [State.beginDesk_tables]
  obtain ⟨hstart, hfabric, hserving, hlisten, -⟩ := SA.stages_of_sansDrop_eq hsa
  exact ⟨hstart, hfabric, hserving, hlisten⟩

end Desk

section Source
variable (s : State)

@[simp] theorem State.wpBusReset_begins :
    s.wpBusReset.sa.sansDrop = s.sa.sansDrop ∧ s.wpBusReset.wp = s.wp.busReset
      ∧ s.wpBusReset.fp.linkUp = s.fp.linkUp ∧ s.wpBusReset.fp.class2 = s.fp.class2 := by
  unfold State.wpBusReset State.lampsToHolder State.lampsTo; split <;> simp

theorem State.wpBegin_of_power {s : State} (h : s.wp.vbus = true) : s.wpBegin = s.wpBusReset := if_pos h

theorem State.wpBegin_of_no_power {s : State} (h : s.wp.vbus = false) : s.wpBegin = s.raise .workstationDetached :=
  if_neg (by simp [h])

theorem State.wpBegin_port : s.wpBegin.fp.linkUp = s.fp.linkUp ∧ s.wpBegin.fp.class2 = s.fp.class2 := by
  unfold State.wpBegin; split <;> simp

theorem State.wpBegin_stages : s.wpBegin.sa.start = s.sa.start ∧ s.wpBegin.sa.fabricUp = s.sa.fabricUp
    ∧ s.wpBegin.sa.serving = s.sa.serving ∧ s.wpBegin.sa.listen = s.sa.listen := by
  unfold State.wpBegin
  split
  · simp [SA.stages_of_sansDrop_eq s.wpBusReset_begins.1]
  · exact ⟨rfl, rfl, rfl, rfl⟩

theorem SA.raise_has (a : SA) (c : Cond) :
    (a.raise c).current.has c = true ∧ (a.raise c).latched.has c = true := by
  have hindex : c.index < 16 := by cases c <;> decide
  simp [SA.raise, SA.drive, CondSet.has, Cond.bit, hindex]

end Source

/-! ### The statement -/

/-- Settles O25 (R35, R52, R91, R137, R152, R163, R175, R183, R184): the stages are set, the role begins, and class 2,
still empty then, takes the PRESENCE that both roles ask for. -/
theorem servingBegins : Obligations.ServingBegins := by
  refine ⟨fun s u hlistening hu hran hrole hnone hup hempty => ?desk,
    fun s u hlistening hu hran hrole hup hempty => ?source⟩
  case desk =>
    have hexec := exec_listenTimerExpiry_of_due hlistening ⟨u, hu, hran⟩
    obtain ⟨hstreams, hmade, hsubs, hlink, hclass, hstations, hidle⟩ :=
      State.beginDesk_of_none (s := s.stagesSet) hnone
    have hasked := State.askPresence_of_empty (hlink.trans (by simpa using hup)) (hclass.trans (by simpa using hempty))
    refine ⟨s.stagesSet.beginDesk.askPresence, by simpa [hrole] using hexec, ?_⟩
    simp only [hasked, State.askPresence_frame, State.beginDesk_frame, State.beginDesk_stages, State.beginDesk_port,
      State.beginDesk_running, State.beginDesk_minute, State.sameSource, State.stagesSet_frame] at *
    exact ⟨rfl, rfl, rfl, rfl, hstreams, hmade, hsubs, hstations, hidle, by simp⟩
  case source =>
    have hexec := exec_listenTimerExpiry_of_due hlistening ⟨u, hu, hran⟩
    obtain ⟨hlink, hclass⟩ := s.stagesSet.wpBegin_port
    have hasked := State.askPresence_of_empty (hlink.trans (by simpa using hup)) (hclass.trans (by simpa using hempty))
    refine ⟨s.stagesSet.wpBegin.askPresence, by simpa [hrole] using hexec, ?_⟩
    simp only [hasked, State.askPresence_frame, State.wpBegin_frame, State.wpBegin_stages, State.sameDesk,
      State.stagesSet_frame, true_and]
    refine ⟨rfl, rfl, rfl, rfl, fun hpower => ?power, fun hpower => ?noPower, by simp⟩
    case power =>
      rw [State.wpBegin_of_power (s := s.stagesSet) hpower]
      obtain ⟨-, -, -, -, hcurrent⟩ := SA.stages_of_sansDrop_eq s.stagesSet.wpBusReset_begins.1
      exact ⟨by simp, hcurrent, by simp [WP.busReset]⟩
    case noPower =>
      rw [State.wpBegin_of_no_power (s := s.stagesSet) hpower]
      exact ⟨rfl, s.stagesSet.sa.raise_has .workstationDetached⟩

end Sys2Proof.Machine
end

section
/-!
PROOF. Attention (12_start_up_configuration_and_attention.md, ATTENTION): each of SA's operations drives ATTN_N anew or
touches nothing that the rule names, so whatever latches, raises or clears a condition keeps the rule. The start is
apart, for it changes the start state and loads the mask set. Then the commands, block by block, and the statement.
-/

namespace Sys2Proof.Machine

/-! ### SA's own operations (R185 to R188) -/

/-- Driving ATTN_N brings the rule about, whatever the level was before. -/
theorem State.setSA_drive_attnRule (s : State) {a : SA} (h : a.start = .reading → a.mask = none) :
    (s.setSA a.drive).AttnRule := ⟨a.drive_attnN, h⟩

/-- In HALTED attention is asserted (R182). -/
@[simp] theorem State.enterHalted_attnRule (s : State) : s.enterHalted.AttnRule := s.setSA_drive_attnRule nofun

/-- A current bit has no part in the rule. -/
@[simp] theorem State.setCurrent_attnRule (s : State) (c : Cond) (b : Bool) :
    (s.setCurrent c b).AttnRule ↔ s.AttnRule := Iff.rfl

section Flags
variable {s : State} (h : s.AttnRule)
include h

@[simp] theorem State.latch_attnRule (c : Cond) : (s.latch c).AttnRule := s.setSA_drive_attnRule h.2

@[simp] theorem State.raise_attnRule (c : Cond) : (s.raise c).AttnRule := s.setSA_drive_attnRule h.2

@[simp] theorem State.acknowledge_attnRule (t : State) : (t.setSA s.sa.acknowledge).AttnRule :=
  t.setSA_drive_attnRule h.2

@[simp] theorem State.clearPulses_attnRule (t : State) : (t.setSA s.sa.clearPulses).AttnRule :=
  t.setSA_drive_attnRule h.2

end Flags

/-! ### What leaves SA alone -/

section Frames
variable (s : State)

/-- Replacing another block keeps the rule; so, below, do the operations that leave SA alone, each family of them in
one conjunction that simp takes part by part. -/
@[simp] theorem State.set_attnRule :
    (∀ b, (s.setPU b).AttnRule ↔ s.AttnRule) ∧ (∀ b, (s.setFP b).AttnRule ↔ s.AttnRule)
      ∧ (∀ b, (s.setCU b).AttnRule ↔ s.AttnRule) ∧ (∀ b, (s.setTS b).AttnRule ↔ s.AttnRule)
      ∧ (∀ b, (s.setCA b).AttnRule ↔ s.AttnRule) ∧ (∀ b, (s.setWP b).AttnRule ↔ s.AttnRule)
      ∧ (∀ b, (s.setII b).AttnRule ↔ s.AttnRule) ∧ (∀ b, (s.setCP b).AttnRule ↔ s.AttnRule)
      ∧ (∀ b, (s.setFU b).AttnRule ↔ s.AttnRule) ∧ (∀ b, (s.setSR b).AttnRule ↔ s.AttnRule)
      ∧ (∀ b, (s.setHU b).AttnRule ↔ s.AttnRule) := by
  simp [State.AttnRule]

@[simp] theorem State.sourceFrames_attnRule :
    (∀ m, (s.handTile m).AttnRule ↔ s.AttnRule) ∧ (∀ i c, (s.setChannel i c).AttnRule ↔ s.AttnRule)
      ∧ (∀ i k, (s.setTsChannel i k).AttnRule ↔ s.AttnRule) ∧ (s.fullRefresh.AttnRule ↔ s.AttnRule)
      ∧ (s.refreshTrigger.AttnRule ↔ s.AttnRule) ∧ (∀ i, (s.wpInput i).AttnRule ↔ s.AttnRule)
      ∧ (∀ a, (s.answer a).AttnRule ↔ s.AttnRule) ∧ (s.stalled.AttnRule ↔ s.AttnRule)
      ∧ (∀ v, (s.wpRemoteWake v).AttnRule ↔ s.AttnRule) := by
  simp [State.AttnRule]

@[simp] theorem State.focusFrames_attnRule :
    (∀ r, (s.putRecord r).AttnRule ↔ s.AttnRule) ∧ (∀ r x, (s.moveRecord r x).AttnRule ↔ s.AttnRule)
      ∧ (∀ r k b f w, (s.sendInput r k b f w).AttnRule ↔ s.AttnRule)
      ∧ (∀ r k, (s.setPending r k).AttnRule ↔ s.AttnRule) ∧ (s.fillRecords.AttnRule ↔ s.AttnRule)
      ∧ (∀ k, (s.offerSnapshot k).AttnRule ↔ s.AttnRule) ∧ (∀ r, (s.buildInput r).AttnRule ↔ s.AttnRule)
      ∧ (s.showLamps.AttnRule ↔ s.AttnRule) := by
  simp [State.AttnRule]

@[simp] theorem State.deskFrames_attnRule :
    (s.placeAll.AttnRule ↔ s.AttnRule) ∧ (∀ x, (s.placeStream x).AttnRule ↔ s.AttnRule)
      ∧ (s.recomputeField.AttnRule ↔ s.AttnRule) ∧ (s.recomputeHeads.AttnRule ↔ s.AttnRule)
      ∧ (∀ c, (s.putCtx c).AttnRule ↔ s.AttnRule)
      ∧ (∀ l : List Stream, (l.foldl State.makeCtx s).AttnRule ↔ s.AttnRule)
      ∧ (∀ l : List Stream, (l.foldl State.removeCtx s).AttnRule ↔ s.AttnRule)
      ∧ (s.activity.AttnRule ↔ s.AttnRule) ∧ (∀ i p, (s.putPort i p).AttnRule ↔ s.AttnRule)
      ∧ (∀ i m, (s.takeButtons i m).AttnRule ↔ s.AttnRule) ∧ (s.handPassed.AttnRule ↔ s.AttnRule)
      ∧ (∀ i b, (s.takeKeys i b).AttnRule ↔ s.AttnRule) := by
  simp [State.AttnRule]

@[simp] theorem State.fabricFrames_attnRule :
    (∀ a k d c q p, (s.sendFrame a k d c q p).AttnRule ↔ s.AttnRule) ∧ (∀ m, (s.send0 m).AttnRule ↔ s.AttnRule)
      ∧ (∀ m, (s.send1 m).AttnRule ↔ s.AttnRule) ∧ (∀ c k p, (s.sendStream c k p).AttnRule ↔ s.AttnRule) := by
  simp [State.AttnRule]

end Frames

/-! ### What may latch, raise or clear a condition

Each operation is split into its branches; in a branch, the rules of the operations it is made of chain from the state
before it. -/

/-- A run of operations keeps the rule when each of them does. -/
theorem State.foldl_attnRule {α : Type} {s : State} {f : State → α → State}
    (hf : ∀ t a, t.AttnRule → (f t a).AttnRule) (l : List α) (h : s.AttnRule) : (l.foldl f s).AttnRule :=
  List.foldlRecOn l f h fun t ht a _ => hf t a ht

section Ops
variable {s : State} (h : s.AttnRule)
include h

@[simp] theorem State.hand0_attnRule (m : Out0) : (s.hand0 m).AttnRule := by
  obtain ⟨-, e⟩ | ⟨-, -, e⟩ | ⟨-, -, e⟩ := s.hand0_cases m <;> simp [e, h]

@[simp] theorem State.handFrameClose_attnRule (m : Out2) : (s.handFrameClose m).AttnRule := by
  obtain ⟨-, e⟩ | ⟨-, -, e⟩ | ⟨-, -, e⟩ := s.handFrameClose_cases m <;> simp [e, h]

@[simp] theorem State.askPresence_attnRule : s.askPresence.AttnRule := by
  unfold State.askPresence
  obtain ⟨-, e⟩ | ⟨-, -, -, e⟩ | ⟨-, -, -, e⟩ := s.handPresence_cases <;> simp [e, h]

/-! WP and CA (05, 06) -/

@[simp] theorem State.lampsTo_attnRule (d : Nat) : (s.lampsTo d).AttnRule := by simp [State.lampsTo, h]

@[simp] theorem State.lampsToHolder_attnRule : s.lampsToHolder.AttnRule := by
  unfold State.lampsToHolder; split <;> simp [h]

@[simp] theorem State.wpHolderChange_attnRule (d : Option Nat) : (s.wpHolderChange d).AttnRule := by
  unfold State.wpHolderChange; split <;> simp [h]

@[simp] theorem State.wpBusReset_attnRule : s.wpBusReset.AttnRule := by simp [State.wpBusReset, h]

@[simp] theorem State.wpDetach_attnRule : s.wpDetach.AttnRule := by
  unfold State.wpDetach; dsimp only; split <;> simp [h]

@[simp] theorem State.wpBegin_attnRule : s.wpBegin.AttnRule := by
  unfold State.wpBegin; split <;> simp [h]

@[simp] theorem State.hear_attnRule (d : Nat) (w : Channels) : (s.hear d w).AttnRule := by
  unfold State.hear; (repeat' split) <;> simp [h]

@[simp] theorem State.grant_attnRule (d r : Nat) (i : Byte) : (s.grant d r i).AttnRule := by simp [State.grant, h]

@[simp] theorem State.emptySlot_attnRule : s.emptySlot.AttnRule := by
  unfold State.emptySlot; dsimp only; split <;> simp [h]

theorem State.makeRoom_attnRule {t : State} {r : Nat} (e : s.makeRoom r = some t) : t.AttnRule := by
  unfold State.makeRoom at e; (repeat' split at e) <;> cases e <;> simp [h]

@[simp] theorem State.preempt_attnRule (x : Slot) (d r : Nat) (i : Byte) : (s.preempt x d r i).AttnRule := by
  unfold State.preempt
  split
  · next u e => simp [State.makeRoom_attnRule h e]
  · simp [h]

@[simp] theorem State.joinWait_attnRule (d r : Nat) (i : Byte) : (s.joinWait d r i).AttnRule := by
  unfold State.joinWait
  split
  · next u e => simp [State.makeRoom_attnRule h e]
  · simp [h]

@[simp] theorem State.request_attnRule (d : Nat) (i : Byte) : (s.request d i).AttnRule := by
  unfold State.request; dsimp only; (repeat' split) <;> simp [h]

@[simp] theorem State.notHolder_attnRule (d : Nat) (i : Byte) : (s.notHolder d i).AttnRule := by
  unfold State.notHolder; split <;> simp [h]

@[simp] theorem State.inputFrom_attnRule (d : Nat) (q : BitVec 16) (i : InputContent) :
    (s.inputFrom d q i).AttnRule := by
  unfold State.inputFrom; (repeat' split) <;> simp [h]

/-! CU (07) -/

@[simp] theorem State.enterLocked_attnRule (i : Fin 2) (c : Channel) (m : Meas) : (s.enterLocked i c m).AttnRule := by
  simp [State.enterLocked, h]

@[simp] theorem State.leaveLocked_attnRule (i : Fin 2) (c : Channel) : (s.leaveLocked i c).AttnRule := by
  simp [State.leaveLocked, h]

@[simp] theorem State.settle_attnRule (i : Fin 2) (c : Channel) : (s.settle i c).AttnRule := by
  unfold State.settle State.enterUnsupported; (repeat' split) <;> simp [h]

@[simp] theorem State.loseSync_attnRule (i : Fin 2) : (s.loseSync i).AttnRule := by
  unfold State.loseSync State.recomputeUnsupported; dsimp only; split <;> simp [h]

@[simp] theorem State.atSync_attnRule (i : Fin 2) : (s.atSync i).AttnRule := by
  unfold State.atSync; split <;> simp [h]

@[simp] theorem State.takeSync_attnRule (i : Fin 2) (n : FrameCounts) : (s.takeSync i n).AttnRule := by
  unfold State.takeSync State.recomputeUnsupported State.frameEnd; dsimp only; (repeat' split) <;> simp [h]

/-! FU (04) -/

@[simp] theorem State.sendRelease_attnRule (r : SrcRec) : (s.sendRelease r).AttnRule := by simp [State.sendRelease, h]

@[simp] theorem State.requestSource_attnRule (p : Nat) : (s.requestSource p).AttnRule := by
  unfold State.requestSource; (repeat' split) <;> simp [h]

@[simp] theorem State.runLeave_attnRule (r : SrcRec) (k : LeaveKind) : (s.runLeave r k).AttnRule := by
  unfold State.runLeave; split <;> simp [h]

@[simp] theorem State.leave_attnRule (r : SrcRec) (k : LeaveKind) : (s.leave r k).AttnRule := by
  unfold State.leave; split <;> simp [h]

@[simp] theorem State.releaseSource_attnRule (p : Nat) : (s.releaseSource p).AttnRule := by
  unfold State.releaseSource; (repeat' split) <;> simp [h]

@[simp] theorem State.leaveFocus_attnRule (p : Option Nat) : (s.leaveFocus p).AttnRule := by
  unfold State.leaveFocus; (repeat' split) <;> simp [h]

@[simp] theorem State.autoRequest_attnRule (q : Option Nat) : (s.autoRequest q).AttnRule := by
  unfold State.autoRequest; (repeat' split) <;> simp [h]

@[simp] theorem State.focusFrom_attnRule (p : Option Nat) : (s.focusFrom p).AttnRule := by
  unfold State.focusFrom State.focusChange; split <;> simp [h]

@[simp] theorem State.removeRecord_attnRule (r : SrcRec) : (s.removeRecord r).AttnRule := by
  unfold State.removeRecord State.dropRecord; (repeat' split) <;> simp [h]

@[simp] theorem State.updateRecords_attnRule : s.updateRecords.AttnRule := by
  simp [State.updateRecords, State.foldl_attnRule (fun _ r ht => State.removeRecord_attnRule ht r) _ h]

omit h in
theorem State.runLeaves_attnRule (l : List Nat) (h : s.AttnRule) : (State.runLeaves l s).AttnRule := by
  induction l generalizing s with
  | nil => exact h
  | cons p r ih => unfold State.runLeaves; (repeat' split) <;> simp [h, ih]

@[simp] theorem State.judgeInput_attnRule : s.judgeInput.AttnRule := by
  unfold State.judgeInput; dsimp only; (repeat' split) <;> simp [State.runLeaves_attnRule _ h]

@[simp] theorem State.judgeAtDesk_attnRule : s.judgeAtDesk.AttnRule := by
  unfold State.judgeAtDesk; split <;> simp [h]

@[simp] theorem State.reconcile_attnRule (r : SrcRec) (i : Option Byte) (w : Bool) :
    (s.reconcile r i w).AttnRule := by
  unfold State.reconcile; (repeat' split) <;> simp [h]

@[simp] theorem State.takeVerdict_attnRule (r : SrcRec) (v : Verdict) : (s.takeVerdict r v).AttnRule := by
  unfold State.takeVerdict; split <;> simp [h]

/-! SR (09) -/

@[simp] theorem State.streamsChanged_attnRule : s.streamsChanged.AttnRule := by
  simp [State.streamsChanged, State.recomputeLost, h]

@[simp] theorem State.requestRepair_attnRule (c : Ctx) : (s.requestRepair c).AttnRule := by
  simp [State.requestRepair, h]

@[simp] theorem State.needRepair_attnRule (x : Stream) : (s.needRepair x).AttnRule := by
  unfold State.needRepair; (repeat' split) <;> simp [h]

theorem State.takeSeq_attnRule {t : State} {x : Stream} {q : BitVec 16} (e : s.takeSeq x q = some t) : t.AttnRule := by
  unfold State.takeSeq at e
  (repeat' split at e) <;> cases e <;> simp [h]

@[simp] theorem State.takeEpoch_attnRule (c : Ctx) (f : CloseContent) : (s.takeEpoch c f).AttnRule := by
  simp [State.takeEpoch, h]

@[simp] theorem State.closeLive_attnRule (x : Stream) : (s.closeLive x).AttnRule := by
  unfold State.closeLive; (repeat' split) <;> simp [h]

@[simp] theorem State.takeClose_attnRule (x : Stream) (f : CloseContent) : (s.takeClose x f).AttnRule := by
  unfold State.takeClose
  split
  · split
    · exact h
    · exact State.streamsChanged_attnRule (State.closeLive_attnRule (by split <;> simp [h]) x)
  · simp [h]

@[simp] theorem State.takeTile_attnRule (x : Stream) (p : List Byte) : (s.takeTile x p).AttnRule := by
  unfold State.takeTile; (repeat' split) <;> simp [h]

@[simp] theorem State.tile_attnRule (m : RxMsg) : (s.tile m).AttnRule := by
  unfold State.tile
  split
  · exact h
  · next u e => exact State.takeTile_attnRule (State.takeSeq_attnRule h e) _ _

@[simp] theorem State.close_attnRule (m : RxMsg) : (s.close m).AttnRule := by
  unfold State.close
  split
  · exact h
  · next u e => exact State.takeClose_attnRule (State.takeSeq_attnRule h e) _ _

@[simp] theorem State.hearSource_attnRule (m : RxMsg) : (s.hearSource m).AttnRule := by
  simp [State.hearSource, h]

theorem State.takeBySr_attnRule (m : RxMsg) : (s.takeBySr m).AttnRule := by
  unfold State.takeBySr; split <;> simp [h]

@[simp] theorem State.drainStreams_attnRule (l : List Stream) : (s.drainStreams l).AttnRule :=
  State.foldl_attnRule (fun _ e ht => State.takeBySr_attnRule ht e.msg) _ h

@[simp] theorem State.updateCtxs_attnRule (l : List Stream) : (s.updateCtxs l).AttnRule := by
  simp [State.updateCtxs, State.recomputeLost, h]

/-! II (03) -/

theorem State.changeLayout_attnRule (n : Nat) : (s.changeLayout n).AttnRule := by
  unfold State.changeLayout
  dsimp only
  generalize ((s.sr.ctxs.map Ctx.stream).filter _) = removed
  have hctxs (c : CP) : (((s.drainStreams removed).setCP c).updateCtxs removed).AttnRule :=
    State.updateCtxs_attnRule (by simp [h]) removed
  have hfocus (c : CP) (p : Option Nat) := State.focusFrom_attnRule (State.updateRecords_attnRule (hctxs c)) p
  simp [hfocus]

@[simp] theorem State.selectLayout_attnRule (n : Nat) : (s.selectLayout n).AttnRule := by
  unfold State.selectLayout
  split
  · exact h
  · exact State.changeLayout_attnRule h n

@[simp] theorem State.command_attnRule (k : Command) : (s.command k).AttnRule := by
  unfold State.command State.sendAttnClear; (repeat' split) <;> simp [h]

@[simp] theorem State.rawChanged_attnRule (b : Bool) : (s.rawChanged b).AttnRule := by
  unfold State.rawChanged; dsimp only; (repeat' split) <;> simp [h]

@[simp] theorem State.clearPort_attnRule (i : Fin 2) (p : HostPort) : (s.clearPort i p).AttnRule := by
  simp [State.clearPort, State.recomputeDevices, h]

@[simp] theorem State.unsupportedPort_attnRule (i : Fin 2) (p : HostPort) : (s.unsupportedPort i p).AttnRule := by
  simp [State.unsupportedPort, h]

@[simp] theorem State.enumerationFails_attnRule (i : Fin 2) : (s.enumerationFails i).AttnRule := by
  unfold State.enumerationFails; dsimp only; split <;> simp [h]

@[simp] theorem State.transferFails_attnRule (i : Fin 2) (t : Transfer) : (s.transferFails i t).AttnRule := by
  unfold State.transferFails; dsimp only; split <;> simp [h]

@[simp] theorem State.takeMotion_attnRule (i : Fin 2) (m : MouseMotion) : (s.takeMotion i m).AttnRule := by
  unfold State.takeMotion; split <;> simp [h]

/-! FP and PU (11) -/

@[simp] theorem State.accept_attnRule (m : RxMsg) : (s.accept m).AttnRule := by
  unfold State.accept; dsimp only; (repeat' split) <;> simp [h]

@[simp] theorem State.arbiterTake_attnRule : s.arbiterTake.AttnRule := by
  unfold State.arbiterTake State.send2; (repeat' split) <;> simp [h]

end Ops

/-! ### The start: what changes the start state or loads the mask set (R179, R181 to R184) -/

section Start
variable {s : State}

@[simp] theorem State.refuse_attnRule (s : State) : s.refuse.AttnRule := State.enterHalted_attnRule _

/-- Acceptance loads the mask set as it leaves READING. -/
@[simp] theorem State.acceptCommon_attnRule (s : State) (b : List Byte) : (s.acceptCommon b).AttnRule :=
  s.setSA_drive_attnRule nofun

@[simp] theorem State.checkDesk_attnRule (s : State) (b : List Byte) : (s.checkDesk b).AttnRule := by
  cases hb : deskOk b with
  | false => simp [s.checkDesk_of_refused hb]
  | true =>
    obtain ⟨h, lead, e⟩ := s.checkDesk_of_accepted hb
    simp [e, State.acceptDesk]

@[simp] theorem State.checkSource_attnRule (s : State) (b : List Byte) : (s.checkSource b).AttnRule := by
  unfold State.checkSource State.acceptSource; split <;> simp

/-- SERVING asserts no attention by itself: it comes from LISTENING, which asserts none either (R187). -/
theorem State.stagesSet_attnRule (h : s.AttnRule) (hlistening : s.sa.start = .listening) :
    s.stagesSet.AttnRule := by
  simpa [State.AttnRule, State.stagesSet, hlistening] using h.1

@[simp] theorem State.beginDesk_attnRule (h : s.AttnRule) : s.beginDesk.AttnRule := by simp [State.beginDesk, h]

end Start

/-! ### The commands -/

/-- The attention rule after what a command answers. -/
def AttnAfter (o : Host.Outcome State Fault Refusal) : Prop := ∀ t, o = .next t → t.AttnRule

@[simp] theorem attnAfter_next (t : State) : AttnAfter (.next t) ↔ t.AttnRule := by simp [AttnAfter]

section Commands
variable {s : State}

theorem exec_reset_attnAfter (r : Role) (s : State) : AttnAfter (exec (.reset r) s) := by
  simp [exec, execReset, State.AttnRule, State.reset, SA.reset]

variable (h : s.AttnRule)
include h

theorem State.take_attnRule {u : State} {k : Taker} {x : Kind} {m : RxMsg} (e : s.take k x = some (m, u)) :
    u.AttnRule := by
  rw [(State.take_eq e).1]
  simp [h]

/-- The listen timer's start has no part in the rule. -/
theorem exec_linkUp_attnAfter : AttnAfter (exec .linkUp s) := by
  have hlisten (l : Timer) : ((s.setFP { s.fp with linkUp := true }).setSA { s.sa with listen := l }).AttnRule := h
  simp only [exec, execLinkUp]
  (repeat' split) <;> simp [h, hlisten]

theorem exec_listenTimerExpiry_attnAfter : AttnAfter (exec .listenTimerExpiry s) := by
  by_cases hdue : s.sa.start = .listening ∧ ranFor s.now s.sa.listen 1000000
  · have hserving := State.stagesSet_attnRule h hdue.1
    rw [exec_listenTimerExpiry_of_due hdue.1 hdue.2]
    cases s.role <;> simp [hserving]
  · simpa [exec_listenTimerExpiry_of_not_due hdue] using h

/-- Here STREAM-LOST is raised, and streams and FU then take their part (R147, R148). -/
theorem exec_lostTimerExpiry_attnAfter (x : Stream) : AttnAfter (exec (.lostTimerExpiry x) s) := by
  simp only [exec, execLostTimerExpiry]
  split
  · simp [h]
  · split
    · exact (attnAfter_next _).2 (State.judgeInput_attnRule (State.streamsChanged_attnRule (by simp [h])))
    · simp [h]

theorem exec_attnAfter (c : Instr) : AttnAfter (exec c s) := by
  cases c
  -- the start and the link (12, 11)
  case reset r => exact exec_reset_attnAfter r s
  case linkUp => exact exec_linkUp_attnAfter h
  case listenTimerExpiry => exact exec_listenTimerExpiry_attnAfter h
  case imageReadComplete | linkDown | frameReceived | presenceTimerExpiry | transmitArbiterTake =>
    simp only [exec, execImageReadComplete, execLinkDown, execFrameReceived, execPresenceTimerExpiry,
      execTransmitArbiterTake]
    (repeat' split) <;> simp [h]
  -- a message taken from the buffer, by whichever block (R171)
  case presenceTakenByCa | presenceTakenByFu | presenceTakenBySr | tileTaken | frameCloseTaken | repairRequestTaken
      | controlRequestTaken | controlReleaseTaken | inputTaken | attnClearTaken | controlVerdictTaken
      | controlWithdrawnTaken | lampsTaken =>
    simp only [exec, execPresenceTakenByCa, execPresenceTakenByFu, execPresenceTakenBySr, execTileTaken,
      execFrameCloseTaken, execRepairRequestTaken, execControlRequestTaken, execControlReleaseTaken, execInputTaken,
      execAttnClearTaken, execControlVerdictTaken, execControlWithdrawnTaken, execLampsTaken]
    split
    · split
      · simp [h]
      · next m u e =>
        have hu := State.take_attnRule h e
        (repeat' split) <;> simp [hu]
    · simp [h]
  -- CU and TS (07)
  case refreshWindowExpiry | frameSync | validLineEnd | tileRowBegin | tileRowComplete | syncTimerExpiry | tileChoice
      | syncPeriodEnd =>
    simp only [exec, execRefreshWindowExpiry, execFrameSync, execValidLineEnd, execTileRowBegin, execTileRowComplete,
      execSyncTimerExpiry, execTileChoice, execSyncPeriodEnd]
    (repeat' split) <;> simp [h]
  -- CA (05)
  case viewerEntryExpiry | waitEntryExpiry | idleTimerExpiry | notHolderNoteExpiry =>
    simp only [exec, execViewerEntryExpiry, execWaitEntryExpiry, execIdleTimerExpiry, execNotHolderNoteExpiry]
    (repeat' split) <;> simp [h]
  -- WP (06)
  case busPowerAppears | busPowerLost | busReset | setAddress | setConfiguration | setFeatureRemoteWake
      | clearFeatureRemoteWake | getDescriptor | getReport | setIdleOrProtocol | unsupportedStandardRequest
      | keyboardOutputReport | keyboardPoll | pointerPoll | queueAgeOverrun | busIdleSuspend | busResume
      | resumeSignallingEnd =>
    simp only [exec, execBusPowerAppears, execBusPowerLost, execBusReset, execSetAddress, execSetConfiguration,
      execSetFeatureRemoteWake, execClearFeatureRemoteWake, execGetDescriptor, execGetReport, execSetIdleOrProtocol,
      execUnsupportedStandardRequest, execKeyboardOutputReport, execKeyboardPoll, execPointerPoll,
      execQueueAgeOverrun, execBusIdleSuspend, execBusResume, execResumeSignallingEnd]
    (repeat' split) <;> simp [h]
  -- II and CP (03, 02)
  case hostDeviceConnect | hostDeviceDisconnect | enumerationComplete | enumerationFailure | transferUnanswered
      | pollTransferFailure | pollAnsweredWithNoData | keyboardReport | mouseReport | leadSeenTimerExpiry
      | commandTimerExpiry | lampReportComplete | lampRetryExpiry =>
    simp only [exec, execHostDeviceConnect, execHostDeviceDisconnect, execEnumerationComplete, execEnumerationFailure,
      execTransferUnanswered, execPollTransferFailure, execPollAnsweredWithNoData, execKeyboardReport, execMouseReport,
      execLeadSeenTimerExpiry, execCommandTimerExpiry, execLampReportComplete, execLampRetryExpiry]
    (repeat' split) <;> simp [h]
  -- FU (04)
  case inputIntervalExpiry | askTimerExpiry | refusedTimerExpiry | absenceTimerExpiry | holdOffTimerExpiry =>
    simp only [exec, execInputIntervalExpiry, execAskTimerExpiry, execRefusedTimerExpiry, execAbsenceTimerExpiry,
      execHoldOffTimerExpiry]
    (repeat' split) <;> simp [h]
  -- SR and HU (09, 10)
  case lostTimerExpiry x => exact exec_lostTimerExpiry_attnAfter h x
  case staleTimerExpiry | repairTimerExpiry | minuteTimerExpiry | headLineStart =>
    simp only [exec, execStaleTimerExpiry, execRepairTimerExpiry, execMinuteTimerExpiry, execHeadLineStart]
    (repeat' split) <;> simp [h]

end Commands

/-- Settles O9 (R187): a microsecond leaves SA alone, and no command breaks the rule. -/
theorem attentionKept : Obligations.AttentionKept := by
  intro s t h hstep
  unfold step at hstep
  split at hstep
  · cases hstep
    exact h
  · next c r hp => exact exec_attnAfter (s := { s with pending := r }) h c t hstep

end Sys2Proof.Machine
end

section
/-!
PROOF. What a step is (00_scope.md, ABOUT THIS DOCUMENT, ROLE): the command at the front of the queue, every command's
completion with the queue, the counter and the role kept, what the commands of each role leave alone, and how a rule
that an idle step and every command keep is kept by every step.
-/

namespace Sys2Proof.Machine

/-- Settles O1: the front of the queue is what a step runs. -/
theorem stepTakesFront : Obligations.StepTakesFront := fun _ _ => rfl

/-! ### Every command completes (logs 1, 2, 34) -/

/-- A command answers a next state with the queue, and, where `kept` asks for it, with the counter and the role. -/
def Completes (s : State) (kept : Prop) (o : Host.Outcome State Fault Refusal) : Prop :=
  ∃ t, o = .next t ∧ t.pending = s.pending ∧ (kept → t.now = s.now ∧ t.role = s.role)

@[simp] theorem completes_next {s : State} {k : Prop} (t : State) :
    Completes s k (.next t) ↔ t.pending = s.pending ∧ (k → t.now = s.now ∧ t.role = s.role) := by
  simp [Completes]

/-- A message taken from the buffer leaves the rest of the command to complete from the same queue, counter and role. -/
theorem State.take_clock {s u : State} {k : Taker} {x : Kind} {m : RxMsg} (e : s.take k x = some (m, u)) :
    u.pending = s.pending ∧ u.now = s.now ∧ u.role = s.role := by
  simp [(State.take_eq e).1]

theorem exec_completes (c : Instr) (s : State) : Completes s (∀ r, c ≠ .reset r) (exec c s) := by
  cases c
  -- the start and the link (12, 11)
  case reset r => simp [exec, execReset]
  case imageReadComplete | linkUp | linkDown | listenTimerExpiry | frameReceived | presenceTimerExpiry
      | transmitArbiterTake =>
    simp only [exec, execImageReadComplete, execLinkUp, execLinkDown, execListenTimerExpiry, execFrameReceived,
      execPresenceTimerExpiry, execTransmitArbiterTake]
    (repeat' split) <;> simp
  -- a message taken from the buffer, by whichever block (R171)
  case presenceTakenByCa | presenceTakenByFu | presenceTakenBySr | tileTaken | frameCloseTaken | repairRequestTaken
      | controlRequestTaken | controlReleaseTaken | inputTaken | attnClearTaken | controlVerdictTaken
      | controlWithdrawnTaken | lampsTaken =>
    simp only [exec, execPresenceTakenByCa, execPresenceTakenByFu, execPresenceTakenBySr, execTileTaken,
      execFrameCloseTaken, execRepairRequestTaken, execControlRequestTaken, execControlReleaseTaken, execInputTaken,
      execAttnClearTaken, execControlVerdictTaken, execControlWithdrawnTaken, execLampsTaken]
    split
    · split
      · simp
      · next m u e =>
        have hu := State.take_clock e
        (repeat' split) <;> simp [hu]
    · simp
  -- CU and TS (07)
  case refreshWindowExpiry | frameSync | validLineEnd | tileRowBegin | tileRowComplete | syncTimerExpiry | tileChoice
      | syncPeriodEnd =>
    simp only [exec, execRefreshWindowExpiry, execFrameSync, execValidLineEnd, execTileRowBegin, execTileRowComplete,
      execSyncTimerExpiry, execTileChoice, execSyncPeriodEnd]
    (repeat' split) <;> simp
  -- CA (05)
  case viewerEntryExpiry | waitEntryExpiry | idleTimerExpiry | notHolderNoteExpiry =>
    simp only [exec, execViewerEntryExpiry, execWaitEntryExpiry, execIdleTimerExpiry, execNotHolderNoteExpiry]
    (repeat' split) <;> simp
  -- WP (06)
  case busPowerAppears | busPowerLost | busReset | setAddress | setConfiguration | setFeatureRemoteWake
      | clearFeatureRemoteWake | getDescriptor | getReport | setIdleOrProtocol | unsupportedStandardRequest
      | keyboardOutputReport | keyboardPoll | pointerPoll | queueAgeOverrun | busIdleSuspend | busResume
      | resumeSignallingEnd =>
    simp only [exec, execBusPowerAppears, execBusPowerLost, execBusReset, execSetAddress, execSetConfiguration,
      execSetFeatureRemoteWake, execClearFeatureRemoteWake, execGetDescriptor, execGetReport, execSetIdleOrProtocol,
      execUnsupportedStandardRequest, execKeyboardOutputReport, execKeyboardPoll, execPointerPoll,
      execQueueAgeOverrun, execBusIdleSuspend, execBusResume, execResumeSignallingEnd]
    (repeat' split) <;> simp
  -- II and CP (03, 02)
  case hostDeviceConnect | hostDeviceDisconnect | enumerationComplete | enumerationFailure | transferUnanswered
      | pollTransferFailure | pollAnsweredWithNoData | keyboardReport | mouseReport | leadSeenTimerExpiry
      | commandTimerExpiry | lampReportComplete | lampRetryExpiry =>
    simp only [exec, execHostDeviceConnect, execHostDeviceDisconnect, execEnumerationComplete, execEnumerationFailure,
      execTransferUnanswered, execPollTransferFailure, execPollAnsweredWithNoData, execKeyboardReport, execMouseReport,
      execLeadSeenTimerExpiry, execCommandTimerExpiry, execLampReportComplete, execLampRetryExpiry]
    (repeat' split) <;> simp
  -- FU (04)
  case inputIntervalExpiry | askTimerExpiry | refusedTimerExpiry | absenceTimerExpiry | holdOffTimerExpiry =>
    simp only [exec, execInputIntervalExpiry, execAskTimerExpiry, execRefusedTimerExpiry, execAbsenceTimerExpiry,
      execHoldOffTimerExpiry]
    (repeat' split) <;> simp
  -- SR and HU (09, 10)
  case staleTimerExpiry | lostTimerExpiry | repairTimerExpiry | minuteTimerExpiry | headLineStart =>
    simp only [exec, execStaleTimerExpiry, execLostTimerExpiry, execRepairTimerExpiry, execMinuteTimerExpiry,
      execHeadLineStart]
    (repeat' split) <;> simp

/-- Settles O3 (logs 1, 2, 34). -/
theorem everyCommandCompletes : Obligations.EveryCommandCompletes := exec_completes

/-- Every command but RESET keeps the role and the counter (R179, log 2). -/
theorem exec_keepsClock {c : Instr} {s t : State} (hc : ∀ r, c ≠ .reset r) (h : exec c s = .next t) :
    t.now = s.now ∧ t.role = s.role := by
  obtain ⟨u, hu, -, hk⟩ := exec_completes c s
  cases h.symm.trans hu
  exact hk hc

/-! ### The roles (00_scope.md, ROLE) -/

theorem State.take_sameSource {s u : State} {k : Taker} {x : Kind} {m : RxMsg} (e : s.take k x = some (m, u)) :
    s.sameSource u := by
  simp [(State.take_eq e).1, State.sameSource]

/-- The commands of a desk leave the source's blocks alone. -/
theorem exec_sameSource_of_desk {c : Instr} (hc : ofDesk c = true) (s : State) : Ends s.sameSource (exec c s) := by
  cases c
  -- messages to FU and SR
  case presenceTakenByFu | presenceTakenBySr | tileTaken | frameCloseTaken | controlVerdictTaken
      | controlWithdrawnTaken | lampsTaken =>
    simp only [exec, execPresenceTakenByFu, execPresenceTakenBySr, execTileTaken, execFrameCloseTaken,
      execControlVerdictTaken, execControlWithdrawnTaken, execLampsTaken]
    split
    · split
      · simp [State.sameSource]
      · next m u e =>
        obtain ⟨hcu, hts, hca, hwp⟩ := State.take_sameSource e
        (repeat' split) <;> simp [State.sameSource, hcu, hts, hca, hwp]
    · simp [State.sameSource]
  -- II and CP
  case hostDeviceConnect | hostDeviceDisconnect | enumerationComplete | enumerationFailure | transferUnanswered
      | pollTransferFailure | pollAnsweredWithNoData | keyboardReport | mouseReport | leadSeenTimerExpiry
      | commandTimerExpiry | lampReportComplete | lampRetryExpiry =>
    simp only [exec, execHostDeviceConnect, execHostDeviceDisconnect, execEnumerationComplete, execEnumerationFailure,
      execTransferUnanswered, execPollTransferFailure, execPollAnsweredWithNoData, execKeyboardReport, execMouseReport,
      execLeadSeenTimerExpiry, execCommandTimerExpiry, execLampReportComplete, execLampRetryExpiry]
    (repeat' split) <;> simp [State.sameSource]
  -- FU
  case inputIntervalExpiry | askTimerExpiry | refusedTimerExpiry | absenceTimerExpiry | holdOffTimerExpiry =>
    simp only [exec, execInputIntervalExpiry, execAskTimerExpiry, execRefusedTimerExpiry, execAbsenceTimerExpiry,
      execHoldOffTimerExpiry]
    (repeat' split) <;> simp [State.sameSource]
  -- SR and HU
  case staleTimerExpiry | lostTimerExpiry | repairTimerExpiry | minuteTimerExpiry | headLineStart =>
    simp only [exec, execStaleTimerExpiry, execLostTimerExpiry, execRepairTimerExpiry, execMinuteTimerExpiry,
      execHeadLineStart]
    (repeat' split) <;> simp [State.sameSource]
  all_goals cases hc

/-- Settles O4 (00_scope.md, ROLE): command by command, by what each operation leaves alone. -/
theorem rolesApart : Obligations.RolesApart := fun _ s t ht =>
  ⟨fun hc => exec_sameDesk_of_source hc s t ht, fun hc => exec_sameSource_of_desk hc s t ht⟩

/-! ### What every step keeps -/

/-- A rule that does not look at the queue is kept by every step when an idle microsecond and every command keep it. -/
theorem step_keeps {P : State → Prop} (hqueue : ∀ s q, P s → P { s with pending := q }) (htick : ∀ s, P s → P s.tick)
    (hexec : ∀ c s, P s → Ends P (exec c s)) {s t : State} (h : P s) (hstep : step s = .next t) : P t := by
  unfold step at hstep
  split at hstep
  · cases hstep
    exact htick s h
  · next c r _ => exact hexec c _ (hqueue s r h) t hstep

/-- The commands of one role, the commands of the other, and those of both. -/
theorem instr_cases (c : Instr) : ofSource c = true ∨ ofDesk c = true ∨ ofBoth c = true := by
  unfold ofDesk
  cases ofSource c <;> cases ofBoth c <;> simp

end Sys2Proof.Machine
end

section
/-!
PROOF. SA and FP in the course of any command (11_the_room_fabric.md, SENDING, RECEIVING;
12_start_up_configuration_and_attention.md, THE STAGES, CONDITIONS): no operation outside the start changes the start
state, a stage, the sets or the port's fields, the classes and the receive buffer keep their bounds, and a latched bit
is cleared by an acknowledgement or a pulse alone. One relation says all three; each operation keeps it, and the
statements are read off it.
-/

namespace Sys2Proof.Machine

/-! ### What lasts of SA and FP -/

/-- SA without its conditions, the listen timer and the level of ATTN_N: the start state, the stages and the sets. -/
def SA.lasting (a : SA) : SA := { a with current := 0, latched := 0, listen := none, attnN := true }

/-- FP's own station number and fabric type code, which the image gives it (R166). -/
def FP.lasting (f : FP) : FP := { FP.reset with own := f.own, typeCode := f.typeCode }

/-- The bounds of the classes and of the receive buffer (R172, R173), spelled out. -/
theorem FP.bounded_iff (f : FP) : f.bounded = true ↔ f.class0.length ≤ 16 ∧ f.class1.length ≤ 4
    ∧ f.class2.length ≤ 4 ∧ f.class2.count .presence ≤ 1 ∧ f.rxHeld ≤ 262144 := by
  simp [FP.bounded, and_assoc]

/-- What a command outside the start makes of SA and FP: what lasts is as it was, the bounds are kept, and, where `k`
asks for it, so is every latched bit. -/
def State.Ordinary (k : Prop) (s t : State) : Prop :=
  t.sa.lasting = s.sa.lasting ∧ t.fp.lasting = s.fp.lasting ∧ (s.fp.bounded = true → t.fp.bounded = true)
    ∧ (k → s.sa.latched &&& ~~~t.sa.latched = 0)

@[simp] theorem State.Ordinary.refl (k : Prop) (s : State) : s.Ordinary k s :=
  ⟨rfl, rfl, id, fun _ => by simp⟩

/-- The relation speaks of SA and FP alone. -/
theorem State.Ordinary.congr {k : Prop} {s t u : State} (h : s.Ordinary k t) (hsa : u.sa = t.sa) (hfp : u.fp = t.fp) :
    s.Ordinary k u := by
  unfold State.Ordinary at *
  rwa [hsa, hfp]

/-! ### SA's own operations (R185 to R188) -/

section Flags
variable {k : Prop} {s t : State} (h : s.Ordinary k t)
include h

/-- SA replaced by one that lasts the same and holds every bit latched before. -/
theorem State.Ordinary.setSA {a : SA} (ha : a.lasting = t.sa.lasting) (hl : k → t.sa.latched &&& ~~~a.latched = 0) :
    s.Ordinary k (t.setSA a) := by
  obtain ⟨hsa, hfp, hb, hk⟩ := h
  refine ⟨ha.trans hsa, hfp, hb, fun q => ?_⟩
  have h1 := hk q
  have h2 := hl q
  show s.sa.latched &&& ~~~a.latched = 0
  ext i hi
  have e1 := congrArg (fun x : CondSet => x[i]) h1
  have e2 := congrArg (fun x : CondSet => x[i]) h2
  simp at e1 e2 ⊢
  exact fun e => e2 (e1 e)

@[simp] theorem State.latch_ordinary (c : Cond) : s.Ordinary k (t.latch c) :=
  h.setSA rfl fun _ => by
    ext i hi
    simp only [SA.latch, SA.drive]
    simp
    exact fun a b => by simp [a] at b

@[simp] theorem State.raise_ordinary (c : Cond) : s.Ordinary k (t.raise c) :=
  h.setSA rfl fun _ => by
    ext i hi
    simp only [SA.raise, SA.drive]
    simp
    exact fun a b => by simp [a] at b

@[simp] theorem State.setCurrent_ordinary (c : Cond) (b : Bool) : s.Ordinary k (t.setCurrent c b) :=
  h.setSA rfl fun _ => by simp [SA.setCurrent]

/-- An acknowledgement clears latched bits (R188); so does a PRESENCE that is sent, of pulses (R186). -/
theorem State.clears_ordinary (hk : ¬ k) : s.Ordinary k (t.setSA t.sa.acknowledge)
    ∧ s.Ordinary k (t.setSA t.sa.clearPulses) :=
  ⟨h.setSA rfl fun q => absurd q hk, h.setSA rfl fun q => absurd q hk⟩

/-! ### FP's lists (R171 to R173) -/

/-- FP replaced by one that lasts the same and keeps the bounds. -/
theorem State.Ordinary.setFP {f : FP} (hf : f.lasting = t.fp.lasting) (hb : t.fp.bounded = true → f.bounded = true) :
    s.Ordinary k (t.setFP f) :=
  ⟨h.1, hf.trans h.2.1, fun q => hb (h.2.2.1 q), h.2.2.2⟩

@[simp] theorem State.hand0_ordinary (m : Out0) : s.Ordinary k (t.hand0 m) := by
  obtain ⟨-, e⟩ | ⟨-, hroom, e⟩ | ⟨-, -, e⟩ := t.hand0_cases m <;> rw [e]
  · exact h
  · refine h.setFP rfl ?_
    simp only [FP.bounded_iff, FP.rxHeld, List.length_append, List.length_singleton]
    omega
  · simp [h]

theorem State.hand1_ordinary (m : OutInput) (hroom : t.roomInClass1 = true) : s.Ordinary k (t.hand1 m) := by
  unfold State.hand1
  split
  · exact h
  · refine h.setFP rfl ?_
    have := (t.roomInClass1_iff).1 hroom
    simp only [FP.bounded_iff, FP.rxHeld, List.length_append, List.length_singleton]
    simp_all

theorem State.handFrameClose_ordinary {m : Out2} (hm : m ≠ .presence) : s.Ordinary k (t.handFrameClose m) := by
  obtain ⟨-, e⟩ | ⟨-, hroom, e⟩ | ⟨-, -, e⟩ := t.handFrameClose_cases m <;> rw [e]
  · exact h
  · refine h.setFP rfl ?_
    have : List.count Out2.presence [m] = 0 := by simp [List.count_eq_zero, hm.symm]
    simp only [FP.bounded_iff, FP.rxHeld, List.length_append, List.length_singleton, List.count_append, this]
    omega
  · simp [h]

@[simp] theorem State.handPresence_ordinary : s.Ordinary k t.handPresence := by
  obtain ⟨-, e⟩ | ⟨-, hnew, hroom, e⟩ | ⟨-, hnew, hfull, e⟩ := t.handPresence_cases <;> rw [e]
  · exact h
  · refine h.setFP rfl ?_
    have : t.fp.class2.count .presence = 0 := List.count_eq_zero.2 hnew
    simp only [FP.bounded_iff, FP.rxHeld, List.length_append, List.length_singleton, List.count_append, this]
    simp
    omega
  · refine State.latch_ordinary
      (h.setFP (f := { t.fp with class2 := t.fp.class2.dropLast ++ [.presence] }) rfl ?_) _
    have : t.fp.class2.dropLast.count .presence = 0 :=
      List.count_eq_zero.2 fun g => hnew (List.mem_of_mem_dropLast g)
    simp only [FP.bounded_iff, FP.rxHeld, List.length_append, List.length_singleton, List.count_append, this,
      List.length_dropLast]
    simp
    omega

@[simp] theorem State.askPresence_ordinary : s.Ordinary k t.askPresence :=
  (State.handPresence_ordinary h).congr rfl rfl

@[simp] theorem State.handTile_ordinary (m : OutTile) : s.Ordinary k (t.handTile m) :=
  h.setFP rfl id

/-- The subscription list has no bound of its own. -/
@[simp] theorem State.makeCtx_ordinary (x : Stream) : s.Ordinary k (t.makeCtx x) := by
  unfold State.makeCtx
  split
  · exact h
  · exact (h.congr (u := t.setSR _) rfl rfl).setFP rfl id

@[simp] theorem State.removeCtx_ordinary (x : Stream) : s.Ordinary k (t.removeCtx x) :=
  (h.congr (u := t.setSR _) rfl rfl).setFP rfl id

end Flags

/-! ### The receive buffer (R171, R172) -/

/-- The bytes of a list of entries. -/
def heldBytes (l : List RxEntry) : Nat := (l.map fun e => e.msg.size).sum

theorem RxEntry.without_bytes (e : RxEntry) (t : Taker) : heldBytes (e.without t).toList ≤ e.msg.size := by
  unfold RxEntry.without heldBytes
  dsimp only
  split <;> simp

theorem afterTaking_bytes (t : Taker) (l : List RxEntry) : heldBytes (afterTaking t l) ≤ heldBytes l := by
  induction l with
  | nil => simp [afterTaking]
  | cons e r ih =>
    have := e.without_bytes t
    unfold afterTaking
    split <;> simp [heldBytes] at * <;> omega

theorem filterMap_without_bytes (t : Taker) (l : List RxEntry) :
    heldBytes (l.filterMap fun e => e.without t) ≤ heldBytes l := by
  induction l with
  | nil => simp
  | cons e r ih =>
    have := e.without_bytes t
    rw [List.filterMap_cons]
    split <;> simp_all [heldBytes] <;> omega

/-- The buffer cut behind the last message of some streams is the whole buffer. -/
theorem upToLastOf_append_behindLastOf (l : List Stream) (r : List RxEntry) :
    upToLastOf l r ++ behindLastOf l r = r := by
  induction r with
  | nil => rfl
  | cons e r ih => unfold upToLastOf behindLastOf; split <;> simp [ih]

/-- A buffer that holds no more bytes keeps the bounds. -/
theorem State.Ordinary.setRx {k : Prop} {s t : State} (h : s.Ordinary k t) {r : List RxEntry}
    (hr : heldBytes r ≤ heldBytes t.fp.rx) : s.Ordinary k (t.setFP { t.fp with rx := r }) := by
  refine h.setFP rfl ?_
  simp only [FP.bounded_iff, FP.rxHeld]
  unfold heldBytes at hr
  omega

theorem State.take_ordinary {k : Prop} {s t u : State} (h : s.Ordinary k t) {b : Taker} {x : Kind} {m : RxMsg}
    (e : t.take b x = some (m, u)) : s.Ordinary k u := by
  rw [(State.take_eq e).1]
  exact h.setRx (afterTaking_bytes b t.fp.rx)

/-! ### What leaves SA and FP alone -/

section Frames
variable (k : Prop) (s t : State)

@[simp] theorem State.set_ordinary :
    (∀ b, s.Ordinary k (t.setPU b) ↔ s.Ordinary k t) ∧ (∀ b, s.Ordinary k (t.setCU b) ↔ s.Ordinary k t)
      ∧ (∀ b, s.Ordinary k (t.setTS b) ↔ s.Ordinary k t) ∧ (∀ b, s.Ordinary k (t.setCA b) ↔ s.Ordinary k t)
      ∧ (∀ b, s.Ordinary k (t.setWP b) ↔ s.Ordinary k t) ∧ (∀ b, s.Ordinary k (t.setII b) ↔ s.Ordinary k t)
      ∧ (∀ b, s.Ordinary k (t.setCP b) ↔ s.Ordinary k t) ∧ (∀ b, s.Ordinary k (t.setFU b) ↔ s.Ordinary k t)
      ∧ (∀ b, s.Ordinary k (t.setSR b) ↔ s.Ordinary k t) ∧ (∀ b, s.Ordinary k (t.setHU b) ↔ s.Ordinary k t) := by
  simp [State.Ordinary]

@[simp] theorem State.sourceFrames_ordinary :
    (∀ i c, s.Ordinary k (t.setChannel i c) ↔ s.Ordinary k t)
      ∧ (∀ i c, s.Ordinary k (t.setTsChannel i c) ↔ s.Ordinary k t) ∧ (s.Ordinary k t.fullRefresh ↔ s.Ordinary k t)
      ∧ (s.Ordinary k t.refreshTrigger ↔ s.Ordinary k t) ∧ (∀ i, s.Ordinary k (t.wpInput i) ↔ s.Ordinary k t)
      ∧ (∀ a, s.Ordinary k (t.answer a) ↔ s.Ordinary k t) ∧ (s.Ordinary k t.stalled ↔ s.Ordinary k t)
      ∧ (∀ v, s.Ordinary k (t.wpRemoteWake v) ↔ s.Ordinary k t) := by
  simp [State.Ordinary]

@[simp] theorem State.focusFrames_ordinary :
    (∀ r, s.Ordinary k (t.putRecord r) ↔ s.Ordinary k t) ∧ (∀ r x, s.Ordinary k (t.moveRecord r x) ↔ s.Ordinary k t)
      ∧ (∀ r x, s.Ordinary k (t.setPending r x) ↔ s.Ordinary k t) ∧ (s.Ordinary k t.fillRecords ↔ s.Ordinary k t)
      ∧ (∀ x, s.Ordinary k (t.offerSnapshot x) ↔ s.Ordinary k t) ∧ (s.Ordinary k t.showLamps ↔ s.Ordinary k t) := by
  simp [State.Ordinary]

@[simp] theorem State.deskFrames_ordinary :
    (s.Ordinary k t.placeAll ↔ s.Ordinary k t) ∧ (∀ x, s.Ordinary k (t.placeStream x) ↔ s.Ordinary k t)
      ∧ (s.Ordinary k t.recomputeField ↔ s.Ordinary k t) ∧ (s.Ordinary k t.recomputeHeads ↔ s.Ordinary k t)
      ∧ (∀ c, s.Ordinary k (t.putCtx c) ↔ s.Ordinary k t) ∧ (s.Ordinary k t.activity ↔ s.Ordinary k t)
      ∧ (∀ i p, s.Ordinary k (t.putPort i p) ↔ s.Ordinary k t)
      ∧ (∀ i m, s.Ordinary k (t.takeButtons i m) ↔ s.Ordinary k t) ∧ (s.Ordinary k t.handPassed ↔ s.Ordinary k t)
      ∧ (∀ i b, s.Ordinary k (t.takeKeys i b) ↔ s.Ordinary k t) := by
  simp [State.Ordinary]

/-- The frame on the port has no bound (R174). -/
@[simp] theorem State.fabricFrames_ordinary :
    (∀ a x d c q p, s.Ordinary k (t.sendFrame a x d c q p) ↔ s.Ordinary k t)
      ∧ (∀ m, s.Ordinary k (t.send0 m) ↔ s.Ordinary k t) ∧ (∀ m, s.Ordinary k (t.send1 m) ↔ s.Ordinary k t)
      ∧ (∀ c x p, s.Ordinary k (t.sendStream c x p) ↔ s.Ordinary k t) := by
  exact ⟨fun _ _ _ _ _ _ => Iff.rfl, fun _ => Iff.rfl, fun _ => Iff.rfl, fun _ _ _ => Iff.rfl⟩

end Frames

/-! ### The operations, block by block

Each is split into its branches; in a branch, the rules of the operations it is made of chain from the state before it.
-/

/-- A run of operations is ordinary when each of them is. -/
theorem State.foldl_ordinary {k : Prop} {s t : State} {α : Type} {f : State → α → State}
    (hf : ∀ u a, s.Ordinary k u → s.Ordinary k (f u a)) (l : List α) (h : s.Ordinary k t) :
      s.Ordinary k (l.foldl f t) :=
  List.foldlRecOn l f h fun u hu a _ => hf u a hu

section Ops
variable {k : Prop} {s t : State} (h : s.Ordinary k t)
include h

/-! WP and CA (06, 05) -/

@[simp] theorem State.lampsTo_ordinary (d : Nat) : s.Ordinary k (t.lampsTo d) := by simp [State.lampsTo, h]

@[simp] theorem State.lampsToHolder_ordinary : s.Ordinary k t.lampsToHolder := by
  unfold State.lampsToHolder; split <;> simp [h]

@[simp] theorem State.wpHolderChange_ordinary (d : Option Nat) : s.Ordinary k (t.wpHolderChange d) := by
  unfold State.wpHolderChange; split <;> simp [h]

@[simp] theorem State.wpBusReset_ordinary : s.Ordinary k t.wpBusReset := by simp [State.wpBusReset, h]

@[simp] theorem State.wpDetach_ordinary : s.Ordinary k t.wpDetach := by
  unfold State.wpDetach; dsimp only; split <;> simp [h]

@[simp] theorem State.wpBegin_ordinary : s.Ordinary k t.wpBegin := by
  unfold State.wpBegin; split <;> simp [h]

@[simp] theorem State.hear_ordinary (d : Nat) (w : Channels) : s.Ordinary k (t.hear d w) := by
  unfold State.hear; (repeat' split) <;> simp [h]

@[simp] theorem State.grant_ordinary (d r : Nat) (i : Byte) : s.Ordinary k (t.grant d r i) := by simp [State.grant, h]

@[simp] theorem State.emptySlot_ordinary : s.Ordinary k t.emptySlot := by
  unfold State.emptySlot; dsimp only; split <;> simp [h]

theorem State.makeRoom_ordinary {u : State} {r : Nat} (e : t.makeRoom r = some u) : s.Ordinary k u := by
  unfold State.makeRoom at e
  (repeat' split at e) <;> simp at e <;> subst e <;> simp [h]

@[simp] theorem State.preempt_ordinary (x : Slot) (d r : Nat) (i : Byte) : s.Ordinary k (t.preempt x d r i) := by
  unfold State.preempt
  split
  · next u e => simp [State.makeRoom_ordinary h e]
  · simp [h]

@[simp] theorem State.joinWait_ordinary (d r : Nat) (i : Byte) : s.Ordinary k (t.joinWait d r i) := by
  unfold State.joinWait
  split
  · next u e => simp [State.makeRoom_ordinary h e]
  · simp [h]

@[simp] theorem State.request_ordinary (d : Nat) (i : Byte) : s.Ordinary k (t.request d i) := by
  unfold State.request; dsimp only; (repeat' split) <;> simp [h]

@[simp] theorem State.inputFrom_ordinary (d : Nat) (q : BitVec 16) (i : InputContent) :
    s.Ordinary k (t.inputFrom d q i) := by
  unfold State.inputFrom State.notHolder; (repeat' split) <;> simp [h]

/-! CU and TS (07) -/

@[simp] theorem State.recomputeUnsupported_ordinary : s.Ordinary k t.recomputeUnsupported := by
  simp [State.recomputeUnsupported, h]

@[simp] theorem State.enterLocked_ordinary (i : Fin 2) (c : Channel) (m : Meas) :
    s.Ordinary k (t.enterLocked i c m) := by
  simp [State.enterLocked, h]

@[simp] theorem State.leaveLocked_ordinary (i : Fin 2) (c : Channel) : s.Ordinary k (t.leaveLocked i c) := by
  simp [State.leaveLocked, h]

@[simp] theorem State.settle_ordinary (i : Fin 2) (c : Channel) : s.Ordinary k (t.settle i c) := by
  unfold State.settle State.enterUnsupported; (repeat' split) <;> simp [h]

@[simp] theorem State.frameEnd_ordinary (i : Fin 2) (c : Channel) (m : Meas) : s.Ordinary k (t.frameEnd i c m) := by
  simp [State.frameEnd, State.handFrameClose_ordinary h]

@[simp] theorem State.loseSync_ordinary (i : Fin 2) : s.Ordinary k (t.loseSync i) := by
  unfold State.loseSync; dsimp only; split <;> simp [h]

@[simp] theorem State.takeSync_ordinary (i : Fin 2) (n : FrameCounts) : s.Ordinary k (t.takeSync i n) := by
  unfold State.takeSync; dsimp only; (repeat' split) <;> simp [h]

@[simp] theorem State.atSync_ordinary (i : Fin 2) : s.Ordinary k (t.atSync i) := by
  unfold State.atSync; split <;> simp [h]

/-! FU (04): an INPUT is handed on where class 1 has room -/

@[simp] theorem State.sendRelease_ordinary (r : SrcRec) : s.Ordinary k (t.sendRelease r) := by
  simp [State.sendRelease, h]

@[simp] theorem State.requestSource_ordinary (p : Nat) : s.Ordinary k (t.requestSource p) := by
  unfold State.requestSource; (repeat' split) <;> simp [h]

theorem State.sendInput_ordinary (hroom : t.roomInClass1 = true) (r : SrcRec) (x : Snapshot) (b : Buttons)
    (f : Option PtrField) (w : Int) : s.Ordinary k (t.sendInput r x b f w) := by
  simp [State.sendInput, State.hand1_ordinary h _ hroom]

theorem State.runLeave_ordinary (hroom : t.roomInClass1 = true) (r : SrcRec) (x : LeaveKind) :
    s.Ordinary k (t.runLeave r x) := by
  unfold State.runLeave; split <;> simp [State.sendInput_ordinary h hroom]

@[simp] theorem State.leave_ordinary (r : SrcRec) (x : LeaveKind) : s.Ordinary k (t.leave r x) := by
  unfold State.leave
  split
  · next hroom => exact State.runLeave_ordinary h hroom r x
  · simp [h]

@[simp] theorem State.releaseSource_ordinary (p : Nat) : s.Ordinary k (t.releaseSource p) := by
  unfold State.releaseSource; (repeat' split) <;> simp [h]

@[simp] theorem State.leaveFocus_ordinary (p : Option Nat) : s.Ordinary k (t.leaveFocus p) := by
  unfold State.leaveFocus; (repeat' split) <;> simp [h]

@[simp] theorem State.autoRequest_ordinary (q : Option Nat) : s.Ordinary k (t.autoRequest q) := by
  unfold State.autoRequest; (repeat' split) <;> simp [h]

@[simp] theorem State.focusFrom_ordinary (p : Option Nat) : s.Ordinary k (t.focusFrom p) := by
  unfold State.focusFrom State.focusChange; split <;> simp [h]

@[simp] theorem State.removeRecord_ordinary (r : SrcRec) : s.Ordinary k (t.removeRecord r) := by
  unfold State.removeRecord State.dropRecord
  dsimp only
  split
  · split
    · next hroom =>
      rw [Bool.and_eq_true] at hroom
      simp [State.runLeave_ordinary h hroom.1]
    · simp [h]
  all_goals simp [h]

@[simp] theorem State.updateRecords_ordinary : s.Ordinary k t.updateRecords := by
  simp only [State.updateRecords, State.focusFrames_ordinary]
  exact State.foldl_ordinary (fun u r hu => State.removeRecord_ordinary hu r) _ h

omit h in
theorem State.runLeaves_ordinary (l : List Nat) (h : s.Ordinary k t) : s.Ordinary k (State.runLeaves l t) := by
  induction l generalizing t with
  | nil => exact h
  | cons p l ih =>
    unfold State.runLeaves
    split
    · next hroom =>
      split
      · exact ih h
      · split
        · exact ih h
        · exact ih (State.runLeave_ordinary h hroom _ _)
    · exact h

omit h in
theorem State.buildInput_ordinary (h : s.Ordinary k t) {r : SrcRec} (hdue : t.inputDue r = true) :
    s.Ordinary k (t.buildInput r) := by
  have hroom : t.roomInClass1 = true := by
    simp only [State.inputDue, Bool.and_eq_true] at hdue
    exact hdue.1.1.2
  simp [State.buildInput, State.sendInput_ordinary h hroom]

@[simp] theorem State.judgeInput_ordinary : s.Ordinary k t.judgeInput := by
  have hl := State.runLeaves_ordinary t.fu.leaveOrder h
  unfold State.judgeInput
  dsimp only
  split
  · exact hl
  · split
    · next hdue => exact State.buildInput_ordinary hl hdue
    · exact hl

@[simp] theorem State.judgeAtDesk_ordinary : s.Ordinary k t.judgeAtDesk := by
  unfold State.judgeAtDesk; split <;> simp [h]

@[simp] theorem State.reconcile_ordinary (r : SrcRec) (i : Option Byte) (w : Bool) :
    s.Ordinary k (t.reconcile r i w) := by
  unfold State.reconcile; (repeat' split) <;> simp [h]

@[simp] theorem State.takeVerdict_ordinary (r : SrcRec) (v : Verdict) : s.Ordinary k (t.takeVerdict r v) := by
  unfold State.takeVerdict; split <;> simp [h]

/-! SR (09) -/

@[simp] theorem State.recomputeLost_ordinary : s.Ordinary k t.recomputeLost := by simp [State.recomputeLost, h]

@[simp] theorem State.streamsChanged_ordinary : s.Ordinary k t.streamsChanged := by simp [State.streamsChanged, h]

@[simp] theorem State.requestRepair_ordinary (c : Ctx) : s.Ordinary k (t.requestRepair c) := by
  simp [State.requestRepair, h]

@[simp] theorem State.needRepair_ordinary (x : Stream) : s.Ordinary k (t.needRepair x) := by
  unfold State.needRepair; (repeat' split) <;> simp [h]

theorem State.takeSeq_ordinary {u : State} {x : Stream} {q : BitVec 16} (e : t.takeSeq x q = some u) :
    s.Ordinary k u := by
  unfold State.takeSeq at e
  (repeat' split at e) <;> simp at e <;> subst e <;> simp [h]

@[simp] theorem State.takeClose_ordinary (x : Stream) (f : CloseContent) : s.Ordinary k (t.takeClose x f) := by
  have hlive {u : State} (hu : s.Ordinary k u) : s.Ordinary k (u.closeLive x) := by
    unfold State.closeLive; (repeat' split) <;> simp [hu]
  unfold State.takeClose State.takeEpoch
  dsimp only
  split
  · split
    · exact h
    · split <;> exact State.streamsChanged_ordinary (hlive (by simp [h]))
  · simp [h]

@[simp] theorem State.takeTile_ordinary (x : Stream) (p : List Byte) : s.Ordinary k (t.takeTile x p) := by
  unfold State.takeTile; (repeat' split) <;> simp [h]

@[simp] theorem State.tile_ordinary (m : RxMsg) : s.Ordinary k (t.tile m) := by
  unfold State.tile
  split
  · exact h
  · next u e => simp [State.takeSeq_ordinary h e]

@[simp] theorem State.close_ordinary (m : RxMsg) : s.Ordinary k (t.close m) := by
  unfold State.close
  split
  · exact h
  · next u e => simp [State.takeSeq_ordinary h e]

@[simp] theorem State.hearSource_ordinary (m : RxMsg) : s.Ordinary k (t.hearSource m) := by
  simp [State.hearSource, h]

theorem State.takeBySr_ordinary (m : RxMsg) : s.Ordinary k (t.takeBySr m) := by
  unfold State.takeBySr; split <;> simp [h]

@[simp] theorem State.drainStreams_ordinary (l : List Stream) : s.Ordinary k (t.drainStreams l) := by
  refine State.foldl_ordinary (fun u e hu => State.takeBySr_ordinary hu e.msg) _ (h.setRx ?_)
  have h1 := filterMap_without_bytes .sr (upToLastOf l t.fp.rx)
  have h2 := congrArg heldBytes (upToLastOf_append_behindLastOf l t.fp.rx)
  simp only [heldBytes, List.map_append, List.sum_append] at *
  omega

@[simp] theorem State.foldl_makeCtx_ordinary (l : List Stream) : s.Ordinary k (l.foldl State.makeCtx t) :=
  State.foldl_ordinary (fun _ x hu => State.makeCtx_ordinary hu x) l h

@[simp] theorem State.foldl_removeCtx_ordinary (l : List Stream) : s.Ordinary k (l.foldl State.removeCtx t) :=
  State.foldl_ordinary (fun _ x hu => State.removeCtx_ordinary hu x) l h

@[simp] theorem State.updateCtxs_ordinary (l : List Stream) : s.Ordinary k (t.updateCtxs l) := by
  have hmade := State.foldl_makeCtx_ordinary (State.foldl_removeCtx_ordinary h l)
  simp [State.updateCtxs, hmade]

/-! II and CP (03, 02) -/

theorem State.changeLayout_ordinary (n : Nat) : s.Ordinary k (t.changeLayout n) := by
  unfold State.changeLayout
  dsimp only
  generalize ((t.sr.ctxs.map Ctx.stream).filter _) = removed
  have hctxs (c : CP) : s.Ordinary k (((t.drainStreams removed).setCP c).updateCtxs removed) :=
    State.updateCtxs_ordinary (by simp [h]) removed
  have hfocus (c : CP) (p : Option Nat) := State.focusFrom_ordinary (State.updateRecords_ordinary (hctxs c)) p
  simp [hfocus]

/-- Every command but A, which acknowledges (R48). -/
theorem State.command_ordinary {x : Command} (hx : k → x ≠ .acknowledge) : s.Ordinary k (t.command x) := by
  cases x with
  | select n =>
    simp only [State.command, State.selectLayout]
    split
    · exact h
    · exact State.changeLayout_ordinary h n
  | acknowledge =>
    have := (State.clears_ordinary h fun q => hx q rfl).1
    simp only [State.command, State.sendAttnClear]
    (repeat' split) <;> simp [this]
  | request | release | confine | leave => simp only [State.command]; (repeat' split) <;> simp [h]

/-- The raw snapshot recomputed: a command may be carried out, which may be A. -/
theorem State.rawChanged_ordinary {b : Bool} (hx : k → t.ii.namedCommand b = .leave) :
    s.Ordinary k (t.rawChanged b) := by
  by_cases hnew : t.ii.unionKeys = t.ii.raw
  · rwa [State.rawChanged_of_same b hnew]
  · rw [State.rawChanged_of_ne b hnew]
    exact State.command_ordinary (h.congr (by simp) (by simp)) fun q => by simp [hx q]

end Ops

/-! ### Commands -/

/-- The commands of the start, and a frame received, which may halt a listening endpoint (R170). -/
def ofStart : Instr → Bool
  | .reset _ | .imageReadComplete _ | .listenTimerExpiry | .frameReceived _ _ => true
  | _ => false

/-- The commands that may clear a latched condition (R48, R186, R188). -/
def mayClear : Instr → Bool
  | .attnClearTaken | .keyboardReport _ _ | .transmitArbiterTake => true
  | _ => false

section Ports
variable {k : Prop} {s t : State} (h : s.Ordinary k t)
include h

@[simp] theorem State.unsupportedPort_ordinary (i : Fin 2) (p : HostPort) : s.Ordinary k (t.unsupportedPort i p) := by
  simp [State.unsupportedPort, h]

@[simp] theorem State.enumerationFails_ordinary (i : Fin 2) : s.Ordinary k (t.enumerationFails i) := by
  unfold State.enumerationFails; dsimp only; split <;> simp [h]

/-- A port whose keys are released names no command (R40, R47). -/
theorem State.clearPort_ordinary (hraw : k → t.ii.raw = t.ii.unionKeys) (i : Fin 2) {p : HostPort}
    (hp : p.keys = .released) : s.Ordinary k (t.clearPort i p) := by
  rw [State.clearPort_eq]
  have hempty : s.Ordinary k (t.portEmptied i p) := h.congr (by simp [State.portEmptied]) (by simp [State.portEmptied])
  have hraw := State.rawChanged_ordinary hempty (b := false) fun q => State.portEmptied_namedCommand i (hraw q) hp
  simp [State.recomputeDevices, hraw]

theorem State.transferFails_ordinary (hraw : k → t.ii.raw = t.ii.unionKeys) (i : Fin 2) (x : Transfer) :
    s.Ordinary k (t.transferFails i x) := by
  unfold State.transferFails
  dsimp only
  split
  · exact State.clearPort_ordinary h hraw i rfl
  · simp [h]

@[simp] theorem State.takeMotion_ordinary (i : Fin 2) (m : MouseMotion) : s.Ordinary k (t.takeMotion i m) := by
  unfold State.takeMotion; dsimp only; split <;> simp [h]

end Ports

/-- A message that leaves its class (R174); SA then clears the pulses of a PRESENCE sent (R186). -/
theorem State.arbiterTake_ordinary {k : Prop} (hk : ¬ k) (s : State) : s.Ordinary k s.arbiterTake := by
  have hclass {f : FP} (hf : f.lasting = s.fp.lasting) (hb : s.fp.bounded = true → f.bounded = true) :=
    (State.Ordinary.refl k s).setFP hf hb
  unfold State.arbiterTake
  split
  · refine (State.fabricFrames_ordinary ..).2.1 _ |>.2 (hclass rfl ?_)
    simp_all [FP.bounded_iff, FP.rxHeld]
    omega
  · refine (State.fabricFrames_ordinary ..).2.2.1 _ |>.2 (hclass rfl ?_)
    simp_all [FP.bounded_iff, FP.rxHeld]
    omega
  · next m r h0 h1 hm =>
    have htail := hclass (f := { s.fp with class2 := r }) rfl (by
      have := List.count_le_count_cons (a := Out2.presence) (b := m) (l := r)
      simp_all [FP.bounded_iff, FP.rxHeld]
      omega)
    cases m with
    | presence => exact (State.clears_ordinary ((State.fabricFrames_ordinary ..).1 .. |>.2 htail) hk).2
    | frameClose => exact (State.fabricFrames_ordinary ..).2.2.2 .. |>.2 htail
  · exact (State.fabricFrames_ordinary ..).2.2.2 .. |>.2 (hclass rfl id)
  · simp

/-! LINK_UP and LINK_DOWN change FP's state alone, and the listen timer (R166, R177, R183). -/

theorem execLinkUp_ordinary (k : Prop) (s : State) : Ends (s.Ordinary k) (execLinkUp s) := by
  have h := (State.Ordinary.refl k s).setFP (f := { s.fp with linkUp := true }) rfl id
  simp only [execLinkUp]
  (repeat' split) <;> simp only [Ends_next]
  · exact h.setSA rfl fun _ => by simp
  · exact State.askPresence_ordinary h
  · exact h
  · exact h
  · exact .refl k s

theorem execLinkDown_ordinary (k : Prop) (s : State) : Ends (s.Ordinary k) (execLinkDown s) := by
  simp only [execLinkDown]
  split
  · have h := (State.Ordinary.refl k s).setFP (f := { s.fp.emptied with linkUp := false }) rfl fun hb => by
      simp_all [FP.bounded_iff, FP.rxHeld, FP.emptied]
    exact (Ends_next ..).2 (State.judgeAtDesk_ordinary h)
  · simp

/-- A message taken from the receive buffer, by whichever block (R171). -/
theorem exec_taken_ordinary {k : Prop} {c : Instr} (s : State)
    (hc : c ∈ [Instr.presenceTakenByCa, .presenceTakenByFu, .presenceTakenBySr, .tileTaken, .frameCloseTaken,
      .repairRequestTaken, .controlRequestTaken, .controlReleaseTaken, .inputTaken, .attnClearTaken,
      .controlVerdictTaken, .controlWithdrawnTaken, .lampsTaken])
    (hk : k → mayClear c = false) : Ends (s.Ordinary k) (exec c s) := by
  have h := State.Ordinary.refl k s
  have hclears {b : Taker} {x : Kind} {m : RxMsg} {u : State} (e : s.take b x = some (m, u)) (q : ¬ k) :=
    (State.clears_ordinary (State.take_ordinary h e) q).1
  cases c
  case attnClearTaken =>
    simp only [exec, execAttnClearTaken]
    split
    · split
      · simp
      · next m u e =>
        have := hclears e fun q => by simpa [mayClear] using hk q
        split <;> simp [State.take_ordinary h e, this]
    · simp
  case presenceTakenByCa | presenceTakenByFu | presenceTakenBySr | tileTaken | frameCloseTaken | repairRequestTaken
      | controlRequestTaken | controlReleaseTaken | inputTaken | controlVerdictTaken | controlWithdrawnTaken
      | lampsTaken =>
    simp only [exec, execPresenceTakenByCa, execPresenceTakenByFu, execPresenceTakenBySr, execTileTaken,
      execFrameCloseTaken, execRepairRequestTaken, execControlRequestTaken, execControlReleaseTaken, execInputTaken,
      execControlVerdictTaken, execControlWithdrawnTaken, execLampsTaken]
    split
    · split
      · simp
      · next m u e =>
        have hu := State.take_ordinary h e
        (repeat' split) <;> simp [hu]
    · simp
  all_goals simp at hc

theorem exec_ordinary {k : Prop} {c : Instr} {s : State} (hc : ofStart c = false)
    (hk : k → mayClear c = false ∧ s.ii.raw = s.ii.unionKeys) : Ends (s.Ordinary k) (exec c s) := by
  have h := State.Ordinary.refl k s
  have hclear (q : k) := (hk q).1
  have hraw (q : k) := (hk q).2
  cases c
  -- the link and the port (11)
  case linkUp => exact execLinkUp_ordinary k s
  case linkDown => exact execLinkDown_ordinary k s
  case presenceTimerExpiry => simp only [exec, execPresenceTimerExpiry]; split <;> simp
  case transmitArbiterTake =>
    have htake := State.arbiterTake_ordinary (k := k) (fun q => by simpa [mayClear] using hk q) s
    simp only [exec, execTransmitArbiterTake]
    split <;> simp [htake]
  -- messages (R171)
  case presenceTakenByCa | presenceTakenByFu | presenceTakenBySr | tileTaken | frameCloseTaken | repairRequestTaken
      | controlRequestTaken | controlReleaseTaken | inputTaken | attnClearTaken | controlVerdictTaken
      | controlWithdrawnTaken | lampsTaken => exact exec_taken_ordinary s (by simp) hclear
  -- CU and TS (07)
  case refreshWindowExpiry | frameSync | validLineEnd | tileRowBegin | tileRowComplete | syncTimerExpiry | tileChoice
      | syncPeriodEnd =>
    simp only [exec, execRefreshWindowExpiry, execFrameSync, execValidLineEnd, execTileRowBegin, execTileRowComplete,
      execSyncTimerExpiry, execTileChoice, execSyncPeriodEnd]
    (repeat' split) <;> simp
  -- CA (05)
  case viewerEntryExpiry | waitEntryExpiry | idleTimerExpiry | notHolderNoteExpiry =>
    simp only [exec, execViewerEntryExpiry, execWaitEntryExpiry, execIdleTimerExpiry, execNotHolderNoteExpiry]
    (repeat' split) <;> simp
  -- WP (06)
  case busPowerAppears | busPowerLost | busReset | setAddress | setConfiguration | setFeatureRemoteWake
      | clearFeatureRemoteWake | getDescriptor | getReport | setIdleOrProtocol | unsupportedStandardRequest
      | keyboardOutputReport | keyboardPoll | pointerPoll | queueAgeOverrun | busIdleSuspend | busResume
      | resumeSignallingEnd =>
    simp only [exec, execBusPowerAppears, execBusPowerLost, execBusReset, execSetAddress, execSetConfiguration,
      execSetFeatureRemoteWake, execClearFeatureRemoteWake, execGetDescriptor, execGetReport, execSetIdleOrProtocol,
      execUnsupportedStandardRequest, execKeyboardOutputReport, execKeyboardPoll, execPointerPoll,
      execQueueAgeOverrun, execBusIdleSuspend, execBusResume, execResumeSignallingEnd]
    (repeat' split) <;> simp
  -- II: the ports (03)
  case hostDeviceDisconnect port =>
    simp only [exec, execHostDeviceDisconnect]
    split
    · simp
    · exact (Ends_next ..).2 (State.clearPort_ordinary h hraw port rfl)
  case transferUnanswered | pollTransferFailure =>
    simp only [exec, execTransferUnanswered, execPollTransferFailure]
    (repeat' split) <;> simp [State.transferFails_ordinary h hraw]
  case keyboardReport port report =>
    have hnot (q : k) : False := by simpa [mayClear] using hk q
    have hchanged {u : State} (hu : s.Ordinary k u) (b : Bool) : s.Ordinary k (u.rawChanged b) :=
      State.rawChanged_ordinary hu fun q => (hnot q).elim
    simp only [exec, execKeyboardReport]
    (repeat' split) <;> simp [hchanged]
  -- II and CP: what else comes of the devices (03, 02)
  case hostDeviceConnect | enumerationComplete | enumerationFailure | pollAnsweredWithNoData | mouseReport
      | leadSeenTimerExpiry | commandTimerExpiry | lampReportComplete | lampRetryExpiry =>
    simp only [exec, execHostDeviceConnect, execEnumerationComplete, execEnumerationFailure,
      execPollAnsweredWithNoData, execMouseReport, execLeadSeenTimerExpiry, execCommandTimerExpiry,
      execLampReportComplete, execLampRetryExpiry]
    (repeat' split) <;> simp
  -- FU (04)
  case inputIntervalExpiry | askTimerExpiry | refusedTimerExpiry | absenceTimerExpiry | holdOffTimerExpiry =>
    simp only [exec, execInputIntervalExpiry, execAskTimerExpiry, execRefusedTimerExpiry, execAbsenceTimerExpiry,
      execHoldOffTimerExpiry]
    (repeat' split) <;> simp
  -- SR and HU (09, 10)
  case lostTimerExpiry stream =>
    simp only [exec, execLostTimerExpiry]
    split
    · simp
    · have hraise {u : State} (hu : s.Ordinary k u) (r : SR) : s.Ordinary k ((u.setSR r).raise .streamLost) := by
        simp [hu]
      split
      · exact (Ends_next ..).2 (State.judgeInput_ordinary (State.streamsChanged_ordinary (hraise (by simp) _)))
      · simp
  case staleTimerExpiry | repairTimerExpiry | minuteTimerExpiry | headLineStart =>
    simp only [exec, execStaleTimerExpiry, execRepairTimerExpiry, execMinuteTimerExpiry, execHeadLineStart]
    (repeat' split) <;> simp
  all_goals cases hc

/-! ### The start (12) -/

/-- What IMAGE_READ_COMPLETE can answer: nothing outside READING; a refusal of the state as it stands or of a desk's
with its heads read; a desk's acceptance, which has a VALID head; a source's (R180 to R182). -/
theorem exec_imageReadComplete_ends {P : State → Prop} {s : State} (hnot : s.sa.start ≠ .reading → P s)
    (hrefuse : s.sa.start = .reading → P s.refuse)
    (hheads : ∀ b, s.sa.start = .reading → s.role = .desk → P (s.headsRead b).refuse)
    (hdesk : ∀ b h lead, s.sa.start = .reading → s.role = .desk → lowestValid (readHeads b) = some h →
      P ((s.headsRead b).acceptDesk b h lead))
    (hsource : ∀ b, s.sa.start = .reading → s.role = .source → P (s.acceptSource b)) (flash : List Byte) :
    Ends P (exec (.imageReadComplete flash) s) := by
  by_cases hr : s.sa.start = .reading
  · cases hb : imageBody s.role flash with
    | none => simpa [exec_imageReadComplete_of_no_image hr hb] using hrefuse hr
    | some b =>
      cases hrole : s.role with
      | source =>
        rw [exec_imageReadComplete_of_source hr hrole hb, Ends_next, State.checkSource]
        split
        · exact hsource b hr hrole
        · exact hrefuse hr
      | desk =>
        rw [exec_imageReadComplete_of_desk hr hrole hb, Ends_next]
        unfold State.checkDesk
        dsimp only
        split
        · next h lead hh hl =>
          split
          · exact hdesk b h lead hr hrole hh
          · exact hheads b hr hrole
        · exact hheads b hr hrole
  · simpa [exec, execImageReadComplete, hr] using hnot hr

/-- What LISTEN_TIMER_EXPIRY can answer: nothing, or from LISTENING the beginning of the role's blocks (R183, R184). -/
theorem exec_listenTimerExpiry_ends {P : State → Prop} {s : State} (hnot : P s)
    (hdesk : s.sa.start = .listening → s.role = .desk → P s.stagesSet.beginDesk.askPresence)
    (hsource : s.sa.start = .listening → s.role = .source → P s.stagesSet.wpBegin.askPresence) :
    Ends P (exec .listenTimerExpiry s) := by
  by_cases hdue : s.sa.start = .listening ∧ ranFor s.now s.sa.listen 1000000
  · rw [exec_listenTimerExpiry_of_due hdue.1 hdue.2, Ends_next]
    cases hrole : s.role with
    | desk => exact hdesk hdue.1 hrole
    | source => exact hsource hdue.1 hrole
  · simpa [exec_listenTimerExpiry_of_not_due hdue] using hnot

/-- What FRAME_RECEIVED can answer: nothing, a condition latched, a halt in LISTENING, or, from SERVING on, a message
held for its takers where the buffer has room (R168 to R172). -/
theorem exec_frameReceived_ends {P : State → Prop} {s : State} (hsame : P s) (hlatch : ∀ c, P (s.latch c))
    (hhalt : s.sa.start = .listening → P (s.latch .stationClash).enterHalted)
    (hheld : ∀ m, s.sa.start = .serving → s.fp.rxHeld + m.size ≤ 262144 →
      P (s.setFP { s.fp with rx := s.fp.rx ++ [⟨m, s.takersOf m⟩] })) (fcs : Bool) (f : List Byte) :
    Ends P (exec (.frameReceived fcs f) s) := by
  have haccept (m : RxMsg) (hroom : s.fp.rxHeld + m.size ≤ 262144) : P (s.accept m) := by
    unfold State.accept
    dsimp only
    split
    · split
      · next h => exact hhalt h
      · exact hlatch _
    · split
      · exact hsame
      · next hserving =>
        split
        · exact hlatch _
        · split
          · exact hsame
          · exact hheld m (not_not.1 hserving) hroom
  simp only [exec, execFrameReceived]
  (repeat' split) <;> rw [Ends_next]
  · exact hlatch _
  · next hroom => exact haccept _ hroom
  · exact hlatch _
  · exact hsame

/-- How SA may go on without a reset: it does not leave HALTED or SERVING, keeps its stages, keeps the sets once READING
is over, and keeps stages that go with its start state (R179, R183, R186). -/
def SA.Advances (a b : SA) : Prop :=
  (a.start = .halted → b.start = .halted) ∧ (a.start = .serving → b.start = .serving)
    ∧ (a.imageOk = true → b.imageOk = true) ∧ (a.fabricUp = true → b.fabricUp = true)
    ∧ (a.serving = true → b.serving = true) ∧ (a.start ≠ .reading → b.mask = a.mask ∧ b.pulse = a.pulse)
    ∧ (a.stagesMatch = true → b.stagesMatch = true)

theorem SA.advances_of_lasting {a b : SA} (h : b.lasting = a.lasting) : a.Advances b := by
  obtain ⟨hstart, hok, hup, hserving, -, -, hmask, hpulse, -⟩ := SA.mk.inj h
  simp [SA.Advances, SA.stagesMatch, hstart, hok, hup, hserving, hmask, hpulse]

/-- What every command but RESET keeps of SA and FP; `k` asks for the latched bits. -/
def State.GoesOn (k : Prop) (s t : State) : Prop :=
  s.sa.Advances t.sa ∧ (s.sa.start ≠ .reading → t.fp.lasting = s.fp.lasting)
    ∧ (s.fp.bounded = true → t.fp.bounded = true) ∧ (k → s.sa.latched &&& ~~~t.sa.latched = 0)

theorem State.Ordinary.goesOn {k : Prop} {s t : State} (h : s.Ordinary k t) : s.GoesOn k t := by
  obtain ⟨hsa, hfp, hb, hl⟩ := h
  exact ⟨SA.advances_of_lasting hsa, fun _ => hfp, hb, hl⟩

section Start
variable {k : Prop} {s u : State}

/-- HALTED is entered from READING or LISTENING, with the lists emptied (R182, R170). -/
theorem State.enterHalted_goesOn (hs : s.sa.start = .reading ∨ s.sa.start = .listening) (h : s.Ordinary k u) :
    s.GoesOn k u.enterHalted := by
  obtain ⟨hsa, hfp, hb, hl⟩ := h
  obtain ⟨hstart, hok, hup, hserving, -, -, hmask, hpulse, -⟩ := SA.mk.inj hsa
  have hto : u.enterHalted.sa = SA.drive { u.sa with start := .halted, listen := none } := rfl
  refine ⟨?_, fun _ => hfp, fun _ => rfl, hl⟩
  simp only [SA.Advances, hto, SA.drive, SA.stagesMatch, hok, hup, hserving, hmask, hpulse]
  obtain hs | hs := hs <;> simp [hs] <;> exact fun _ a b => ⟨a, b⟩

/-- An image is refused in READING alone (R182). -/
theorem State.refuse_goesOn (hs : s.sa.start = .reading) (h : s.Ordinary k u) : s.GoesOn k u.refuse :=
  State.enterHalted_goesOn (.inl hs) (State.latch_ordinary h .imageFault)

/-- An image is accepted in READING alone (R181). -/
theorem State.acceptCommon_goesOn (hs : s.sa.start = .reading) (h : s.Ordinary k u) {b : List Byte} {v : State}
    (hsa : v.sa = (u.acceptCommon b).sa) (hfp : v.fp = (u.acceptCommon b).fp) : s.GoesOn k v := by
  obtain ⟨hlast, -, hb, hl⟩ := h
  obtain ⟨hstart, hok, hup, hserving, -⟩ := SA.mk.inj hlast
  refine ⟨?_, fun hn => absurd hs hn, fun q => ?_, fun q => ?_⟩
  · simp only [hsa, State.acceptCommon, State.setFP_sa, State.setSA_sa]
    simp [SA.Advances, SA.stagesMatch, SA.drive, hs, hup, hserving]
    exact fun _ a b => ⟨a, b⟩
  · rw [hfp]
    exact hb q
  · rw [hsa]
    exact hl q

/-- SERVING is entered from LISTENING (R183). -/
theorem State.stagesSet_goesOn (hs : s.sa.start = .listening) (h : s.stagesSet.Ordinary k u) : s.GoesOn k u := by
  obtain ⟨hlast, hfp, hb, hl⟩ := h
  obtain ⟨hstart, hok, hup, hserving, -, -, hmask, hpulse, -⟩ := SA.mk.inj hlast
  refine ⟨?_, fun _ => hfp, hb, hl⟩
  simp [SA.Advances, SA.stagesMatch, hstart, hok, hup, hserving, hmask, hpulse, State.stagesSet, hs]
  exact fun a _ _ => a

@[simp] theorem State.headsRead_ordinary (b : List Byte) : s.Ordinary k (s.headsRead b) := by
  unfold State.headsRead; dsimp only; split <;> simp

@[simp] theorem State.beginDesk_ordinary (h : s.Ordinary k u) : s.Ordinary k u.beginDesk := by
  have hmade : s.Ordinary k (u.cp.streams.foldl State.makeCtx u).placeAll.fillRecords := by simp [h]
  simp [State.beginDesk, hmade]

end Start

theorem exec_goesOn {k : Prop} {c : Instr} {s : State} (hc : ∀ r, c ≠ .reset r)
    (hk : k → mayClear c = false ∧ s.ii.raw = s.ii.unionKeys) : Ends (s.GoesOn k) (exec c s) := by
  have hsame := (State.Ordinary.refl k s).goesOn
  cases hstart : ofStart c with
  | false => exact fun t ht => (exec_ordinary hstart hk t ht).goesOn
  | true =>
    cases c
    case reset r => exact absurd rfl (hc r)
    case imageReadComplete flash =>
      have hheads (b : List Byte) : s.Ordinary k (s.headsRead b) := State.headsRead_ordinary b
      exact exec_imageReadComplete_ends (fun _ => hsame) (fun hs => State.refuse_goesOn hs (.refl k s))
        (fun b hs _ => State.refuse_goesOn hs (hheads b))
        (fun b h lead hs _ _ => State.acceptCommon_goesOn (b := b) hs (hheads b) (by simp [State.acceptDesk])
          (by simp [State.acceptDesk]))
        (fun b hs _ => State.acceptCommon_goesOn (b := b) hs (.refl k s) (by simp [State.acceptSource])
          (by simp [State.acceptSource])) flash
    case listenTimerExpiry =>
      have hbegun := State.beginDesk_ordinary (State.Ordinary.refl k s.stagesSet)
      have hwp := State.wpBegin_ordinary (State.Ordinary.refl k s.stagesSet)
      exact exec_listenTimerExpiry_ends hsame
        (fun hs _ => State.stagesSet_goesOn hs (State.askPresence_ordinary hbegun))
        (fun hs _ => State.stagesSet_goesOn hs (State.askPresence_ordinary hwp))
    case frameReceived fcs f =>
      refine exec_frameReceived_ends hsame
        (fun c => (State.latch_ordinary (.refl k s) c).goesOn)
        (fun hs => State.enterHalted_goesOn (.inr hs) (State.latch_ordinary (.refl k s) _))
        (fun m _ hroom => State.Ordinary.goesOn ((State.Ordinary.refl k s).setFP rfl fun hb => ?_)) fcs f
      simp only [FP.bounded_iff, FP.rxHeld, List.map_append, List.sum_append] at *
      simpa using ⟨hb.1, hb.2.1, hb.2.2.1, hb.2.2.2.1, hroom⟩
    all_goals cases hstart

/-! ### The statements -/

/-- Settles O5. -/
theorem onlyResetUndoesTheStart : Obligations.OnlyResetUndoesTheStart := by
  intro c s t hc ht
  obtain ⟨⟨hhalted, hserving, hok, hup, hstage, hsets, -⟩, hfp, -⟩ := exec_goesOn (k := False) hc False.elim t ht
  refine ⟨hhalted, hserving, hok, hup, hstage, fun hr => ?_⟩
  obtain ⟨hown, htype, -⟩ := FP.mk.inj (hfp hr)
  exact ⟨(hsets hr).1, (hsets hr).2, hown, htype⟩

/-- Settles O6. -/
theorem latchedBitsStay : Obligations.LatchedBitsStay := by
  intro c s t hsnap hreset hack hreport htake ht
  have hclear : mayClear c = false := by
    cases c <;> simp_all [mayClear]
  exact (exec_goesOn (k := True) hreset (fun _ => ⟨hclear, hsnap.1⟩) t ht).2.2.2 trivial

end Sys2Proof.Machine
end

section
/-!
PROOF. The bounds of every step (R123, R172, R173, R179, R183), and the canonical form of both frame stores: only a
valid line writes the source's, and only a tile, a clear or a new context writes the desk's.
-/

namespace Sys2Proof.Machine

/-! ### The desk frame store (R138, R145, R146, R148) -/

@[simp] theorem SR.put_store (r : SR) (c : Ctx) : (r.put c).store = r.store := rfl

@[simp] theorem SR.clear_storeWf {r : SR} (h : r.store.wf = true) (n : Fin 4) : (r.clear n).store.wf = true :=
  Memory.wf_clearRegion _ _ h

section Desk
variable {s : State} (h : s.sr.store.wf = true)
include h

@[simp] theorem State.makeCtx_storeWf (x : Stream) : (s.makeCtx x).sr.store.wf = true := by
  unfold State.makeCtx; split <;> simp [SR.clear, Memory.wf_clearRegion, h]

@[simp] theorem State.requestRepair_storeWf (c : Ctx) : (s.requestRepair c).sr.store.wf = true := by
  simp [State.requestRepair, h]

@[simp] theorem State.needRepair_storeWf (x : Stream) : (s.needRepair x).sr.store.wf = true := by
  unfold State.needRepair; (repeat' split) <;> simp [h]

theorem State.takeSeq_storeWf {x : Stream} {q : BitVec 16} {u : State} (e : s.takeSeq x q = some u) :
    u.sr.store.wf = true := by
  unfold State.takeSeq at e
  (repeat' split at e) <;> simp at e <;> subst e <;> simp [h]

@[simp] theorem State.takeEpoch_storeWf (c : Ctx) (f : CloseContent) : (s.takeEpoch c f).sr.store.wf = true := by
  exact State.needRepair_storeWf (by simp [State.placeStream, h]) c.stream

@[simp] theorem State.closeLive_storeWf (x : Stream) : (s.closeLive x).sr.store.wf = true := by
  unfold State.closeLive; (repeat' split) <;> simp [h]

@[simp] theorem State.takeClose_storeWf (x : Stream) (f : CloseContent) : (s.takeClose x f).sr.store.wf = true := by
  unfold State.takeClose; (repeat' split) <;> simp [State.streamsChanged, h]

@[simp] theorem State.takeTile_storeWf (x : Stream) (p : List Byte) : (s.takeTile x p).sr.store.wf = true := by
  unfold State.takeTile; (repeat' split) <;> simp [Memory.wf_setTile, h]

@[simp] theorem State.tile_storeWf (m : RxMsg) : (s.tile m).sr.store.wf = true := by
  unfold State.tile
  split
  · exact h
  · next u e => exact State.takeTile_storeWf (State.takeSeq_storeWf h e) ..

@[simp] theorem State.close_storeWf (m : RxMsg) : (s.close m).sr.store.wf = true := by
  unfold State.close
  split
  · exact h
  · next u e => exact State.takeClose_storeWf (State.takeSeq_storeWf h e) ..

@[simp] theorem State.hearSource_storeWf (m : RxMsg) : (s.hearSource m).sr.store.wf = true := by
  simp [State.hearSource, State.streamsChanged, h]

theorem State.takeBySr_storeWf (m : RxMsg) : (s.takeBySr m).sr.store.wf = true := by
  unfold State.takeBySr; split <;> simp [h]

omit h in
theorem State.foldl_storeWf {α : Type} {f : State → α → State}
    (hf : ∀ u a, u.sr.store.wf = true → (f u a).sr.store.wf = true) (l : List α) {s : State}
    (h : s.sr.store.wf = true) : (l.foldl f s).sr.store.wf = true :=
  List.foldlRecOn l f h fun u hu a _ => hf u a hu

@[simp] theorem State.drainStreams_storeWf (l : List Stream) : (s.drainStreams l).sr.store.wf = true :=
  State.foldl_storeWf (fun _ e hu => State.takeBySr_storeWf hu e.msg) _ h

@[simp] theorem State.updateCtxs_storeWf (l : List Stream) : (s.updateCtxs l).sr.store.wf = true := by
  have hremoved : (l.foldl State.removeCtx s).sr.store.wf = true :=
    State.foldl_storeWf (fun _ _ hu => by simpa [State.removeCtx] using hu) l h
  have hmade := State.foldl_storeWf (f := State.makeCtx) (fun _ x hu => State.makeCtx_storeWf hu x)
    (s.cp.streams.filter fun x => ((l.foldl State.removeCtx s).sr.ctx x).isNone) hremoved
  simpa [State.updateCtxs, State.recomputeLost, State.placeAll] using hmade

@[simp] theorem State.changeLayout_storeWf (n : Nat) : (s.changeLayout n).sr.store.wf = true := by
  simp [State.changeLayout, h]

@[simp] theorem State.command_storeWf (c : Command) : (s.command c).sr.store.wf = true := by
  unfold State.command State.selectLayout; (repeat' split) <;> simp [h]

@[simp] theorem State.rawChanged_storeWf (b : Bool) : (s.rawChanged b).sr.store.wf = true := by
  unfold State.rawChanged; dsimp only; (repeat' split) <;> simp [h]

@[simp] theorem State.clearPort_storeWf (i : Fin 2) (p : HostPort) : (s.clearPort i p).sr.store.wf = true := by
  simp [State.clearPort, State.recomputeDevices, h]

@[simp] theorem State.transferFails_storeWf (i : Fin 2) (x : Transfer) : (s.transferFails i x).sr.store.wf = true := by
  unfold State.transferFails; dsimp only; split <;> simp [h]

@[simp] theorem State.beginDesk_storeWf : s.beginDesk.sr.store.wf = true := by
  have hmade := State.foldl_storeWf (f := State.makeCtx) (fun _ x hu => State.makeCtx_storeWf hu x) s.cp.streams h
  simpa [State.beginDesk, State.placeAll] using hmade

end Desk

theorem exec_srStoreWf {s : State} (h : s.sr.store.wf = true) (c : Instr) :
    Ends (fun t => t.sr.store.wf = true) (exec c s) := by
  by_cases hsource : ofSource c = true
  · intro t ht
    obtain ⟨-, -, -, hsr, -⟩ := exec_sameDesk_of_source hsource s t ht
    rwa [hsr]
  cases c
  -- the start, the link and the fabric
  case reset r => simp [exec, execReset, Memory.wf_reset]
  case imageReadComplete flash =>
    exact exec_imageReadComplete_ends (fun _ => h) (by simp [h]) (by simp [h]) (by simp [h]) (by simp [h]) flash
  case listenTimerExpiry => exact exec_listenTimerExpiry_ends h (by simp [h]) (by simp [h])
  case frameReceived fcs f => exact exec_frameReceived_ends h (by simp [h]) (by simp [h]) (by simp [h]) fcs f
  case linkUp | linkDown | transmitArbiterTake | presenceTimerExpiry =>
    simp only [exec, execLinkUp, execLinkDown, execTransmitArbiterTake, execPresenceTimerExpiry]
    (repeat' split) <;> simp [h]
  -- messages to FU and SR
  case presenceTakenByFu | presenceTakenBySr | tileTaken | frameCloseTaken | controlVerdictTaken
      | controlWithdrawnTaken | lampsTaken =>
    simp only [exec, execPresenceTakenByFu, execPresenceTakenBySr, execTileTaken, execFrameCloseTaken,
      execControlVerdictTaken, execControlWithdrawnTaken, execLampsTaken]
    split
    · split
      · simp [h]
      · next m u e =>
        have hu : u.sr.store.wf = true := by simpa [(State.take_eq e).1] using h
        (repeat' split) <;> simp [hu]
    · simp [h]
  -- II and CP
  case hostDeviceConnect | hostDeviceDisconnect | enumerationComplete | enumerationFailure | transferUnanswered
      | pollTransferFailure | pollAnsweredWithNoData | keyboardReport | mouseReport | leadSeenTimerExpiry
      | commandTimerExpiry | lampReportComplete | lampRetryExpiry =>
    simp only [exec, execHostDeviceConnect, execHostDeviceDisconnect, execEnumerationComplete, execEnumerationFailure,
      execTransferUnanswered, execPollTransferFailure, execPollAnsweredWithNoData, execKeyboardReport, execMouseReport,
      execLeadSeenTimerExpiry, execCommandTimerExpiry, execLampReportComplete, execLampRetryExpiry]
    (repeat' split) <;> simp [h]
  -- FU
  case inputIntervalExpiry | askTimerExpiry | refusedTimerExpiry | absenceTimerExpiry | holdOffTimerExpiry =>
    simp only [exec, execInputIntervalExpiry, execAskTimerExpiry, execRefusedTimerExpiry, execAbsenceTimerExpiry,
      execHoldOffTimerExpiry]
    (repeat' split) <;> simp [h]
  -- SR and HU
  case staleTimerExpiry | lostTimerExpiry | repairTimerExpiry | minuteTimerExpiry | headLineStart =>
    simp only [exec, execStaleTimerExpiry, execLostTimerExpiry, execRepairTimerExpiry, execMinuteTimerExpiry,
      execHeadLineStart]
    (repeat' split) <;> simp [State.streamsChanged, h]
  all_goals exact absurd rfl hsource

/-! ### The source frame store (R116) -/

/-- CU's operations other than a valid line leave the store alone. -/
@[simp] theorem State.setChannel_cuStore (s : State) (i : Fin 2) (c : Channel) :
    (s.setChannel i c).cu.store = s.cu.store := rfl

@[simp] theorem State.leaveLocked_cuStore (s : State) (i : Fin 2) (c : Channel) :
    (s.leaveLocked i c).cu.store = s.cu.store := by simp [State.leaveLocked, State.setChannel]

@[simp] theorem State.loseSync_cuStore (s : State) (i : Fin 2) : (s.loseSync i).cu.store = s.cu.store := by
  unfold State.loseSync; dsimp only; split <;> simp [State.recomputeUnsupported]

@[simp] theorem State.settle_cuStore (s : State) (i : Fin 2) (c : Channel) : (s.settle i c).cu.store = s.cu.store := by
  unfold State.settle State.enterLocked State.enterUnsupported
  (repeat' split) <;> simp

@[simp] theorem State.takeSync_cuStore (s : State) (i : Fin 2) (n : FrameCounts) :
    (s.takeSync i n).cu.store = s.cu.store := by
  unfold State.takeSync State.frameEnd State.recomputeUnsupported
  dsimp only
  (repeat' split) <;> simp

theorem exec_cuStoreWf {s : State} (h : s.cu.store.wf = true) (c : Instr) :
    Ends (fun t => t.cu.store.wf = true) (exec c s) := by
  by_cases hdesk : ofDesk c = true
  · intro t ht
    obtain ⟨hcu, -⟩ := exec_sameSource_of_desk hdesk s t ht
    rwa [hcu]
  cases c
  -- the start, the link and the fabric
  case reset r => simp [exec, execReset, Memory.wf_reset]
  case imageReadComplete flash =>
    exact exec_imageReadComplete_ends (fun _ => h) (by simp [h]) (by simp [h]) (by simp [h]) (by simp [h]) flash
  case listenTimerExpiry => exact exec_listenTimerExpiry_ends h (by simp [h]) (by simp [h])
  case frameReceived fcs f => exact exec_frameReceived_ends h (by simp [h]) (by simp [h]) (by simp [h]) fcs f
  case linkUp | linkDown | transmitArbiterTake | presenceTimerExpiry =>
    simp only [exec, execLinkUp, execLinkDown, execTransmitArbiterTake, execPresenceTimerExpiry]
    (repeat' split) <;> simp [h]
  -- CU and TS: a valid line writes its row
  case frameSync i n => simp only [exec, execFrameSync, State.atSync]; (repeat' split) <;> simp [h]
  case validLineEnd i px =>
    have hrow (x y : Nat) (l : List Colour) := Memory.wf_setRow s.cu.store i.val x y l h
    simp only [exec, execValidLineEnd]
    (repeat' split) <;> simp [h, hrow]
  case tileRowBegin | tileRowComplete | syncTimerExpiry | tileChoice | syncPeriodEnd | refreshWindowExpiry =>
    simp only [exec, execTileRowBegin, execTileRowComplete, execSyncTimerExpiry, execTileChoice, execSyncPeriodEnd,
      execRefreshWindowExpiry]
    (repeat' split) <;> simp [h]
  -- messages
  case presenceTakenByCa | repairRequestTaken | controlRequestTaken | controlReleaseTaken | inputTaken
      | attnClearTaken =>
    simp only [exec, execPresenceTakenByCa, execRepairRequestTaken, execControlRequestTaken, execControlReleaseTaken,
      execInputTaken, execAttnClearTaken]
    split
    · split
      · simp [h]
      · next m u e =>
        have hu : u.cu.store.wf = true := by simpa [(State.take_eq e).1] using h
        (repeat' split) <;> simp [hu]
    · simp [h]
  -- CA and WP
  case viewerEntryExpiry | waitEntryExpiry | idleTimerExpiry | notHolderNoteExpiry | busPowerAppears | busPowerLost
      | busReset | setAddress | setConfiguration | setFeatureRemoteWake | clearFeatureRemoteWake | getDescriptor
      | getReport | setIdleOrProtocol | unsupportedStandardRequest | keyboardOutputReport | keyboardPoll | pointerPoll
      | queueAgeOverrun | busIdleSuspend | busResume | resumeSignallingEnd =>
    simp only [exec, execViewerEntryExpiry, execWaitEntryExpiry, execIdleTimerExpiry, execNotHolderNoteExpiry,
      execBusPowerAppears, execBusPowerLost, execBusReset, execSetAddress, execSetConfiguration,
      execSetFeatureRemoteWake, execClearFeatureRemoteWake, execGetDescriptor, execGetReport, execSetIdleOrProtocol,
      execUnsupportedStandardRequest, execKeyboardOutputReport, execKeyboardPoll, execPointerPoll,
      execQueueAgeOverrun, execBusIdleSuspend, execBusResume, execResumeSignallingEnd]
    (repeat' split) <;> simp [h]
  all_goals exact absurd rfl hdesk

/-! ### The tokens (R123, R124) -/

section Tokens
variable (s : State)

@[simp] theorem State.setTsChannel_withinDepth (i : Fin 2) (k : TsChannel) :
    (s.setTsChannel i k).ts.withinDepth = s.ts.withinDepth := rfl

@[simp] theorem State.fullRefresh_withinDepth : s.fullRefresh.ts.withinDepth = s.ts.withinDepth := rfl

@[simp] theorem State.refreshTrigger_withinDepth : s.refreshTrigger.ts.withinDepth = s.ts.withinDepth := by
  unfold State.refreshTrigger; split <;> rfl

@[simp] theorem State.hear_withinDepth (d : Nat) (w : Channels) : (s.hear d w).ts.withinDepth = s.ts.withinDepth := by
  unfold State.hear; (repeat' split) <;> simp

@[simp] theorem State.leaveLocked_withinDepth (i : Fin 2) (c : Channel) :
    (s.leaveLocked i c).ts.withinDepth = s.ts.withinDepth := by simp [State.leaveLocked]

@[simp] theorem State.loseSync_withinDepth (i : Fin 2) : (s.loseSync i).ts.withinDepth = s.ts.withinDepth := by
  unfold State.loseSync; dsimp only; split <;> simp [State.recomputeUnsupported]

@[simp] theorem State.settle_withinDepth (i : Fin 2) (c : Channel) :
    (s.settle i c).ts.withinDepth = s.ts.withinDepth := by
  unfold State.settle State.enterLocked State.enterUnsupported
  (repeat' split) <;> simp

@[simp] theorem State.takeSync_withinDepth (i : Fin 2) (n : FrameCounts) :
    (s.takeSync i n).ts.withinDepth = s.ts.withinDepth := by
  unfold State.takeSync State.frameEnd State.recomputeUnsupported
  dsimp only
  (repeat' split) <;> simp

@[simp] theorem State.arbiterTake_withinDepth : s.arbiterTake.ts.withinDepth = s.ts.withinDepth := by
  have hstream (u : State) (c : Fin 2) (k : Kind) (p : List Byte) :
      (u.sendStream c k p).ts.withinDepth = u.ts.withinDepth := rfl
  unfold State.arbiterTake State.send2
  (repeat' split) <;> simp [hstream]

/-- Acceptance fills the count to the depth (R123). -/
@[simp] theorem State.acceptSource_withinDepth (b : List Byte) : (s.acceptSource b).ts.withinDepth = true := by
  simp [State.acceptSource, TS.withinDepth]

end Tokens

theorem exec_withinDepth {s : State} (h : s.ts.withinDepth = true) (c : Instr) :
    Ends (fun t => t.ts.withinDepth = true) (exec c s) := by
  by_cases hdesk : ofDesk c = true
  · intro t ht
    obtain ⟨-, hts, -⟩ := exec_sameSource_of_desk hdesk s t ht
    rwa [hts]
  cases c
  -- the start, the link and the fabric
  case reset r => simp [exec, execReset, State.reset, TS.reset, TS.withinDepth]
  case imageReadComplete flash =>
    exact exec_imageReadComplete_ends (fun _ => h) (by simp [h]) (by simp [h]) (by simp [h]) (by simp) flash
  case listenTimerExpiry => exact exec_listenTimerExpiry_ends h (by simp [h]) (by simp [h])
  case frameReceived fcs f => exact exec_frameReceived_ends h (by simp [h]) (by simp [h]) (by simp [h]) fcs f
  case linkUp | linkDown | transmitArbiterTake | presenceTimerExpiry =>
    simp only [exec, execLinkUp, execLinkDown, execTransmitArbiterTake, execPresenceTimerExpiry]
    (repeat' split) <;> simp [h]
  -- CU and TS: a tile handed on spends its price (R129)
  case tileChoice =>
    have hspent (n : Nat) : s.ts.tokens - n ≤ 8 * s.ts.depth :=
      (Nat.sub_le ..).trans (by simpa [TS.withinDepth] using h)
    simp only [exec, execTileChoice]
    split <;> simp [TS.withinDepth, hspent]
    simpa [TS.withinDepth] using h
  case frameSync i n => simp only [exec, execFrameSync, State.atSync]; (repeat' split) <;> simp [h]
  case validLineEnd | tileRowBegin | tileRowComplete | syncTimerExpiry | syncPeriodEnd | refreshWindowExpiry =>
    simp only [exec, execValidLineEnd, execTileRowBegin, execTileRowComplete, execSyncTimerExpiry, execSyncPeriodEnd,
      execRefreshWindowExpiry]
    (repeat' split) <;> simp [h]
    all_goals exact h
  -- messages
  case presenceTakenByCa | repairRequestTaken | controlRequestTaken | controlReleaseTaken | inputTaken
      | attnClearTaken =>
    simp only [exec, execPresenceTakenByCa, execRepairRequestTaken, execControlRequestTaken, execControlReleaseTaken,
      execInputTaken, execAttnClearTaken]
    split
    · split
      · simp [h]
      · next m u e =>
        have hu : u.ts.withinDepth = true := by simpa [(State.take_eq e).1] using h
        (repeat' split) <;> simp [hu]
    · simp [h]
  -- CA and WP
  case viewerEntryExpiry | waitEntryExpiry | idleTimerExpiry | notHolderNoteExpiry | busPowerAppears | busPowerLost
      | busReset | setAddress | setConfiguration | setFeatureRemoteWake | clearFeatureRemoteWake | getDescriptor
      | getReport | setIdleOrProtocol | unsupportedStandardRequest | keyboardOutputReport | keyboardPoll | pointerPoll
      | queueAgeOverrun | busIdleSuspend | busResume | resumeSignallingEnd =>
    simp only [exec, execViewerEntryExpiry, execWaitEntryExpiry, execIdleTimerExpiry, execNotHolderNoteExpiry,
      execBusPowerAppears, execBusPowerLost, execBusReset, execSetAddress, execSetConfiguration,
      execSetFeatureRemoteWake, execClearFeatureRemoteWake, execGetDescriptor, execGetReport, execSetIdleOrProtocol,
      execUnsupportedStandardRequest, execKeyboardOutputReport, execKeyboardPoll, execPointerPoll,
      execQueueAgeOverrun, execBusIdleSuspend, execBusResume, execResumeSignallingEnd]
    (repeat' split) <;> simp [h]
  all_goals exact absurd rfl hdesk

/-- An idle microsecond accrues tokens up to the depth (R124). -/
theorem TS.accrue_withinDepth (t : TS) : t.accrue.withinDepth = true := by
  simp [TS.accrue, TS.withinDepth]

/-! ### The start's own bounds -/

/-- Every command keeps the stages that go with the start state, and FP's bounds: a RESET sets them (R179), and any
other goes on. -/
theorem exec_stages_bounded (s : State) (c : Instr) :
    Ends (fun t => (s.sa.stagesMatch = true → t.sa.stagesMatch = true)
      ∧ (s.fp.bounded = true → t.fp.bounded = true)) (exec c s) := by
  by_cases hc : ∀ r, c ≠ .reset r
  · intro t ht
    obtain ⟨⟨-, -, -, -, -, -, hstages⟩, -, hbounded, -⟩ := exec_goesOn (k := False) hc False.elim t ht
    exact ⟨hstages, hbounded⟩
  · obtain ⟨r, rfl⟩ := not_forall_not.1 hc
    simp [exec, execReset, State.reset, SA.reset, SA.stagesMatch, FP.reset, FP.bounded, FP.rxHeld]

/-- Settles O10 (R123, R172, R173, R179, R183). -/
theorem boundsKept : Obligations.BoundsKept := by
  refine ⟨fun s t h => ?_, fun s t h => ?_, fun s t h => ?_, fun s t h => ?_⟩
  · exact step_keeps (fun _ _ => id) (fun _ => id) (fun c s h t ht => (exec_stages_bounded s c t ht).1 h) h
  · exact step_keeps (P := fun s => s.fp.bounded = true) (fun _ _ => id) (fun _ => id)
      (fun c s h t ht => (exec_stages_bounded s c t ht).2 h) h
  · refine step_keeps (P := fun s => s.storesWf = true) (fun _ _ => id) (fun _ => id) (fun c s h t ht => ?_) h
    obtain ⟨hcu, hsr⟩ := Bool.and_eq_true_iff.1 h
    exact Bool.and_eq_true_iff.2 ⟨exec_cuStoreWf hcu c t ht, exec_srStoreWf hsr c t ht⟩
  · exact step_keeps (P := fun s => s.ts.withinDepth = true) (fun _ _ => id) (fun s _ => TS.accrue_withinDepth s.ts)
      (fun c s h => exec_withinDepth h c) h

end Sys2Proof.Machine
end

section
/-!
PROOF. The workstation port's ranges (R96, R102, R103): its queue of at most 32 snapshots with no repeat, the logical
position and the wheel accumulator, kept by every step.
-/

namespace Sys2Proof.Machine

theorem noRepeats_iff (l : List Snapshot) : noRepeats l = true ↔ l.IsChain (· ≠ ·) := by
  induction l using noRepeats.induct with
  | case1 => simp [noRepeats]
  | case2 a => simp [noRepeats]
  | case3 a b r ih => simp [noRepeats, ih]

/-- The rule of the queue (R96): at most 32 entries, no snapshot twice in a row. -/
def queueOk (q : List QueueEntry) : Prop := q.length ≤ 32 ∧ (q.map QueueEntry.snapshot).IsChain (· ≠ ·)

theorem WP.inRange_iff (w : WP) : w.inRange = true ↔
    queueOk w.queue ∧ w.x ≤ 32767 ∧ w.y ≤ 32767 ∧ -32768 ≤ w.wheel ∧ w.wheel ≤ 32767 := by
  simp [WP.inRange, queueOk, noRepeats_iff, and_assoc]

/-! ### WP's own operations -/

section Port
variable {w : WP}

@[simp] theorem queueOk_nil : queueOk [] := ⟨by simp, .nil⟩

@[simp] theorem queueOk_singleton (e : QueueEntry) : queueOk [e] := ⟨by simp, .singleton _⟩

theorem queueOk.tail {e : QueueEntry} {r : List QueueEntry} (h : queueOk (e :: r)) : queueOk r :=
  ⟨(Nat.le_succ _).trans h.1, h.2.tail⟩

/-- An offer adds no repeat: what it puts at the end differs from what stands there (R96). -/
theorem WP.offer_queueOk (h : queueOk w.queue) (k : Snapshot) (now : Time) : queueOk (w.offer k now).queue := by
  obtain ⟨-, e⟩ | ⟨hk, hroom, e⟩ | ⟨l, a, x, -, -, hq, ⟨-, e⟩ | ⟨ha, e⟩⟩ := w.offer_cases k now <;> rw [e]
  · exact h
  · refine ⟨by simpa using hroom, ?_⟩
    rw [List.map_append, List.isChain_append]
    refine ⟨h.2, .singleton _, fun y hy z hz => ?_⟩
    obtain ⟨t, ht, rfl⟩ : ∃ t, w.queue.getLast? = some t ∧ t.snapshot = y := by simpa using hy
    obtain rfl : k = z := by simpa using hz
    simpa [WP.reference, ht, ne_comm] using hk
  · rw [hq] at h
    obtain ⟨hlen, hchain⟩ := h
    refine ⟨by simp at hlen ⊢; omega, ?_⟩
    simpa using hchain.dropLast
  · rw [hq] at h
    obtain ⟨hlen, hchain⟩ := h
    refine ⟨by simpa using hlen, ?_⟩
    simp only [List.map_append, List.map_cons, List.map_nil, List.isChain_append] at hchain ⊢
    exact ⟨hchain.1, by simpa using ha, by simpa using hchain.2.2⟩

theorem WP.offerUnlessDetached_queueOk (h : queueOk w.queue) (k : Snapshot) (now : Time) :
    queueOk (w.offerUnlessDetached k now).queue := by
  unfold WP.offerUnlessDetached
  split
  · exact h
  · exact WP.offer_queueOk h k now

/-- The logical position stays below 32768 (R102). -/
theorem WP.point_range (h : w.x ≤ 32767 ∧ w.y ≤ 32767) (f : Option PtrField) :
    (w.point f).x ≤ 32767 ∧ (w.point f).y ≤ 32767 := by
  unfold WP.point
  (repeat' split)
  · exact h
  · exact ⟨Nat.min_le_left .., Nat.min_le_left ..⟩
  · exact h

variable (h : w.inRange = true)
include h

theorem WP.received_inRange (i : InputContent) (now : Time) : (w.received i now).inRange = true := by
  rw [WP.inRange_iff] at h ⊢
  obtain ⟨hq, hx, hy, hlo, hhi⟩ := h
  have hp := WP.point_range ⟨hx, hy⟩ i.field
  refine ⟨WP.offerUnlessDetached_queueOk hq .., hp.1, hp.2, ?_, ?_⟩ <;> simp only [WP.received] <;> omega

theorem WP.holderChanged_inRange (now : Time) : (w.holderChanged now).inRange = true := by
  rw [WP.inRange_iff] at h ⊢
  obtain ⟨hq, hrest⟩ := h
  rw [WP.holderChanged_queue]
  exact ⟨WP.offerUnlessDetached_queueOk hq .., hrest⟩

theorem WP.emptied_inRange (q : List QueueEntry) (hq : queueOk q) : ({ w with queue := q } : WP).inRange = true := by
  rw [WP.inRange_iff] at h ⊢
  exact ⟨hq, h.2⟩

@[simp] theorem WP.busReset_inRange : w.busReset.inRange = true := by
  rw [WP.inRange_iff] at h ⊢
  obtain ⟨-, hx, hy, -⟩ := h
  exact ⟨queueOk_nil, hx, hy, by simp [WP.busReset]⟩

@[simp] theorem WP.lockChange_inRange (i : Fin 2) (z : Option Size) : (w.lockChange i z).inRange = true := h

/-- A wheel share leads the accumulator toward 0 (R103). -/
theorem WP.sharePolled_inRange (d : Option PointerReport) :
    ({ w with wheel := w.wheel - wheelShare w.wheel, delivered := d } : WP).inRange = true := by
  rw [WP.inRange_iff] at h ⊢
  obtain ⟨hq, hx, hy, hlo, hhi⟩ := h
  refine ⟨hq, hx, hy, ?_⟩
  simp only [wheelShare_eq]
  omega

end Port

/-! ### The part's operations -/

section Ops
variable {s : State} (h : s.wp.inRange = true)
include h

@[simp] theorem State.wpInput_wpInRange (i : InputContent) : (s.wpInput i).wp.inRange = true := by
  rw [State.wpInput_wp]
  exact WP.received_inRange h i s.now

@[simp] theorem State.wpHolderChange_wpInRange (d : Option Nat) : (s.wpHolderChange d).wp.inRange = true := by
  have hw := WP.holderChanged_inRange h s.now
  unfold State.wpHolderChange
  split
  · exact hw
  · rw [(State.lampsTo_frame ..).2.2.2.2.2.2.2.1]
    exact hw

@[simp] theorem State.wpBusReset_wpInRange : s.wpBusReset.wp.inRange = true := by
  simp [State.wpBusReset, h]

@[simp] theorem State.wpDetach_wpInRange : s.wpDetach.wp.inRange = true := by
  have hw : (s.wp.detach).inRange = true := WP.emptied_inRange h [] queueOk_nil
  have hlamps (l : Lamps) : ({ s.wp.detach with lamps := l } : WP).inRange = true := hw
  unfold State.wpDetach
  dsimp only
  split <;> simp [State.raise, hw, hlamps]

@[simp] theorem State.wpBegin_wpInRange : s.wpBegin.wp.inRange = true := by
  unfold State.wpBegin; split <;> simp [h]

@[simp] theorem State.answer_wpInRange (a : UsbAnswer) : (s.answer a).wp.inRange = true := h

@[simp] theorem State.stalled_wpInRange : s.stalled.wp.inRange = true := by
  unfold State.stalled; split <;> simp [h]

@[simp] theorem State.wpRemoteWake_wpInRange (v : Bool) : (s.wpRemoteWake v).wp.inRange = true := by
  unfold State.wpRemoteWake
  split
  · exact h
  · simp [h]

/-! CA tells WP of holder changes and hands it INPUT (R85, R86) -/

@[simp] theorem State.grant_wpInRange (d r : Nat) (i : Byte) : (s.grant d r i).wp.inRange = true := by
  simp [State.grant, h]

@[simp] theorem State.emptySlot_wpInRange : s.emptySlot.wp.inRange = true := by
  unfold State.emptySlot; dsimp only; split <;> simp [h]

omit h in
theorem State.makeRoom_wp {u : State} {r : Nat} (e : s.makeRoom r = some u) : u.wp = s.wp := by
  unfold State.makeRoom at e
  (repeat' split at e) <;> simp at e <;> subst e <;> simp

@[simp] theorem State.preempt_wpInRange (x : Slot) (d r : Nat) (i : Byte) : (s.preempt x d r i).wp.inRange = true := by
  unfold State.preempt
  split
  · next u e => simp [State.makeRoom_wp e, h]
  · simp [h]

@[simp] theorem State.joinWait_wp (d r : Nat) (i : Byte) : (s.joinWait d r i).wp.inRange = true := by
  unfold State.joinWait
  split
  · next u e => simp [State.makeRoom_wp e, h]
  · simp [h]

@[simp] theorem State.request_wpInRange (d : Nat) (i : Byte) : (s.request d i).wp.inRange = true := by
  unfold State.request; dsimp only; (repeat' split) <;> simp [h]

@[simp] theorem State.inputFrom_wpInRange (d : Nat) (q : BitVec 16) (i : InputContent) :
    (s.inputFrom d q i).wp.inRange = true := by
  unfold State.inputFrom State.notHolder; (repeat' split) <;> simp [h]

/-! CU tells WP of locks (R101) -/

@[simp] theorem State.leaveLocked_wpInRange (i : Fin 2) (c : Channel) : (s.leaveLocked i c).wp.inRange = true := by
  simp [State.leaveLocked, h]

@[simp] theorem State.enterLocked_wpInRange (i : Fin 2) (c : Channel) (m : Meas) :
    (s.enterLocked i c m).wp.inRange = true := by
  simp [State.enterLocked, h]

@[simp] theorem State.loseSync_wpInRange (i : Fin 2) : (s.loseSync i).wp.inRange = true := by
  unfold State.loseSync; dsimp only; split <;> simp [h]

@[simp] theorem State.settle_wpInRange (i : Fin 2) (c : Channel) : (s.settle i c).wp.inRange = true := by
  unfold State.settle; (repeat' split) <;> simp [h]

@[simp] theorem State.takeSync_wpInRange (i : Fin 2) (n : FrameCounts) : (s.takeSync i n).wp.inRange = true := by
  unfold State.takeSync; dsimp only; (repeat' split) <;> simp [h]

@[simp] theorem State.hear_wp (d : Nat) (c : Channels) : (s.hear d c).wp.inRange = true := by
  unfold State.hear; (repeat' split) <;> simp [h]

end Ops

theorem exec_wpInRange {s : State} (h : s.wp.inRange = true) (c : Instr) :
    Ends (fun t => t.wp.inRange = true) (exec c s) := by
  by_cases hdesk : ofDesk c = true
  · intro t ht
    obtain ⟨-, -, -, hwp⟩ := exec_sameSource_of_desk hdesk s t ht
    rwa [hwp]
  cases c
  -- the start, the link and the fabric
  case reset r => simp [exec, execReset, WP.reset, WP.inRange, noRepeats]
  case imageReadComplete flash =>
    refine exec_imageReadComplete_ends (fun _ => h) (by simp [h]) (by simp [h]) (by simp [h]) (fun b _ _ => ?_) flash
    exact h
  case listenTimerExpiry => exact exec_listenTimerExpiry_ends h (by simp [h]) (by simp [h])
  case frameReceived fcs f => exact exec_frameReceived_ends h (by simp [h]) (by simp [h]) (by simp [h]) fcs f
  case linkUp | linkDown | transmitArbiterTake | presenceTimerExpiry =>
    simp only [exec, execLinkUp, execLinkDown, execTransmitArbiterTake, execPresenceTimerExpiry]
    (repeat' split) <;> simp [h]
  -- CU and TS
  case frameSync i n => simp only [exec, execFrameSync, State.atSync]; (repeat' split) <;> simp [h]
  case validLineEnd | tileRowBegin | tileRowComplete | syncTimerExpiry | syncPeriodEnd | refreshWindowExpiry
      | tileChoice =>
    simp only [exec, execValidLineEnd, execTileRowBegin, execTileRowComplete, execSyncTimerExpiry, execSyncPeriodEnd,
      execRefreshWindowExpiry, execTileChoice]
    (repeat' split) <;> simp [h]
  -- messages
  case presenceTakenByCa | repairRequestTaken | controlRequestTaken | controlReleaseTaken | inputTaken
      | attnClearTaken =>
    simp only [exec, execPresenceTakenByCa, execRepairRequestTaken, execControlRequestTaken, execControlReleaseTaken,
      execInputTaken, execAttnClearTaken]
    split
    · split
      · simp [h]
      · next m u e =>
        have hu : u.wp.inRange = true := by simpa [(State.take_eq e).1] using h
        (repeat' split) <;> simp [hu]
    · simp [h]
  -- CA
  case viewerEntryExpiry | waitEntryExpiry | idleTimerExpiry | notHolderNoteExpiry =>
    simp only [exec, execViewerEntryExpiry, execWaitEntryExpiry, execIdleTimerExpiry, execNotHolderNoteExpiry]
    (repeat' split) <;> simp [h]
  -- WP: what goes through the queue, the position and the accumulator
  case busPowerAppears =>
    have hvbus : ({ s.wp with vbus := true } : WP).inRange = true := h
    have hreset := WP.busReset_inRange hvbus
    simp only [exec, execBusPowerAppears]
    split
    · simpa [State.wpBusReset] using hreset
    · simpa using hvbus
  case busPowerLost =>
    have hvbus : ({ s.wp with vbus := false } : WP).inRange = true := h
    simp only [exec, execBusPowerLost]
    split <;> simp [hvbus]
  case keyboardPoll a =>
    simp only [exec, execKeyboardPoll]
    split
    · split
      · split
        · simp [h]
        · next e r hq =>
          have htail : ({ s.wp with queue := r } : WP).inRange = true :=
            WP.emptied_inRange h r (queueOk.tail (hq ▸ ((WP.inRange_iff _).1 h).1))
          split
          · exact (Ends_next ..).2 htail
          · simp [h]
      · simp [h]
    · simp [h]
  case pointerPoll a =>
    simp only [exec, execPointerPoll]
    (repeat' split) <;> simp [h]
    exact WP.sharePolled_inRange h (some s.wp.pointerNow)
  case queueAgeOverrun =>
    have hover : (s.wp.overrun s.now).inRange = true := WP.emptied_inRange h _ (queueOk_singleton _)
    simp only [exec, execQueueAgeOverrun]
    split <;> simp [h, hover]
  -- WP: the bus
  case busReset | setAddress | setConfiguration | setFeatureRemoteWake | clearFeatureRemoteWake | getDescriptor
      | getReport | setIdleOrProtocol | unsupportedStandardRequest | keyboardOutputReport | busIdleSuspend | busResume
      | resumeSignallingEnd =>
    simp only [exec, execBusReset, execSetAddress, execSetConfiguration, execSetFeatureRemoteWake,
      execClearFeatureRemoteWake, execGetDescriptor, execGetReport, execSetIdleOrProtocol,
      execUnsupportedStandardRequest, execKeyboardOutputReport, execBusIdleSuspend, execBusResume,
      execResumeSignallingEnd]
    (repeat' split) <;> simp [h]
    all_goals exact h
  all_goals exact absurd rfl hdesk

/-- Settles O11 (R96, R102, R103): an idle microsecond forgets at most a resume (R105). -/
theorem workstationKept : Obligations.WorkstationKept := by
  intro s t h
  refine step_keeps (P := fun s => s.wp.inRange = true) (fun _ _ => id) (fun s h => ?_)
    (fun c s h => exec_wpInRange h c) h
  show (s.wp.forgetResume (s.now + 1)).inRange = true
  unfold WP.forgetResume
  split <;> exact h

end Sys2Proof.Machine
end

section
/-!
PROOF. The arbiter's tables (R71, R72, R73, R88): the wait list's size, order and desks, against the holder slot, the
viewer table and the notes, kept by every step.
-/

namespace Sys2Proof.Machine

/-! ### The wait list -/

theorem ranksFall_iff (l : List WaitEntry) : ranksFall l = true ↔ l.Pairwise fun a b => b.rank ≤ a.rank := by
  have : IsTrans WaitEntry fun a b => b.rank ≤ a.rank := ⟨fun _ _ _ hab hbc => hbc.trans hab⟩
  rw [← List.isChain_iff_pairwise]
  induction l using ranksFall.induct with
  | case1 => simp [ranksFall]
  | case2 a => simp [ranksFall]
  | case3 a b r ih => simp [ranksFall, ih]

/-- A wait list in order (R72): at most 4 entries, each desk once, ranks not rising. -/
def waitOk (l : List WaitEntry) : Prop :=
  l.length ≤ 4 ∧ (l.map WaitEntry.desk).Nodup ∧ l.Pairwise fun a b => b.rank ≤ a.rank

/-- A desk has an entry in a wait list. -/
def waitHas (l : List WaitEntry) (d : Nat) : Prop := d ∈ l.map WaitEntry.desk

@[simp] theorem waitOk_nil : waitOk [] := by simp [waitOk]

theorem waitOk.sublist {l m : List WaitEntry} (h : waitOk l) (hm : m.Sublist l) : waitOk m :=
  ⟨hm.length_le.trans h.1, h.2.1.sublist (hm.map _), h.2.2.sublist hm⟩

theorem waitHas.of_sublist {l m : List WaitEntry} {d : Nat} (hm : m.Sublist l) (h : waitHas m d) : waitHas l d :=
  (hm.map _).subset h

/-- The wait list with the ids of a desk's entry changed is the same list otherwise. -/
theorem waitOk.reid {l : List WaitEntry} (h : waitOk l) (d : Nat) (i : Byte) :
    waitOk (l.map fun e => if e.desk = d then { e with id := i } else e) := by
  obtain ⟨hlen, hnodup, hranks⟩ := h
  have hdesk : WaitEntry.desk ∘ (fun e => if e.desk = d then { e with id := i } else e) = WaitEntry.desk := by
    funext e; dsimp; split <;> rfl
  have hrank (e : WaitEntry) : (if e.desk = d then { e with id := i } else e).rank = e.rank := by split <;> rfl
  refine ⟨by simpa using hlen, by simpa [hdesk] using hnodup, ?_⟩
  simpa [List.pairwise_map, hrank] using hranks

theorem waitHas_reid (l : List WaitEntry) (d a : Nat) (i : Byte) :
    waitHas (l.map fun e => if e.desk = d then { e with id := i } else e) a ↔ waitHas l a := by
  have hdesk : WaitEntry.desk ∘ (fun e => if e.desk = d then { e with id := i } else e) = WaitEntry.desk := by
    funext e; dsimp; split <;> rfl
  simp [waitHas, hdesk, List.map_map]

/-- A placed entry is the one thing new. -/
theorem placeEntry_perm (ahead : Nat → Bool) (e : WaitEntry) (l : List WaitEntry) :
    (placeEntry ahead e l).Perm (e :: l) := by
  rw [placeEntry_eq]
  exact List.perm_middle.trans (by rw [List.takeWhile_append_dropWhile])

theorem waitHas_placed (ahead : Nat → Bool) (e : WaitEntry) (l : List WaitEntry) (d : Nat) :
    waitHas (placeEntry ahead e l) d ↔ d = e.desk ∨ waitHas l d := by
  rw [waitHas, ((placeEntry_perm ahead e l).map _).mem_iff]
  simp [waitHas]

/-- Where every entry ahead ranks at least as high as the new one, and every other at most as high, the new one stands
in order of rank (R78, R80). -/
theorem placeEntry_pairwise {e : WaitEntry} {ahead : Nat → Bool} (hahead : ∀ k, ahead k = true → e.rank ≤ k)
    (hbehind : ∀ k, ahead k = false → k ≤ e.rank) {l : List WaitEntry}
    (h : l.Pairwise fun a b => b.rank ≤ a.rank) : (placeEntry ahead e l).Pairwise fun a b => b.rank ≤ a.rank := by
  induction l with
  | nil => simp [placeEntry]
  | cons x r ih =>
    obtain ⟨hx, hr⟩ := List.pairwise_cons.1 h
    unfold placeEntry
    split
    · next hax =>
      refine List.pairwise_cons.2 ⟨fun y hy => ?_, ih hr⟩
      obtain rfl | hy := List.mem_cons.1 ((placeEntry_perm ..).subset hy)
      · exact hahead _ hax
      · exact hx y hy
    · next hax =>
      have hxe := hbehind _ (by simpa using hax)
      exact List.pairwise_cons.2 ⟨fun y hy => (List.mem_cons.1 hy).elim (· ▸ hxe) fun hy => (hx y hy).trans hxe, h⟩

theorem waitOk.placed {l : List WaitEntry} {e : WaitEntry} {ahead : Nat → Bool} (h : waitOk l) (hroom : l.length < 4)
    (hnew : ¬ waitHas l e.desk) (hahead : ∀ k, ahead k = true → e.rank ≤ k)
    (hbehind : ∀ k, ahead k = false → k ≤ e.rank) : waitOk (placeEntry ahead e l) := by
  obtain ⟨-, hnodup, hranks⟩ := h
  have hperm := placeEntry_perm ahead e l
  refine ⟨by rw [hperm.length_eq]; exact hroom, ?_, placeEntry_pairwise hahead hbehind hranks⟩
  rw [(hperm.map _).nodup_iff]
  exact List.nodup_cons.2 ⟨hnew, hnodup⟩

/-! ### The tables (R71 to R73, R88) -/

theorem CA.tablesOk_iff (c : CA) : c.tablesOk ↔ waitOk c.wait ∧ (∀ h, c.slot = some h → ¬ waitHas c.wait h.desk)
    ∧ (c.slot = none → c.wait = []) ∧ c.viewers.length ≤ 32 ∧ (c.viewers.map Viewer.desk).Nodup
    ∧ c.notes.length ≤ 8 := by
  simp [CA.tablesOk, waitOk, waitHas, ranksFall_iff, and_assoc]

@[simp] theorem length_replaceNote (p : Note → Bool) (n : Note) (l : List Note) :
    (replaceNote p n l).length = l.length := by
  induction l with
  | nil => rfl
  | cons m r ih => unfold replaceNote; split <;> simp [ih]

theorem length_setNote {l : List Note} (h : l.length ≤ 8) (d : Nat) (now : Time) : (setNote l d now).length ≤ 8 := by
  unfold setNote Config.noteMax
  dsimp only
  (repeat' split) <;> simp <;> omega

/-- The slot filled, beside a wait list in order without its desk; whatever the idle timer. -/
theorem CA.tablesOk_filled {c b : CA} (h : c.tablesOk) {x : Slot} (hslot : b.slot = some x) (hwait : waitOk b.wait)
    (hx : ¬ waitHas b.wait x.desk) (hviewers : b.viewers = c.viewers) (hnotes : b.notes = c.notes) : b.tablesOk := by
  rw [CA.tablesOk_iff] at h ⊢
  obtain ⟨-, -, -, hrest⟩ := h
  rw [hslot, hviewers, hnotes]
  exact ⟨hwait, fun y hy => Option.some.inj hy ▸ hx, nofun, hrest⟩

/-- The tables with entries gone from the wait list. -/
theorem CA.tablesOk_sublist {c : CA} (h : c.tablesOk) {l : List WaitEntry} (hl : l.Sublist c.wait) :
    ({ c with wait := l } : CA).tablesOk := by
  rw [CA.tablesOk_iff] at h ⊢
  obtain ⟨hwait, hslot, hnone, hrest⟩ := h
  exact ⟨hwait.sublist hl, fun y hy hd => hslot y hy (hd.of_sublist hl),
    fun hs => List.eq_nil_of_subset_nil (hnone hs ▸ hl.subset), hrest⟩

/-- The tables with other viewers. -/
theorem CA.tablesOk_viewers {c : CA} (h : c.tablesOk) {l : List Viewer} (hlen : l.length ≤ 32)
    (hnodup : (l.map Viewer.desk).Nodup) : ({ c with viewers := l } : CA).tablesOk := by
  rw [CA.tablesOk_iff] at h ⊢
  obtain ⟨hwait, hslot, hnone, -, -, hnotes⟩ := h
  exact ⟨hwait, hslot, hnone, hlen, hnodup, hnotes⟩

/-- The tables with other notes. -/
theorem CA.tablesOk_notes {c : CA} (h : c.tablesOk) {l : List Note} (hlen : l.length ≤ 8) :
    ({ c with notes := l } : CA).tablesOk := by
  rw [CA.tablesOk_iff] at h ⊢
  obtain ⟨hwait, hslot, hnone, hviewers, hnodup, -⟩ := h
  exact ⟨hwait, hslot, hnone, hviewers, hnodup, hlen⟩

theorem CA.not_waitHas_of_waits {c : CA} {d : Nat} (h : c.waits d = false) : ¬ waitHas c.wait d := by
  simpa [waitHas] using CA.waits_eq_false_iff.1 h

/-! ### CA's operations -/

theorem State.grant_ca (s : State) (d r : Nat) (i : Byte) :
    (s.grant d r i).ca = CA.startIdle { s.ca with slot := some (newSlot d r i s.now) } s.now := by
  simp [State.grant]

/-- A waiting desk's new id keeps the tables (R79). -/
theorem CA.tablesOk_reid {c : CA} (h : c.tablesOk) (d : Nat) (i : Byte) :
    ({ c with wait := c.wait.map fun e => if e.desk = d then { e with id := i } else e } : CA).tablesOk := by
  rw [CA.tablesOk_iff] at h ⊢
  obtain ⟨hwait, hslot, hnone, hrest⟩ := h
  exact ⟨hwait.reid d i, fun y hy hw => hslot y hy ((waitHas_reid ..).1 hw), fun hs => by simp [hnone hs], hrest⟩

section Ops
variable {s : State} (h : s.ca.tablesOk)
include h

@[simp] theorem State.hear_tablesOk (d : Nat) (w : Channels) : (s.hear d w).ca.tablesOk := by
  obtain ⟨-, -, -, hlen, hnodup, -⟩ := (CA.tablesOk_iff _).1 h
  unfold State.hear Config.viewerMax
  split
  · have hdesk (v : Viewer) : (if v.desk = d then { v with watched := w, heard := s.now } else v).desk = v.desk := by
      split <;> rfl
    have hheard := CA.tablesOk_viewers h
      (l := s.ca.viewers.map fun v => if v.desk = d then { v with watched := w, heard := s.now } else v)
      (by simpa using hlen) (by simpa [Function.comp_def, hdesk] using hnodup)
    split <;> simp [hheard]
  · next hnone =>
    split
    · next hroom =>
      have hadded := CA.tablesOk_viewers h (l := s.ca.viewers ++ [⟨d, w, s.now⟩]) (by simpa using hroom) (by
        rw [List.find?_eq_none] at hnone
        simpa [List.nodup_append, hnodup] using hnone)
      simp [hadded]
    · simp [h]

/-- A grant fills the slot with a desk that does not wait. -/
theorem State.grant_tablesOk {u : State} (hwait : waitOk u.ca.wait) {d : Nat} (hd : ¬ waitHas u.ca.wait d)
    (hviewers : u.ca.viewers = s.ca.viewers) (hnotes : u.ca.notes = s.ca.notes) (r : Nat) (i : Byte) :
    (u.grant d r i).ca.tablesOk := by
  rw [State.grant_ca]
  exact CA.tablesOk_filled h (x := newSlot d r i u.now) rfl hwait hd hviewers hnotes

@[simp] theorem State.emptySlot_tablesOk : s.emptySlot.ca.tablesOk := by
  have hsub := List.filter_sublist (p := fun e : WaitEntry => s.ca.views e.desk) (l := s.ca.wait)
  have hwait := ((CA.tablesOk_iff _).1 h).1.sublist hsub
  cases he : s.ca.wait.filter fun e => s.ca.views e.desk with
  | nil =>
    rw [State.emptySlot_of_none he]
    rw [CA.tablesOk_iff] at h ⊢
    obtain ⟨-, -, -, hrest⟩ := h
    exact ⟨waitOk_nil, nofun, fun _ => rfl, hrest⟩
  | cons e r =>
    rw [State.emptySlot_of_head he]
    rw [he] at hwait
    have hr : ¬ waitHas r e.desk := (List.nodup_cons.1 hwait.2.1).1
    exact State.grant_tablesOk h (u := s.setCA { s.ca with slot := none, wait := r })
      (hwait.sublist (List.sublist_cons_self e r)) hr rfl rfl _ _

/-- Room made leaves fewer than 4 of the entries there were, and the rest of CA as it was. -/
theorem State.makeRoom_wait {u : State} {r : Nat} (e : s.makeRoom r = some u) :
    u.ca.slot = s.ca.slot ∧ u.ca.viewers = s.ca.viewers ∧ u.ca.notes = s.ca.notes
      ∧ u.ca.wait.Sublist s.ca.wait ∧ u.ca.wait.length < 4 := by
  have hlen := ((CA.tablesOk_iff _).1 h).1.1
  unfold State.makeRoom Config.waitMax at e
  split at e
  · next hroom =>
    cases e
    exact ⟨rfl, rfl, rfl, .refl _, hroom⟩
  · next hfull =>
    split at e
    · cases e
    · cases e
      refine ⟨by simp, by simp, by simp, by simpa using List.dropLast_sublist _, ?_⟩
      simp
      omega

section Contended
variable {x : Slot} (hx : s.ca.slot = some x) {d : Nat} (hd : ¬ waitHas s.ca.wait d) (hne : x.desk ≠ d)
include hx hd hne

/-- A preempted holder goes into the list behind those that rank higher (R78). -/
theorem State.preempt_tablesOk (r : Nat) (i : Byte) : (s.preempt x d r i).ca.tablesOk := by
  obtain ⟨hwait, hholder, -⟩ := (CA.tablesOk_iff _).1 h
  unfold State.preempt
  split
  · next u e =>
    obtain ⟨hslot, hviewers, hnotes, hsub, hroom⟩ := State.makeRoom_wait h e
    have hplaced := (hwait.sublist hsub).placed (e := ⟨x.desk, x.rank, x.id, u.now⟩) (ahead := fun k => x.rank < k)
      hroom (fun hw => hholder x hx (hw.of_sublist hsub)) (fun k hk => by simp at hk ⊢; omega)
      (fun k hk => by simp at hk ⊢; omega)
    have hd' : ¬ waitHas (placeEntry (fun k => x.rank < k) ⟨x.desk, x.rank, x.id, u.now⟩ u.ca.wait) d := by
      rw [waitHas_placed]
      exact fun hw => hw.elim (fun he => hne he.symm) fun hw => hd (hw.of_sublist hsub)
    exact State.grant_tablesOk h (by simpa using hplaced) (by simpa using hd') (by simpa using hviewers)
      (by simpa using hnotes) r i
  · exact State.grant_tablesOk h (by simpa using hwait) (by simpa using hd) (by simp) (by simp) r i

/-- A desk that joins goes behind those of its rank or higher (R80). -/
theorem State.joinWait_tablesOk (r : Nat) (i : Byte) : (s.joinWait d r i).ca.tablesOk := by
  obtain ⟨hwait, hholder, -⟩ := (CA.tablesOk_iff _).1 h
  unfold State.joinWait
  split
  · next u e =>
    obtain ⟨hslot, hviewers, hnotes, hsub, hroom⟩ := State.makeRoom_wait h e
    have hplaced := (hwait.sublist hsub).placed (e := ⟨d, r, i, u.now⟩) (ahead := fun k => r ≤ k) hroom
      (fun hw => hd (hw.of_sublist hsub)) (fun k hk => by simpa using hk) (fun k hk => by simp at hk ⊢; omega)
    have hx' : ¬ waitHas (placeEntry (fun k => r ≤ k) ⟨d, r, i, u.now⟩ u.ca.wait) x.desk := by
      rw [waitHas_placed]
      exact fun hw => hw.elim hne fun hw => hholder x hx (hw.of_sublist hsub)
    exact CA.tablesOk_filled h (x := x) (by simpa [hslot] using hx) (by simpa using hplaced) (by simpa using hx')
      (by simpa using hviewers) (by simpa using hnotes)
  · simpa using h

end Contended

@[simp] theorem State.request_tablesOk (d : Nat) (i : Byte) : (s.request d i).ca.tablesOk := by
  obtain ⟨hwait, hholder, -⟩ := (CA.tablesOk_iff _).1 h
  have hreid := CA.tablesOk_reid h d i
  unfold State.request
  dsimp only
  split
  · simpa using h
  · split
    · next x hx =>
      have hheld (j : Byte) (a : Option (BitVec 16)) :
          ({ s.ca with slot := some { x with id := j, accepted := a } } : CA).tablesOk :=
        CA.tablesOk_filled h rfl hwait (hholder x hx) rfl rfl
      split
      · simp [hheld]
      · next hne =>
        split
        · simpa using hreid
        · next hw =>
          have hd := CA.not_waitHas_of_waits (Bool.eq_false_iff.2 hw)
          split
          · exact State.preempt_tablesOk h hx hd hne _ i
          · split
            · exact State.grant_tablesOk h (by simpa using hwait) (by simpa using hd) (by simp) (by simp) _ i
            · exact State.joinWait_tablesOk h hx hd hne _ i
    · split
      · simpa using hreid
      · next hw => exact State.grant_tablesOk h hwait (CA.not_waitHas_of_waits (Bool.eq_false_iff.2 hw)) rfl rfl _ i

@[simp] theorem State.notHolder_tablesOk (d : Nat) (i : Byte) : (s.notHolder d i).ca.tablesOk := by
  obtain ⟨-, -, -, -, -, hnotes⟩ := (CA.tablesOk_iff _).1 h
  unfold State.notHolder
  split
  · exact h
  · exact CA.tablesOk_notes h (length_setNote hnotes d s.now)

@[simp] theorem State.inputFrom_tablesOk (d : Nat) (q : BitVec 16) (i : InputContent) :
    (s.inputFrom d q i).ca.tablesOk := by
  obtain ⟨hwait, hholder, -⟩ := (CA.tablesOk_iff _).1 h
  unfold State.inputFrom
  split
  · simp [h]
  · next x hx =>
    split
    · split
      · simp only [State.wpInput_frame, State.setCA_ca]
        split <;> exact CA.tablesOk_filled h rfl hwait (hholder x hx) rfl rfl
      · exact h
    · simp [h]

end Ops

theorem exec_tablesOk {s : State} (h : s.ca.tablesOk) (c : Instr) : Ends (fun t => t.ca.tablesOk) (exec c s) := by
  by_cases hdesk : ofDesk c = true
  · intro t ht
    obtain ⟨-, -, hca, -⟩ := exec_sameSource_of_desk hdesk s t ht
    rwa [hca]
  cases c
  -- the start, the link and the fabric
  case reset r => simp [exec, execReset, State.reset, CA.reset, CA.tablesOk_iff]
  case imageReadComplete flash =>
    exact exec_imageReadComplete_ends (fun _ => h) (by simp [h]) (by simp [h]) (by simp [h]) (fun b _ _ => h) flash
  case listenTimerExpiry => exact exec_listenTimerExpiry_ends h (by simp [h]) (by simp [h])
  case frameReceived fcs f => exact exec_frameReceived_ends h (by simp [h]) (by simp [h]) (by simp [h]) fcs f
  case linkUp | linkDown | transmitArbiterTake | presenceTimerExpiry =>
    simp only [exec, execLinkUp, execLinkDown, execTransmitArbiterTake, execPresenceTimerExpiry]
    (repeat' split) <;> simp [h]
  -- CU, TS and WP leave CA alone
  case frameSync | validLineEnd | tileRowBegin | tileRowComplete | syncTimerExpiry | syncPeriodEnd
      | refreshWindowExpiry | tileChoice =>
    simp only [exec, execFrameSync, State.atSync, execValidLineEnd, execTileRowBegin, execTileRowComplete,
      execSyncTimerExpiry, execSyncPeriodEnd, execRefreshWindowExpiry, execTileChoice]
    (repeat' split) <;> simp [h]
  case busPowerAppears | busPowerLost | busReset | setAddress | setConfiguration | setFeatureRemoteWake
      | clearFeatureRemoteWake | getDescriptor | getReport | setIdleOrProtocol | unsupportedStandardRequest
      | keyboardOutputReport | keyboardPoll | pointerPoll | queueAgeOverrun | busIdleSuspend | busResume
      | resumeSignallingEnd =>
    simp only [exec, execBusPowerAppears, execBusPowerLost, execBusReset, execSetAddress, execSetConfiguration,
      execSetFeatureRemoteWake, execClearFeatureRemoteWake, execGetDescriptor, execGetReport, execSetIdleOrProtocol,
      execUnsupportedStandardRequest, execKeyboardOutputReport, execKeyboardPoll, execPointerPoll,
      execQueueAgeOverrun, execBusIdleSuspend, execBusResume, execResumeSignallingEnd]
    (repeat' split) <;> simp [h]
  -- messages
  case presenceTakenByCa | repairRequestTaken | controlRequestTaken | controlReleaseTaken | inputTaken
      | attnClearTaken =>
    simp only [exec, execPresenceTakenByCa, execRepairRequestTaken, execControlRequestTaken, execControlReleaseTaken,
      execInputTaken, execAttnClearTaken]
    split
    · split
      · simp [h]
      · next m u e =>
        have hu : u.ca.tablesOk := by simpa [(State.take_eq e).1] using h
        have hgone := CA.tablesOk_sublist hu
          (List.filter_sublist (p := fun e : WaitEntry => decide (e.desk ≠ m.sender)))
        (repeat' split) <;> simp [hu]
        all_goals simpa using hgone
    · simp [h]
  -- CA's own timers
  case viewerEntryExpiry d =>
    obtain ⟨-, -, -, hlen, hnodup, -⟩ := (CA.tablesOk_iff _).1 h
    have hsub := List.filter_sublist (p := fun v : Viewer => decide (v.desk ≠ d)) (l := s.ca.viewers)
    have hviewers := CA.tablesOk_viewers h (hsub.length_le.trans hlen) (hnodup.sublist (hsub.map _))
    have hgone := CA.tablesOk_sublist hviewers (List.filter_sublist (p := fun e : WaitEntry => decide (e.desk ≠ d)))
    simp only [exec, execViewerEntryExpiry]
    (repeat' split) <;> rw [Ends_next]
    · exact State.emptySlot_tablesOk (by simpa using hviewers)
    · exact hgone
    · exact hgone
    · exact h
  case waitEntryExpiry d =>
    have hgone := CA.tablesOk_sublist h (List.filter_sublist (p := fun e : WaitEntry => decide (e.desk ≠ d)))
    simp only [exec, execWaitEntryExpiry]
    (repeat' split) <;> simp [h]
    simpa using hgone
  case idleTimerExpiry => simp only [exec, execIdleTimerExpiry]; split <;> exact (Ends_next ..).2 h
  case notHolderNoteExpiry d =>
    have hlen := ((CA.tablesOk_iff _).1 h).2.2.2.2.2
    exact (Ends_next ..).2 (CA.tablesOk_notes h (by simpa using hlen))
  all_goals exact absurd rfl hdesk

/-- Settles O12 (R71, R72, R73, R88). -/
theorem arbiterTablesKept : Obligations.ArbiterTablesKept := by
  intro s t h
  exact step_keeps (P := fun s => s.ca.tablesOk) (fun _ _ => id) (fun _ => id) (fun c s h => exec_tablesOk h c) h

end Sys2Proof.Machine
end

section
/-!
PROOF. Tile grids and dirty sets (07_capture_and_tile_signatures.md, R118, R121, R122; 08_tile_sending.md, R128, R134):
raster order, a dirty set in order, and what a tile put in, a tile taken out and a full refresh leave of it.
-/

namespace Sys2Proof.Machine

/-! ### Raster order and the grid (R118, R121) -/

theorem Tile.before_iff (a b : Tile) : a.before b = true ↔ a.row < b.row ∨ (a.row = b.row ∧ a.col < b.col) := by
  simp [Tile.before]

theorem Tile.before_trans {a b c : Tile} (h : a.before b = true) (g : b.before c = true) : a.before c = true := by
  rw [Tile.before_iff] at *
  omega

/-- Of two tiles one comes first. -/
theorem Tile.before_of_not {a b : Tile} (hne : a ≠ b) (h : ¬ a.before b = true) : b.before a = true := by
  rw [Tile.before_iff] at *
  have : ¬ (a.row = b.row ∧ a.col = b.col) := fun ⟨hr, hc⟩ => hne (by cases a; cases b; simp_all)
  omega

theorem mem_gridTiles (z : Size) (t : Tile) : t ∈ gridTiles z ↔ t.col < tilesAlong z.w ∧ t.row < tilesAlong z.h := by
  cases t
  simp [gridTiles, and_comm]

theorem length_gridTiles (z : Size) : (gridTiles z).length = tilesAlong z.h * tilesAlong z.w := by
  simp [gridTiles, List.length_flatMap]

theorem gridTiles_pairwise (z : Size) : (gridTiles z).Pairwise fun a b => a.before b = true := by
  refine List.pairwise_flatMap.2 ⟨fun r _ => ?_, ?_⟩
  · rw [List.pairwise_map]
    exact List.pairwise_lt_range.imp fun {c d} h => (Tile.before_iff ⟨c, r⟩ ⟨d, r⟩).2 (.inr ⟨rfl, h⟩)
  · refine List.pairwise_lt_range.imp fun {r q} h => ?_
    simp only [List.mem_map]
    rintro _ ⟨_, _, rfl⟩ _ ⟨_, _, rfl⟩
    exact (Tile.before_iff ..).2 (.inl h)

/-- Tiles in raster order are each there once. -/
theorem nodup_of_raster {l : List Tile} (h : l.Pairwise fun a b => a.before b = true) : l.Nodup :=
  h.imp fun {a b} hab e => by
    subst e
    rw [Tile.before_iff] at hab
    omega

/-! ### A dirty set in order (R121) -/

/-- The tiles of a dirty set are those of a grid, each once, in raster order within one age. -/
def dirtyOk (z : Size) (l : List DirtyTile) : Prop :=
  (l.map DirtyTile.tile).Nodup ∧ (∀ d ∈ l, d.tile ∈ gridTiles z)
    ∧ l.Pairwise fun a b => a.age = b.age → a.tile.before b.tile = true

theorem dirtyOk.sublist {z : Size} {l m : List DirtyTile} (h : dirtyOk z l) (hm : m.Sublist l) : dirtyOk z m :=
  ⟨h.1.sublist (hm.map _), fun d hd => h.2.1 d (hm.subset hd), h.2.2.sublist hm⟩

theorem dirtyOk.length_le {z : Size} {l : List DirtyTile} (h : dirtyOk z l) :
    l.length ≤ tilesAlong z.h * tilesAlong z.w := by
  rw [← length_gridTiles, ← List.length_map DirtyTile.tile]
  refine (h.1.subperm fun t ht => ?_).length_le
  obtain ⟨d, hd, rfl⟩ := List.mem_map.1 ht
  exact h.2.1 d hd

section Insert
variable {z : Size} {t : Tile} {f : BitVec 32}

theorem insertDirty_perm (t : Tile) (f : BitVec 32) (l : List DirtyTile) : (insertDirty t f l).Perm (⟨t, f⟩ :: l) := by
  induction l with
  | nil => rfl
  | cons d r ih =>
    unfold insertDirty
    split
    · rfl
    · exact (ih.cons d).trans (.swap ..)

/-- A tile of the grid that is not in the set takes its place (R121). -/
theorem dirtyOk.insert {l : List DirtyTile} (h : dirtyOk z l) (ht : t ∈ gridTiles z) (hfree : dirtyHas l t = false) :
    dirtyOk z (insertDirty t f l) := by
  have hnew : ∀ d ∈ l, d.tile ≠ t := fun d hd e => by simp [dirtyHas_iff.2 ⟨d, hd, e⟩] at hfree
  obtain ⟨hnodup, hgrid, hraster⟩ := h
  refine ⟨?_, fun d hd => (mem_insertDirty.1 hd).elim (fun e => e ▸ ht) (hgrid d), ?_⟩
  · rw [((insertDirty_perm t f l).map _).nodup_iff]
    exact List.nodup_cons.2 ⟨by simpa using hnew, hnodup⟩
  · clear hnodup hgrid hfree
    induction l with
    | nil => simp [insertDirty]
    | cons d r ih =>
      obtain ⟨hd, hr⟩ := List.pairwise_cons.1 hraster
      obtain ⟨hdt, hrt⟩ := List.forall_mem_cons.1 hnew
      unfold insertDirty
      split
      · next hbefore =>
        obtain ⟨hage, hbefore⟩ := by simpa using hbefore
        refine List.pairwise_cons.2 ⟨List.forall_mem_cons.2 ⟨fun _ => hbefore, fun b hb e => ?_⟩, hraster⟩
        exact Tile.before_trans hbefore (hd b hb (hage.trans e))
      · next hpast =>
        refine List.pairwise_cons.2 ⟨fun b hb e => ?_, ih hrt hr⟩
        obtain rfl | hb := mem_insertDirty.1 hb
        · exact Tile.before_of_not (Ne.symm hdt) fun hbefore => hpast (by simp [e, hbefore])
        · exact hd b hb e

/-- It stands behind every older tile: its wait is 0. -/
theorem agesInOrder_insertDirty {l : List DirtyTile} (h : agesInOrder f l) : agesInOrder f (insertDirty t f l) := by
  have hzero (t : Tile) : (⟨t, f⟩ : DirtyTile).wait f = 0 := by simp [DirtyTile.wait]
  unfold agesInOrder at *
  induction l with
  | nil => simp [insertDirty]
  | cons d r ih =>
    obtain ⟨hd, hr⟩ := List.pairwise_cons.1 h
    unfold insertDirty
    split
    · next hbefore =>
      obtain ⟨hage, -⟩ := by simpa using hbefore
      have hdw : d.wait f = 0 := by simp [DirtyTile.wait, hage]
      refine List.pairwise_cons.2 ⟨fun b hb => ?_, h⟩
      rw [hzero]
      obtain rfl | hb := List.mem_cons.1 hb
      · exact hdw.le
      · exact (hd b hb).trans hdw.le
    · refine List.pairwise_cons.2 ⟨fun b hb => ?_, ih hr⟩
      obtain rfl | hb := mem_insertDirty.1 hb
      · rw [hzero]; exact Nat.zero_le _
      · exact hd b hb

end Insert

/-! ### A full refresh (R134) -/

/-- The older tiles of a dirty set, which a full refresh leaves as they are. -/
def olderDirty (f : BitVec 32) (l : List DirtyTile) : List DirtyTile := l.filter fun d => d.age ≠ f

/-- The tiles a full refresh puts behind them: every other tile of the grid, with the frame number as age. -/
def freshDirty (z : Size) (f : BitVec 32) (l : List DirtyTile) : List DirtyTile :=
  ((gridTiles z).filter fun t => !dirtyHas (olderDirty f l) t).map fun t => ⟨t, f⟩

theorem refreshDirty_eq (z : Size) (f : BitVec 32) (l : List DirtyTile) :
    refreshDirty z f l = olderDirty f l ++ freshDirty z f l := rfl

section Refresh
variable {z : Size} {f : BitVec 32} {l : List DirtyTile} {d : DirtyTile}

theorem mem_olderDirty : d ∈ olderDirty f l ↔ d ∈ l ∧ d.age ≠ f := by simp [olderDirty]

theorem olderDirty_sublist (f : BitVec 32) (l : List DirtyTile) : (olderDirty f l).Sublist l := List.filter_sublist

theorem mem_freshDirty : d ∈ freshDirty z f l ↔ d.tile ∈ gridTiles z ∧ d.age = f ∧ ∀ e ∈ l, e.age ≠ f →
    e.tile ≠ d.tile := by
  cases d with
  | mk t a =>
    simp only [freshDirty, List.mem_map, List.mem_filter, Bool.not_eq_true', ← Bool.not_eq_true, dirtyHas_iff,
      mem_olderDirty, DirtyTile.mk.injEq]
    constructor
    · rintro ⟨t, ⟨ht, hnot⟩, rfl, rfl⟩
      exact ⟨ht, rfl, fun e he ha h => hnot ⟨e, ⟨he, ha⟩, h⟩⟩
    · rintro ⟨ht, rfl, hnot⟩
      exact ⟨t, ⟨ht, fun ⟨e, ⟨he, ha⟩, h⟩ => hnot e he ha h⟩, rfl, rfl⟩

theorem freshDirty_raster (z : Size) (f : BitVec 32) (l : List DirtyTile) :
    (freshDirty z f l).Pairwise fun a b => a.tile.before b.tile = true := by
  rw [freshDirty, List.pairwise_map]
  exact (gridTiles_pairwise z).sublist List.filter_sublist

theorem nodup_refreshDirty (h : (l.map DirtyTile.tile).Nodup) : ((refreshDirty z f l).map DirtyTile.tile).Nodup := by
  rw [refreshDirty_eq, List.map_append, List.nodup_append]
  refine ⟨h.sublist ((olderDirty_sublist f l).map _),
    nodup_of_raster (by rw [List.pairwise_map]; exact freshDirty_raster z f l), ?_⟩
  simp only [List.mem_map]
  rintro _ ⟨a, ha, rfl⟩ _ ⟨b, hb, rfl⟩
  obtain ⟨hal, hage⟩ := mem_olderDirty.1 ha
  exact (mem_freshDirty.1 hb).2.2 a hal hage

/-- A full refresh leaves the set in order. -/
theorem dirtyOk.refresh (h : dirtyOk z l) : dirtyOk z (refreshDirty z f l) := by
  have holder := h.sublist (olderDirty_sublist f l)
  refine ⟨nodup_refreshDirty h.1, fun d hd => ?_, ?_⟩
  · obtain hd | hd := List.mem_append.1 hd
    · exact holder.2.1 d hd
    · exact (mem_freshDirty.1 hd).1
  · rw [refreshDirty_eq]
    refine List.pairwise_append.2 ⟨holder.2.2, ?_, fun a ha b hb e => ?_⟩
    · refine (freshDirty_raster z f l).imp fun h => ?_
      exact fun _ => h
    · exact absurd (e.trans (mem_freshDirty.1 hb).2.1) (mem_olderDirty.1 ha).2

/-- The tiles put in wait 0. -/
theorem agesInOrder_refreshDirty (h : agesInOrder f l) : agesInOrder f (refreshDirty z f l) := by
  have hzero : ∀ d ∈ freshDirty z f l, d.wait f = 0 := fun d hd => by
    simp [DirtyTile.wait, (mem_freshDirty.1 hd).2.1]
  refine List.pairwise_append.2 ⟨h.sublist (olderDirty_sublist f l), ?_, fun a _ b hb => by
    rw [hzero b hb]; exact Nat.zero_le _⟩
  exact List.pairwise_iff_forall_sublist.2 fun {a b} hab => by
    rw [hzero b (hab.subset (by simp))]; exact Nat.zero_le _

theorem mem_tiles_refreshDirty (hgrid : ∀ d ∈ l, d.tile ∈ gridTiles z) (x : Tile) :
    x ∈ (refreshDirty z f l).map DirtyTile.tile ↔ x ∈ gridTiles z := by
  simp only [refreshDirty_eq, List.map_append, List.mem_append, List.mem_map]
  constructor
  · rintro (⟨d, hd, rfl⟩ | ⟨d, hd, rfl⟩)
    · exact hgrid d (mem_olderDirty.1 hd).1
    · exact (mem_freshDirty.1 hd).1
  · intro hx
    by_cases hold : ∃ d ∈ olderDirty f l, d.tile = x
    · exact .inl hold
    · refine .inr ⟨⟨x, f⟩, mem_freshDirty.2 ⟨hx, rfl, fun e he ha h => hold ⟨e, mem_olderDirty.2 ⟨he, ha⟩, h⟩⟩, rfl⟩

/-- A tile of the frame number's own age was in the set, and is put in as it was. -/
theorem mem_refreshDirty_of_mem (hnodup : (l.map DirtyTile.tile).Nodup) (hgrid : ∀ d ∈ l, d.tile ∈ gridTiles z)
    (hd : d ∈ l) : d ∈ refreshDirty z f l := by
  rw [refreshDirty_eq, List.mem_append, mem_olderDirty, mem_freshDirty]
  by_cases hage : d.age = f
  · refine .inr ⟨hgrid d hd, hage, fun e he ha htile => ha ?_⟩
    rw [List.inj_on_of_nodup_map hnodup he hd htile, hage]
  · exact .inl ⟨hd, hage⟩

end Refresh

/-! ### What TS keeps for a channel (R114, R118, R120, R121, R130) -/

/-- The grid of a measurement's size. -/
def Meas.size (m : Meas) : Size := ⟨m.w, m.h⟩

@[simp] theorem Meas.size_sides (m : Meas) : m.size.w = m.w ∧ m.size.h = m.h := ⟨rfl, rfl⟩

/-- A LOCKED channel and TS's part for it, by the locked mode. -/
structure LockedTiles (m : Meas) (c : Channel) (k : TsChannel) : Prop where
  mode : c.mode = some m
  within : m.withinLimits = true
  rows : c.rowsOk m.h
  sigs : k.sigs.length = tilesAlong m.w * tilesAlong m.h
  dirty : dirtyOk m.size k.dirty
  cursor : k.cursor ∈ gridTiles m.size

theorem Channel.size_eq_some {c : Channel} {z : Size} (h : c.size = some z) :
    c.state = .locked ∧ ∃ m, c.mode = some m ∧ m.size = z := by
  simpa [Channel.size, Option.map_eq_some_iff, Meas.size] using h

theorem tilesOk_of_locked {c : Channel} {k : TsChannel} (h : c.state = .locked) :
    tilesOk c k ↔ ∃ m, LockedTiles m c k := by
  constructor
  · intro hk
    obtain ⟨m, hmode, hlimits, hrows, hsigs, hnodup, hgrid, hraster, hcursor⟩ := hk.1 h
    exact ⟨m, hmode, hlimits, hrows, hsigs, ⟨hnodup, hgrid, hraster⟩, hcursor⟩
  · rintro ⟨m, hmode, hlimits, hrows, hsigs, ⟨hnodup, hgrid, hraster⟩, hcursor⟩
    exact ⟨fun _ => ⟨m, hmode, hlimits, hrows, hsigs, hnodup, hgrid, hraster, hcursor⟩, fun hn => absurd h hn⟩

theorem tilesOk_of_not_locked {c : Channel} {k : TsChannel} (h : c.state ≠ .locked) :
    tilesOk c k ↔ c.mode = none ∧ k.dirty = [] ∧ k.allowance = 0 := by
  simp [tilesOk, h]

/-- What TS keeps for a channel goes with it, and, where `a` asks for it, its dirty set stands in order of age. -/
def tilesAged (a : Prop) (c : Channel) (k : TsChannel) : Prop :=
  tilesOk c k ∧ (a → agesInOrder c.frame k.dirty)

section Channels
variable {a : Prop} {c d : Channel} {k : TsChannel}

/-- A channel that is not LOCKED has nothing for TS. -/
theorem tilesAged_of_not_locked (h : c.state ≠ .locked) :
    tilesAged a c k ↔ c.mode = none ∧ k.dirty = [] ∧ k.allowance = 0 := by
  rw [tilesAged, tilesOk_of_not_locked h, and_iff_left_of_imp]
  rintro ⟨-, hd, -⟩ -
  simp [agesInOrder, hd]

/-- Entering LOCKED: a new table, and every tile dirty with age 0 in raster order (R114). -/
theorem tilesAged_lock {m : Meas} (hm : m.withinLimits = true) (hline : c.line = 0) :
    tilesAged a (c.lock m) (k.locked m.size) := by
  have hages : ((gridTiles m.size).map fun t => (⟨t, 0⟩ : DirtyTile)).Pairwise
      fun x y => y.wait 0 ≤ x.wait 0 := by
    rw [List.pairwise_map]
    exact (gridTiles_pairwise m.size).imp fun {x y} _ => by simp [DirtyTile.wait]
  have hgrid : (⟨0, 0⟩ : Tile) ∈ gridTiles m.size := by
    have := (Meas.withinLimits_iff m).1 hm
    simp only [mem_gridTiles, tilesAlong, Meas.size]
    omega
  refine ⟨(tilesOk_of_locked rfl).2 ⟨m, rfl, hm, ?_, by simp [TsChannel.locked, Meas.size], ⟨?_, ?_, ?_⟩, hgrid⟩,
    fun _ => hages⟩
  · simp [Channel.rowsOk, Channel.lock, hline]
  · simpa [TsChannel.locked, Function.comp_def] using nodup_of_raster (gridTiles_pairwise m.size)
  · simp [TsChannel.locked]
  · rw [TsChannel.locked, List.pairwise_map]
    refine (gridTiles_pairwise m.size).imp fun h => ?_
    exact fun _ => h

/-- A change of a LOCKED channel that keeps the mode, the rows and the frame number. -/
theorem tilesAged.rows (h : tilesAged a c k) (hst : c.state = .locked) (hd : d.state = .locked)
    (hmode : d.mode = c.mode)
    (hframe : d.frame = c.frame) (hrows : ∀ m, c.mode = some m → c.rowsOk m.h → d.rowsOk m.h) : tilesAged a d k := by
  obtain ⟨m, hm⟩ := (tilesOk_of_locked hst).1 h.1
  exact ⟨(tilesOk_of_locked hd).2 ⟨m, hmode.trans hm.mode, hm.within, hrows m hm.mode hm.rows, hm.sigs, hm.dirty,
    hm.cursor⟩, fun q => hframe ▸ h.2 q⟩

/-- A change of the dirty set and the table of a LOCKED channel. -/
theorem tilesAged.dirtied {l : TsChannel} (h : tilesAged a c k) (hst : c.state = .locked)
    (hsigs : l.sigs.length = k.sigs.length)
    (hdirty : ∀ m, c.mode = some m → dirtyOk m.size k.dirty → dirtyOk m.size l.dirty)
    (hcursor : ∀ m, c.mode = some m → k.cursor ∈ gridTiles m.size → l.cursor ∈ gridTiles m.size)
    (hages : agesInOrder c.frame k.dirty → agesInOrder c.frame l.dirty) : tilesAged a c l := by
  obtain ⟨m, hm⟩ := (tilesOk_of_locked hst).1 h.1
  exact ⟨(tilesOk_of_locked hst).2 ⟨m, hm.mode, hm.within, hm.rows, hsigs.trans hm.sigs, hdirty m hm.mode hm.dirty,
    hcursor m hm.mode hm.cursor⟩, fun q => hages (h.2 q)⟩

/-- The refresh of a channel (R134). -/
theorem tilesAged.refresh (h : tilesAged a c k) : tilesAged a c (k.refresh c) := by
  unfold TsChannel.refresh
  split
  · exact h
  · next z hz =>
    obtain ⟨hst, m, hm, rfl⟩ := Channel.size_eq_some hz
    refine h.dirtied hst rfl (fun r hr hd => ?_) (fun _ _ => id) agesInOrder_refreshDirty
    obtain rfl : m = r := Option.some.inj (hm.symm.trans hr)
    exact hd.refresh

/-- The signatures of a row of the grid (R119, R120). -/
theorem tilesAged.takeColumns (h : tilesAged a c k) (hst : c.state = .locked) {m : Meas} (hm : c.mode = some m)
    {r : Nat} (hr : r < tilesAlong m.h) (sig : Nat → BitVec 32) {n : Nat} (hn : n ≤ tilesAlong m.w) :
    tilesAged a c (k.takeColumns m.size c.frame r sig n) := by
  induction n with
  | zero => exact h
  | succ n ih =>
    have ih := ih (by omega)
    have htile : (⟨n, r⟩ : Tile) ∈ gridTiles m.size := by
      rw [mem_gridTiles]
      exact ⟨hn, hr⟩
    refine ih.dirtied hst (by simp [TsChannel.takeColumns, TsChannel.takeSignature_sigs]) (fun x hx hd => ?_)
      (fun _ _ => id) (fun hages => ?_) <;> rw [TsChannel.takeColumns, TsChannel.takeSignature_dirty]
    · obtain rfl : m = x := Option.some.inj (hm.symm.trans hx)
      split
      · next hnew => exact hd.insert htile hnew.2
      · exact hd
    · split
      · exact agesInOrder_insertDirty hages
      · exact hages

theorem nextCursor_mem {z : Size} {t : Tile} (h : t ∈ gridTiles z) : nextCursor z t ∈ gridTiles z := by
  rw [mem_gridTiles] at *
  unfold nextCursor
  (repeat' split) <;> simp <;> omega

/-- A tile handed on (R122, R130). -/
theorem tilesAged.sent (h : tilesAged a c k) {z : Size} (hz : c.size = some z) (x : TileChoice) :
    tilesAged a c (k.sent z x) := by
  obtain ⟨hst, r, hr, rfl⟩ := Channel.size_eq_some hz
  unfold TsChannel.sent
  split
  · exact h.dirtied hst rfl (fun _ _ hd => hd.sublist List.filter_sublist) (fun _ _ => id)
      fun ha => ha.sublist List.filter_sublist
  · refine h.dirtied hst rfl (fun _ _ => id) (fun m hm hc => ?_) id
    obtain rfl : r = m := Option.some.inj (hr.symm.trans hm)
    exact nextCursor_mem hc

/-- A frame end (R117): every wait grows by 1, and none comes round while none stands at its greatest value. -/
theorem tilesAged.frameEnd (h : tilesAged a c k) (hst : c.state = .locked)
    (hwait : a → ∀ d ∈ k.dirty, d.wait c.frame ≠ 4294967295) {m : Meas} (hm : c.mode = some m) (hline : c.line = m.h)
    (sync : Timer) (n : Nat) :
    tilesAged a { c with sync := sync, line := 0, frame := c.frame + 1 } { k with allowance := n } := by
  obtain ⟨r, hr⟩ := (tilesOk_of_locked hst).1 h.1
  obtain rfl : m = r := Option.some.inj (hm.symm.trans hr.mode)
  have hgrow (d : DirtyTile) (hd : d.wait c.frame ≠ 4294967295) : d.wait (c.frame + 1) = d.wait c.frame + 1 := by
    simp only [DirtyTile.wait] at *
    bv_omega
  have hlocked : ({ c with sync := sync, line := 0, frame := c.frame + 1 } : Channel).state = .locked := hst
  refine ⟨(tilesOk_of_locked hlocked).2 ⟨m, hm, hr.within, Channel.frameEnd_rowsOk hr.rows hline, hr.sigs, hr.dirty,
    hr.cursor⟩, fun q => ?_⟩
  refine (List.Pairwise.imp_of_mem (fun {x y} hx hy hxy => ?_) (h.2 q) :)
  rw [hgrow x (hwait q x hx), hgrow y (hwait q y hy)]
  omega

end Channels

/-! ### Both channels -/

/-- Both channels and TS's parts for them. -/
def State.Tiled (a : Prop) (s : State) : Prop := ∀ i, tilesAged a (s.cu.ch.get i) (s.ts.ch.get i)

theorem State.tiled_false_iff (s : State) : s.Tiled False ↔ s.TilesRule := by
  simp [State.Tiled, State.TilesRule, tilesAged]

/-- The rule speaks of the channels and of TS's parts for them alone. -/
theorem State.Tiled.congr {a : Prop} {s t : State} (h : s.Tiled a) (hcu : t.cu.ch = s.cu.ch) (hts : t.ts.ch = s.ts.ch) :
    t.Tiled a := by
  unfold State.Tiled at *
  rwa [hcu, hts]

theorem channel_eq_or (i j : Fin 2) : j = i ∨ j = 1 - i := by decide +revert

/-- One channel and TS's part for it changed. -/
theorem State.Tiled.update {a : Prop} {s t : State} (h : s.Tiled a) (i : Fin 2)
    (hi : tilesAged a (t.cu.ch.get i) (t.ts.ch.get i)) (hcu : t.cu.ch.get (1 - i) = s.cu.ch.get (1 - i))
    (hts : t.ts.ch.get (1 - i) = s.ts.ch.get (1 - i)) : t.Tiled a := by
  intro j
  obtain rfl | rfl := channel_eq_or i j
  · exact hi
  · rw [hcu, hts]
    exact h _

/-- A completed measurement in MEASURING changes the reference and the run alone (R110). -/
theorem Channel.measured_frame (c : Channel) (x : Option Meas) :
    (c.measured x).state = c.state ∧ (c.measured x).mode = c.mode ∧ (c.measured x).line = c.line := by
  unfold Channel.measured; (repeat' split) <;> simp

/-- A LOCKED channel whose measurement agrees with its mode has taken the mode's lines (R113). -/
theorem Channel.line_of_agrees {c : Channel} {n : FrameCounts} {now : Time} {m r : Meas} (hst : c.state = .locked)
    (hr : c.mode = some r) (hlimits : r.withinLimits = true) (hm : c.measurement n now = some m)
    (hagree : m.agrees r = true) : c.line = r.h := by
  have hlines : c.frameLines n = List.replicate c.line r.w := by simp [Channel.frameLines, Channel.size, hst, hr]
  rw [Channel.measurement, hlines] at hm
  obtain ⟨-, -, hh, -⟩ := measure_fields hm
  obtain ⟨-, hheight, -⟩ := (Meas.agrees_iff ..).1 hagree
  obtain ⟨-, -, -, hmax⟩ := (Meas.withinLimits_iff r).1 hlimits
  simp only [List.length_replicate] at hh
  omega

section Ops
variable {a : Prop} {s : State} (h : s.Tiled a)
include h

@[simp] theorem State.fullRefresh_tiled : s.fullRefresh.Tiled a := by
  intro i
  match i with
  | 0 => exact (h 0).refresh
  | 1 => exact (h 1).refresh

@[simp] theorem State.refreshTrigger_tiled : s.refreshTrigger.Tiled a := by
  unfold State.refreshTrigger
  split
  · exact State.fullRefresh_tiled h
  · exact h

@[simp] theorem State.hear_tiled (d : Nat) (w : Channels) : (s.hear d w).Tiled a := by
  have hca (c : CA) : (s.setCA c).Tiled a := h
  unfold State.hear
  (repeat' split)
  · exact hca _
  · exact State.refreshTrigger_tiled (hca _)
  · exact State.refreshTrigger_tiled (hca _)
  · exact h

/-- A channel that is not LOCKED after a change of its context alone: it was not LOCKED before (R115). -/
theorem State.setChannel_tiled (i : Fin 2) {c : Channel} (hwas : (s.cu.ch.get i).state ≠ .locked)
    (hc : c.state ≠ .locked) (hmode : c.mode = (s.cu.ch.get i).mode) : (s.setChannel i c).Tiled a := by
  refine h.update i ?_ (by simp) (by simp)
  have hi := (tilesAged_of_not_locked hwas).1 (h i)
  simpa [tilesAged_of_not_locked hc, hmode] using hi

/-- Leaving LOCKED (R115). -/
theorem State.leaveLocked_tiled (i : Fin 2) {c : Channel} (hc : c.state ≠ .locked) : (s.leaveLocked i c).Tiled a := by
  rw [State.leaveLocked_eq]
  refine h.update i ?_ (by simp) (by simp)
  simp [tilesAged_of_not_locked, hc, TsChannel.unlocked]

/-- Entering LOCKED (R114). -/
theorem State.enterLocked_tiled (i : Fin 2) {c : Channel} (hline : c.line = 0) {m : Meas} (hm : m.withinLimits = true) :
    (s.enterLocked i c m).Tiled a := by
  rw [State.enterLocked_eq]
  refine h.update i ?_ (by simp) (by simp)
  simpa [Meas.size] using tilesAged_lock (a := a) (k := s.ts.ch.get i) hm hline

@[simp] theorem State.recomputeUnsupported_tiled : s.recomputeUnsupported.Tiled a := h.congr (by simp) (by simp)

@[simp] theorem State.loseSync_tiled (i : Fin 2) : (s.loseSync i).Tiled a := by
  unfold State.loseSync
  dsimp only
  split
  · exact State.leaveLocked_tiled h i (by simp [Channel.silent])
  · next hst =>
    exact State.recomputeUnsupported_tiled (State.setChannel_tiled h i (by simp [hst]) (by simp [Channel.silent]) rfl)
  · next hst _ => exact State.setChannel_tiled h i hst (by simp [Channel.silent]) rfl

theorem State.settle_tiled (i : Fin 2) {c : Channel} (hwas : (s.cu.ch.get i).state ≠ .locked) (hc : c.state ≠ .locked)
    (hmode : c.mode = (s.cu.ch.get i).mode) (hline : c.line = 0) : (s.settle i c).Tiled a := by
  have hset := State.setChannel_tiled h i hwas hc hmode
  unfold State.settle State.enterUnsupported
  split
  · split
    · split
      · next hm => exact State.enterLocked_tiled h i hline hm
      · exact (State.setChannel_tiled h i (c := { c with state := .unsupported }) hwas (by simp) hmode).congr rfl rfl
    · exact hset
  · exact hset

/-- A frame sync (R110 to R117): in LOCKED, a measurement that agrees with the mode has taken all its lines (R113). -/
theorem State.takeSync_tiled (i : Fin 2) (hwait : a → (s.cu.ch.get i).state = .locked →
      ∀ d ∈ (s.ts.ch.get i).dirty, d.wait (s.cu.ch.get i).frame ≠ 4294967295)
    (n : FrameCounts) : (s.takeSync i n).Tiled a := by
  unfold State.takeSync
  dsimp only
  split
  · next hst => exact State.setChannel_tiled h i (by simp [hst]) (by simp) rfl
  · next hst =>
    exact State.settle_tiled h i (by simp [hst]) (by simp [Channel.measured_frame, hst])
      (by simp [Channel.measured_frame]) (by simp [Channel.measured_frame])
  · next hst =>
    split
    · exact State.setChannel_tiled h i (by simp [hst]) (by simp [hst]) rfl
    · exact State.recomputeUnsupported_tiled
        (State.setChannel_tiled h i (by simp [hst]) (by simp) (by simp [Channel.measured_frame]))
  · next hst =>
    split
    · next m r hm hr =>
      split
      · next hagree =>
        obtain ⟨q, hq⟩ := (tilesOk_of_locked hst).1 (h i).1
        obtain rfl : r = q := Option.some.inj (hr.symm.trans hq.mode)
        have hline := Channel.line_of_agrees hst hr hq.within hm hagree
        have hend := (h i).frameEnd hst (fun q => hwait q hst) hr hline (some s.now) s.ts.k
        exact h.update i (by simpa [State.frameEnd] using hend) (by simp [State.frameEnd]) (by simp [State.frameEnd])
      · exact State.leaveLocked_tiled h i (by simp)
    · exact State.leaveLocked_tiled h i (by simp)

end Ops

/-- Only the message sequences of TS change as a frame is put on the port (R133). -/
theorem State.arbiterTake_tiled {a : Prop} {s : State} (h : s.Tiled a) : s.arbiterTake.Tiled a := by
  have hseq {u : State} (hu : u.Tiled a) (i : Fin 2) (k : Kind) (p : List Byte) : (u.sendStream i k p).Tiled a := by
    refine hu.update i ?_ rfl (by simp [State.sendStream, State.sendFrame, State.nextSeq])
    have hi := hu i
    simpa [State.sendStream, State.sendFrame, State.nextSeq, tilesAged, tilesOk] using hi
  have hfp (f : FP) : (s.setFP f).Tiled a := h
  unfold State.arbiterTake State.send2
  split
  · exact h
  · exact h
  · split
    · exact h
    · exact hseq (hfp _) _ _ _
  · exact hseq (hfp _) _ _ _
  · exact h

theorem State.reset_tiled (a : Prop) : State.reset.Tiled a := by
  intro i
  match i with
  | 0 => exact (tilesAged_of_not_locked (by decide)).2 ⟨rfl, rfl, rfl⟩
  | 1 => exact (tilesAged_of_not_locked (by decide)).2 ⟨rfl, rfl, rfl⟩

/-! FRAME_SYNC: a channel whose sync is overdue has lost it first, and is LOCKED no more (R112). -/

theorem State.atSync_takeSync_tiled {a : Prop} {s : State} (h : s.Tiled a) (i : Fin 2)
    (hwait : a → ∀ d ∈ (s.ts.ch.get i).dirty, d.wait (s.cu.ch.get i).frame ≠ 4294967295) (n : FrameCounts) :
    ((s.atSync i).takeSync i n).Tiled a := by
  unfold State.atSync
  split
  · exact State.takeSync_tiled (State.loseSync_tiled h i) i (fun _ hst => by simp [State.loseSync_state] at hst) n
  · exact State.takeSync_tiled h i (fun q _ => hwait q) n

section Locked
variable {a : Prop} {s : State} (h : s.Tiled a) {i : Fin 2} {z : Size} (hz : (s.cu.ch.get i).size = some z)
include h hz

/-- A change of the rows of a LOCKED channel (R118). -/
theorem State.rowsChanged_tiled {c : Channel} (hc : c.state = .locked ∧ c.mode = (s.cu.ch.get i).mode
      ∧ c.frame = (s.cu.ch.get i).frame) (hrows : (s.cu.ch.get i).rowsOk z.h → c.rowsOk z.h) :
    (s.setChannel i c).Tiled a := by
  obtain ⟨hst, m, hm, rfl⟩ := Channel.size_eq_some hz
  refine h.update i ?_ (by simp) (by simp)
  simp only [State.setChannel_cu, State.setChannel_frame]
  refine (h i).rows hst hc.1 hc.2.1 hc.2.2 fun r hr => ?_
  obtain rfl : m = r := Option.some.inj (hm.symm.trans hr)
  exact hrows

/-- The signatures of a row of the grid taken (R119, R120). -/
theorem State.rowTaken_tiled (m : Memory) {r : Nat} (hr : r < tilesAlong z.h) :
    (s.setTsChannel i ((s.ts.ch.get i).takeRow m i.val z (s.cu.ch.get i).frame r)).Tiled a := by
  obtain ⟨hst, q, hq, rfl⟩ := Channel.size_eq_some hz
  refine h.update i ?_ (by simp) (by simp)
  rw [TsChannel.takeRow_eq]
  simpa using (h i).takeColumns hst hq hr _ le_rfl

/-- A tile handed on (R129). -/
theorem State.tileSent_tiled (ts : TS) (x : TileChoice)
    (hts : ts.ch = s.ts.ch.set i ((s.ts.ch.get i).sent z x)) : (s.setTS ts).Tiled a := by
  refine h.update i ?_ (by simp) (by simp [hts])
  simpa [hts] using (h i).sent hz x

end Locked

/-- VALID_LINE_END: a line of the locked mode, or LOCKED is left (R113, R116). -/
theorem exec_validLineEnd_tiled {a : Prop} {s : State} (h : s.Tiled a) (i : Fin 2) (px : List Colour) :
    Ends (fun t => t.Tiled a) (exec (.validLineEnd i px) s) := by
  have hstored (m : Memory) : (s.setCU { s.cu with store := m }).Tiled a := h.congr rfl rfl
  simp only [exec, execValidLineEnd]
  split
  · split
    · exact (Ends_next ..).2 h
    · next z hz =>
      split
      · next hline =>
        split
        · exact (Ends_next ..).2 (State.rowsChanged_tiled (hstored _) (i := i) (z := z) hz
            ⟨(Channel.size_eq_some hz).1, rfl, rfl⟩ fun _ => Channel.lineTaken_rowsOk hline)
        · exact (Ends_next ..).2 (State.leaveLocked_tiled (hstored _) i (by simp))
      · exact (Ends_next ..).2 (State.leaveLocked_tiled h i (by simp))
  · exact (Ends_next ..).2 h

/-- TILE_ROW_COMPLETE: the row in progress is one of the grid (R118). -/
theorem exec_tileRowComplete_tiled {a : Prop} {s : State} (h : s.Tiled a) (i : Fin 2) :
    Ends (fun t => t.Tiled a) (exec (.tileRowComplete i) s) := by
  simp only [exec, execTileRowComplete]
  split
  · split
    · next z r hz hr =>
      obtain ⟨hst, m, hm, rfl⟩ := Channel.size_eq_some hz
      obtain ⟨q, hq⟩ := (tilesOk_of_locked hst).1 (h i).1
      obtain rfl : m = q := Option.some.inj (hm.symm.trans hq.mode)
      split
      · next hwritten =>
        have htaken := State.rowTaken_tiled h hz s.cu.store (hq.rows.2.2 r hr).1
        exact (Ends_next ..).2 (State.rowsChanged_tiled htaken (i := i) (z := m.size) hz ⟨hst, rfl, rfl⟩
          fun hrows => Channel.rowDone_rowsOk hrows hwritten)
      · exact (Ends_next ..).2 h
    · exact (Ends_next ..).2 h
  · exact (Ends_next ..).2 h

/-- TILE_CHOICE: the tile chosen is of a LOCKED channel (R129). -/
theorem exec_tileChoice_tiled {a : Prop} {s : State} (h : s.Tiled a) :
    Ends (fun t => t.Tiled a) (exec .tileChoice s) := by
  simp only [exec, execTileChoice]
  split
  · exact (Ends_next ..).2 h
  · next x hx =>
    have hz : (s.cu.ch.get x.choice.channel).size = some x.mode := by
      unfold State.tileToSend at hx
      dsimp only at hx
      (repeat' split at hx) <;> simp at hx
      subst hx
      assumption
    have hsent := State.tileSent_tiled h hz (ts := { s.ts with
      tokens := s.ts.tokens - x.tile.price
      ch := s.ts.ch.set x.choice.channel ((s.ts.ch.get x.choice.channel).sent x.mode x.choice) }) x.choice rfl
    exact (Ends_next ..).2 (hsent.congr (by simp) (by simp))

theorem exec_tiled {a : Prop} {s : State} (h : s.Tiled a)
    (hwait : a → ∀ i, ∀ d ∈ (s.ts.ch.get i).dirty, d.wait (s.cu.ch.get i).frame ≠ 4294967295) (c : Instr) :
    Ends (fun t => t.Tiled a) (exec c s) := by
  by_cases hdesk : ofDesk c = true
  · intro t ht
    obtain ⟨hcu, hts, -⟩ := exec_sameSource_of_desk hdesk s t ht
    exact h.congr (by rw [hcu]) (by rw [hts])
  have hcongr {t : State} (hcu : t.cu = s.cu) (hts : t.ts.ch = s.ts.ch) : t.Tiled a := h.congr (by rw [hcu]) hts
  have htaken {b : Taker} {x : Kind} {m : RxMsg} {u : State} (e : s.take b x = some (m, u)) : u.Tiled a :=
    hcongr (by simp [(State.take_eq e).1]) (by simp [(State.take_eq e).1])
  cases c
  -- the start, the link and the fabric
  case reset r =>
    exact (Ends_next ..).2 ((State.reset_tiled a).congr rfl rfl)
  case imageReadComplete flash =>
    exact exec_imageReadComplete_ends (fun _ => h) (fun _ => hcongr (by simp) (by simp))
      (fun _ _ _ => hcongr (by simp) (by simp)) (fun _ _ _ _ _ _ => hcongr (by simp) (by simp))
      (fun _ _ _ => hcongr (by simp) rfl) flash
  case listenTimerExpiry =>
    exact exec_listenTimerExpiry_ends h (fun _ _ => hcongr (by simp) (by simp)) fun _ _ => hcongr (by simp) (by simp)
  case frameReceived fcs f =>
    exact exec_frameReceived_ends h (fun _ => hcongr (by simp) (by simp)) (fun _ => hcongr (by simp) (by simp))
      (fun _ _ _ => hcongr (by simp) (by simp)) fcs f
  case transmitArbiterTake =>
    simp only [exec, execTransmitArbiterTake]
    split
    · exact (Ends_next ..).2 ((State.arbiterTake_tiled h).congr (by simp) (by simp))
    · exact (Ends_next ..).2 h
  case linkUp | linkDown | presenceTimerExpiry =>
    simp only [exec, execLinkUp, execLinkDown, execPresenceTimerExpiry]
    (repeat' split) <;> exact (Ends_next ..).2 (hcongr (by simp) (by simp))
  -- CU and TS
  case frameSync i n =>
    simp only [exec, execFrameSync]
    split
    · exact (Ends_next ..).2 (State.atSync_takeSync_tiled h i (fun q => hwait q i) n)
    · exact (Ends_next ..).2 h
  case validLineEnd i px => exact exec_validLineEnd_tiled h i px
  case tileRowBegin i r =>
    simp only [exec, execTileRowBegin]
    split
    · split
      · exact (Ends_next ..).2 h
      · next z hz =>
        split
        · next hbegins =>
          exact (Ends_next ..).2 (State.rowsChanged_tiled h hz ⟨(Channel.size_eq_some hz).1, rfl, rfl⟩
            fun hrows => Channel.rowBegins_rowsOk hrows hbegins)
        · exact (Ends_next ..).2 h
    · exact (Ends_next ..).2 h
  case tileRowComplete i => exact exec_tileRowComplete_tiled h i
  case tileChoice => exact exec_tileChoice_tiled h
  case syncTimerExpiry i => 
    simp only [exec, execSyncTimerExpiry]
    split
    · exact (Ends_next ..).2 (State.loseSync_tiled h i)
    · exact (Ends_next ..).2 h
  case syncPeriodEnd i signal high low =>
    have hlevel {c : Channel} (hc : tilesAged a c (s.ts.ch.get i)) : (s.setChannel i c).Tiled a :=
      h.update i (by simpa using hc) (by simp) (by simp)
    simp only [exec, execSyncPeriodEnd]
    (repeat' split)
    · exact (Ends_next ..).2 (hlevel (h i))
    · exact (Ends_next ..).2 (hlevel (h i))
    · exact (Ends_next ..).2 h
  case refreshWindowExpiry =>
    simp only [exec, execRefreshWindowExpiry]
    (repeat' split)
    · exact (Ends_next ..).2 (State.fullRefresh_tiled h)
    · exact (Ends_next ..).2 (hcongr rfl rfl)
    · exact (Ends_next ..).2 h
  -- messages: a REPAIR-REQUEST, and one that makes or refreshes a viewer, may trigger a full refresh
  case repairRequestTaken =>
    simp only [exec, execRepairRequestTaken]
    (repeat' split) <;> rw [Ends_next]
    · exact h
    · next e => exact State.refreshTrigger_tiled (htaken e)
    · exact h
  case presenceTakenByCa =>
    simp only [exec, execPresenceTakenByCa]
    (repeat' split) <;> rw [Ends_next]
    · exact h
    · next e _ => exact htaken e
    · next e _ => exact State.hear_tiled (htaken e) _ _
    · exact h
  case controlRequestTaken =>
    simp only [exec, execControlRequestTaken]
    (repeat' split) <;> rw [Ends_next]
    · exact h
    · next m u e _ =>
      exact (State.hear_tiled (htaken e) m.sender ((m.payload.getD 1 0).setWidth 2)).congr (by simp) (by simp)
    · next e _ => exact (htaken e).congr (by simp) (by simp)
    · exact h
  case controlReleaseTaken | inputTaken | attnClearTaken =>
    simp only [exec, execControlReleaseTaken, execInputTaken, execAttnClearTaken]
    split
    · split
      · exact (Ends_next ..).2 h
      · next e => (repeat' split) <;> exact (Ends_next ..).2 ((htaken e).congr (by simp) (by simp))
    · exact (Ends_next ..).2 h
  -- CA and WP
  case viewerEntryExpiry | waitEntryExpiry | idleTimerExpiry | notHolderNoteExpiry | busPowerAppears | busPowerLost
      | busReset | setAddress | setConfiguration | setFeatureRemoteWake | clearFeatureRemoteWake | getDescriptor
      | getReport | setIdleOrProtocol | unsupportedStandardRequest | keyboardOutputReport | keyboardPoll | pointerPoll
      | queueAgeOverrun | busIdleSuspend | busResume | resumeSignallingEnd =>
    simp only [exec, execViewerEntryExpiry, execWaitEntryExpiry, execIdleTimerExpiry, execNotHolderNoteExpiry,
      execBusPowerAppears, execBusPowerLost, execBusReset, execSetAddress, execSetConfiguration,
      execSetFeatureRemoteWake, execClearFeatureRemoteWake, execGetDescriptor, execGetReport, execSetIdleOrProtocol,
      execUnsupportedStandardRequest, execKeyboardOutputReport, execKeyboardPoll, execPointerPoll,
      execQueueAgeOverrun, execBusIdleSuspend, execBusResume, execResumeSignallingEnd]
    (repeat' split) <;> exact (Ends_next ..).2 (hcongr (by simp) (by simp))
  all_goals exact absurd rfl hdesk

/-- Settles O19 (R114, R115, R118, R120, R121, R130): the rule of the channels and the order of ages are one rule kept
by every command; a grid of 2560 x 1600 has 16,000 tiles. -/
theorem tileSetsKept : Obligations.TileSetsKept := by
  refine ⟨fun s t h hstep => ?_, fun s t h hages hwait hstep => ?_, fun c k h => ?_⟩
  · rw [← State.tiled_false_iff] at h ⊢
    exact step_keeps (P := State.Tiled False) (fun _ _ => id) (fun _ => id)
      (fun c s h => exec_tiled h False.elim c) h hstep
  · have htiled : s.Tiled True := fun i => ⟨h i, fun _ => hages i⟩
    suffices t.Tiled True from fun i => (this i).2 trivial
    unfold step at hstep
    split at hstep
    · cases hstep
      exact htiled
    · next c r _ => exact exec_tiled (s := { s with pending := r }) htiled (fun _ => hwait) c t hstep
  · by_cases hst : c.state = .locked
    · obtain ⟨m, hm⟩ := (tilesOk_of_locked hst).1 h
      obtain ⟨-, hw, -, hh⟩ := (Meas.withinLimits_iff m).1 hm.within
      refine hm.dirty.length_le.trans (Nat.mul_le_mul ?_ ?_ : _ ≤ 100 * 160)
      · simp only [tilesAlong, Meas.size]; omega
      · simp only [tilesAlong, Meas.size]; omega
    · simp [(tilesOk_of_not_locked hst).1 h]


end Sys2Proof.Machine
end

section
/-!
PROOF. The workstation's side of a source (06_the_workstation_port.md, R91 to R98, R103 to R105): bus power and resets,
the requests in each device state, the polls, the overrun and the suspension.
-/

namespace Sys2Proof.Machine

section Answers
variable (s : State)

theorem State.answer_eq (a : UsbAnswer) : s.answer a = s.setWP { s.wp with answer := a } := rfl

theorem State.setWP_answer (w : WP) (a : UsbAnswer) : (s.setWP w).answer a = s.setWP { w with answer := a } := rfl

theorem State.answer_setWP (w : WP) (a : UsbAnswer) : (s.answer a).setWP w = s.setWP w := rfl

theorem State.stalled_of_attached (h : s.wp.port ≠ .detached) :
    s.stalled = s.setWP { s.wp with answer := .stall } := if_neg h

@[simp] theorem State.setWP_servingAs (w : WP) (r : Role) : (s.setWP w).servingAs r = s.servingAs r := rfl

/-! ### LAMPS for the holder (R104) -/

theorem State.lampsToHolder_of_none (h : s.ca.slot = none) : s.lampsToHolder = s := by
  simp [State.lampsToHolder, h]

theorem State.lampsToHolder_of_some {x : Slot} (h : s.ca.slot = some x) :
    s.lampsToHolder = s.hand0 (.lamps x.desk s.wp.lamps) := by
  simp [State.lampsToHolder, h, State.lampsTo]

theorem State.lampsToHolder_of_room {x : Slot} (h : s.ca.slot = some x) (hup : s.fp.linkUp = true)
    (hroom : s.fp.class0.length < 16) :
    s.lampsToHolder = s.setFP { s.fp with class0 := s.fp.class0 ++ [.lamps x.desk s.wp.lamps] } := by
  rw [State.lampsToHolder_of_some s h, State.hand0_of_room hup hroom]

/-- Handing LAMPS on latches at most TX-DROP (R173). -/
theorem State.lampsToHolder_current : s.lampsToHolder.sa.current = s.sa.current := by
  unfold State.lampsToHolder
  split
  · rfl
  · obtain ⟨-, e⟩ | ⟨-, -, e⟩ | ⟨-, -, e⟩ := s.hand0_cases (.lamps _ s.wp.lamps) <;> rw [State.lampsTo, e] <;> rfl

theorem SA.latched_subset_latch (a : SA) {c d : Cond} (h : a.latched.has c = true) :
    (a.latch d).latched.has c = true := by
  simp only [CondSet.has] at *
  simp [SA.latch, SA.drive, h]

theorem State.lampsToHolder_latched {c : Cond} (h : s.sa.latched.has c = true) :
    s.lampsToHolder.sa.latched.has c = true := by
  unfold State.lampsToHolder
  split
  · exact h
  · obtain ⟨-, e⟩ | ⟨-, -, e⟩ | ⟨-, -, e⟩ := s.hand0_cases (.lamps _ s.wp.lamps) <;> rw [State.lampsTo, e]
    · exact h
    · exact h
    · exact SA.latched_subset_latch _ h

end Answers

/-! ### Bus power and resets (R91, R93, R94) -/

section Power
variable {s : State}

/-- A port that finds bus power (R91, R93). -/
def State.wpPowered (s : State) : State := s.setWP { s.wp.busReset with vbus := true }

theorem exec_busPowerAppears_of_detached (hs : s.servingAs .source = true) (hp : s.wp.port = .detached) :
    exec .busPowerAppears s = .next (s.wpPowered.lampsToHolder.setCurrent .workstationDetached false) :=
  if_pos (by simp [hs, hp])

theorem exec_busReset_of_attached (hs : s.servingAs .source = true) (hp : s.wp.port ≠ .detached) :
    exec .busReset s = .next (s.setWP s.wp.busReset).lampsToHolder :=
  if_pos (by simp [hs, hp])

/-- A port that loses its power: DETACHED, with its lamps as they were (R94). -/
def State.wpUnpowered (s : State) : State :=
  (s.setWP { s.wp.detach with vbus := false }).raise .workstationDetached

theorem exec_busPowerLost_of_attached (hs : s.servingAs .source = true) (hp : s.wp.port ≠ .detached) :
    exec .busPowerLost s = .next (if s.wp.lamps = 0 then s.wpUnpowered
      else (s.wpUnpowered.setWP { s.wpUnpowered.wp with lamps := 0 }).lampsToHolder) :=
  if_pos (by simp [hs, hp])

/-- Settles O39 (R91, R93, R94, R104; logs 1, 25). -/
theorem busPowerAndReset : Obligations.BusPowerAndReset := by
  refine ⟨fun s hs hp => ?_, fun s hs hp => ⟨?_, ?_⟩, fun s hs hp => ?_⟩
  · refine ⟨_, exec_busPowerAppears_of_detached hs hp, ?_, ?_, fun h => ?_, fun x hx hup hroom => ?_, ?_⟩
    · simp [State.wpPowered, WP.busReset]
    · exact State.setCurrent_has ..
    · rw [State.lampsToHolder_of_none (s := s.wpPowered) h]
      rfl
    · rw [State.lampsToHolder_of_room (s := s.wpPowered) hx hup hroom]
      exact ⟨rfl, rfl⟩
    · simp [State.sameDesk, State.wpPowered]
  · let u := s.setWP s.wp.busReset
    refine ⟨_, exec_busReset_of_attached hs hp, by simp, fun h => ?_, fun x hx hup hroom => ?_, ?_⟩
    · rw [State.lampsToHolder_of_none (s := u) h]
      rfl
    · rw [State.lampsToHolder_of_room (s := u) hx hup hroom]
      exact ⟨rfl, rfl⟩
    · simp [State.sameDesk]
  · obtain ⟨hcurrent, hlatched⟩ := s.sa.raise_has .workstationDetached
    let u := s.wpUnpowered.setWP { s.wpUnpowered.wp with lamps := 0 }
    have hframe : u.ca = s.ca ∧ u.cu = s.cu ∧ u.ts = s.ts ∧ u.pu = s.pu ∧ s.sameDesk u := by
      simp [u, State.wpUnpowered, State.sameDesk]
    have hfp : u.fp = s.fp := by simp [u, State.wpUnpowered]
    rw [exec_busPowerLost_of_attached hs hp]
    by_cases hl : s.wp.lamps = 0
    · rw [if_pos hl]
      refine ⟨_, rfl, ?_, hcurrent, hlatched, fun _ => rfl, fun _ _ h => absurd hl h, hframe⟩
      simp [State.wpUnpowered, WP.detach, hl]
    · rw [if_neg hl]
      refine ⟨u.lampsToHolder, rfl, by simp [u, State.wpUnpowered, WP.detach], ?_,
        State.lampsToHolder_latched u hlatched,
        fun h => ?_, fun x hx _ hup hroom => ?_, by simpa [State.sameDesk] using hframe⟩
      · rw [State.lampsToHolder_current]
        exact hcurrent
      · rw [State.lampsToHolder_of_none (s := u) (h.resolve_right hl), hfp]
      · rw [State.lampsToHolder_of_room (s := u) hx hup hroom]
        rfl
  · simp [exec, execBusReset, hp]

end Power

/-! ### Requests (R92, R95, R104) -/

section Requests
variable {s : State} (hs : s.servingAs .source = true)
include hs

theorem exec_setAddress_of_default {a : BitVec 16} (hp : s.wp.port = .connected .default) (hlo : 1 ≤ a.toNat)
    (hhi : a.toNat ≤ 127) : exec (.setAddress a) s
      = .next (s.setWP { s.wp with port := .connected .addressed, address := a.toNat, answer := .ack }) := by
  simp [exec, execSetAddress, hs, hp, hlo, hhi, State.setWP_answer]

theorem exec_setAddress_of_addressed (hp : s.wp.port = .connected .addressed) : exec (.setAddress 0) s
    = .next (s.setWP { s.wp with port := .connected .default, address := 0, answer := .ack }) := by
  simp [exec, execSetAddress, hs, hp, State.setWP_answer]

theorem exec_setAddress_of_other {a : BitVec 16} (hp : s.wp.port ≠ .detached)
    (hdefault : s.wp.port = .connected .default → a = 0 ∨ 127 < a.toNat)
    (haddressed : s.wp.port = .connected .addressed → a ≠ 0) :
    exec (.setAddress a) s = .next (s.setWP { s.wp with answer := .stall }) := by
  have hfirst : ¬ (s.wp.port = .connected .default ∧ 1 ≤ a.toNat ∧ a.toNat ≤ 127) := by
    rintro ⟨h, hlo, hhi⟩
    obtain rfl | h := hdefault h
    · simp at hlo
    · omega
  have hsecond : ¬ (s.wp.port = .connected .addressed ∧ a = 0) := fun ⟨h, ha⟩ => haddressed h ha
  simp only [exec, execSetAddress, hs, if_true, Bool.and_eq_true, decide_eq_true_eq, and_assoc, hfirst, hsecond,
    if_false, State.stalled_of_attached _ hp]

theorem exec_setConfiguration_of_one (hp : s.wp.port = .connected .addressed ∨ s.wp.port = .connected .configured) :
    exec (.setConfiguration 1) s = .next (s.setWP { s.wp with port := .connected .configured, answer := .ack }) := by
  simp [exec, execSetConfiguration, hs, hp, State.setWP_answer]

theorem exec_setConfiguration_of_zero (hp : s.wp.port = .connected .configured) : exec (.setConfiguration 0) s
    = .next (s.setWP { s.wp with port := .connected .addressed, answer := .ack }) := by
  simp [exec, execSetConfiguration, hs, hp, State.setWP_answer]

theorem exec_setConfiguration_of_other {c : BitVec 16} (hp : s.wp.port ≠ .detached)
    (h : 1 < c.toNat ∨ s.wp.port = .connected .default ∨ (∃ b, s.wp.port = .suspended b)
      ∨ (c = 0 ∧ s.wp.port = .connected .addressed)) :
    exec (.setConfiguration c) s = .next (s.setWP { s.wp with answer := .stall }) := by
  have hfirst : ¬ (c = 1 ∧ (s.wp.port = .connected .addressed ∨ s.wp.port = .connected .configured)) := by
    rintro ⟨rfl, hport⟩
    obtain h | h | ⟨b, h⟩ | ⟨h, -⟩ := h <;> simp_all
  have hsecond : ¬ (c = 0 ∧ s.wp.port = .connected .configured) := by
    rintro ⟨rfl, hport⟩
    obtain h | h | ⟨b, h⟩ | ⟨-, h⟩ := h <;> simp_all
  simp only [exec, execSetConfiguration, hs, if_true, Bool.and_eq_true, Bool.or_eq_true, decide_eq_true_eq, hfirst,
    hsecond, if_false, State.stalled_of_attached _ hp]

/-- The remote wake feature set or cleared (R92). -/
theorem exec_remoteWake_of_addressed (hp : s.wp.port = .connected .addressed ∨ s.wp.port = .connected .configured) :
    exec .setFeatureRemoteWake s = .next (s.setWP { s.wp with remoteWake := true, answer := .ack })
      ∧ exec .clearFeatureRemoteWake s = .next (s.setWP { s.wp with remoteWake := false, answer := .ack }) := by
  simp [exec, execSetFeatureRemoteWake, execClearFeatureRemoteWake, hs, State.wpRemoteWake, hp, State.setWP_answer]

theorem exec_remoteWake_of_other (hp : s.wp.port = .connected .default ∨ ∃ b, s.wp.port = .suspended b) :
    exec .setFeatureRemoteWake s = .next (s.setWP { s.wp with answer := .stall })
      ∧ exec .clearFeatureRemoteWake s = .next (s.setWP { s.wp with answer := .stall }) := by
  obtain hp | ⟨b, hp⟩ := hp <;>
    simp [exec, execSetFeatureRemoteWake, execClearFeatureRemoteWake, hs, State.wpRemoteWake, hp,
      State.stalled_of_attached]

/-- The keyboard's output report in ADDRESSED or CONFIGURED (R104). -/
theorem exec_keyboardOutputReport_of_addressed
    (hp : s.wp.port = .connected .addressed ∨ s.wp.port = .connected .configured) (r : Byte) :
    exec (.keyboardOutputReport r) s = .next (if r.setWidth 5 = s.wp.lamps then s.setWP { s.wp with answer := .ack }
      else (s.setWP { s.wp with lamps := r.setWidth 5, answer := .ack }).lampsToHolder) := by
  obtain ⟨b, hb, hp⟩ : ∃ b : BusState, b ≠ .default ∧ s.wp.port = .connected b := by
    obtain hp | hp := hp <;> exact ⟨_, by simp, hp⟩
  simp only [exec, execKeyboardOutputReport, hs, if_true, State.answer_eq]
  split
  · next h => exact absurd (PortState.connected.inj (hp.symm.trans h)) hb
  · split <;> rfl
  · next h => exact absurd hp (h b)

theorem exec_onBus {b : BusState} (hp : s.wp.port = .connected b) :
    exec .getDescriptor s = .next (s.setWP { s.wp with answer := .descriptor })
      ∧ exec .setIdleOrProtocol s = .next (s.setWP { s.wp with answer := .ack })
      ∧ exec (.getReport .keyboard) s
        = .next (s.setWP { s.wp with answer := .report (keyboardReport s.wp.presented) })
      ∧ exec (.getReport .pointer) s
        = .next (s.setWP { s.wp with answer := .report (pointerReport s.wp.buttons s.wp.x s.wp.y 0) }) := by
  simp [exec, execGetDescriptor, execSetIdleOrProtocol, execGetReport, hs, WP.onBus, hp, State.answer_eq]

end Requests

/-- Settles O40 (R92, R95, R104; log 16). -/
theorem workstationRequests : Obligations.WorkstationRequests := by
  intro s hs
  refine ⟨fun a => exec_setAddress_of_default hs, exec_setAddress_of_addressed hs, fun a => exec_setAddress_of_other hs,
    fun hp => ⟨exec_setConfiguration_of_one hs hp, (exec_remoteWake_of_addressed hs hp).1,
      (exec_remoteWake_of_addressed hs hp).2, fun r => ⟨fun h => ?_, fun h hslot => ?_, fun x h hslot => ?_⟩⟩,
    exec_setConfiguration_of_zero hs, fun c => exec_setConfiguration_of_other hs, exec_remoteWake_of_other hs,
    fun hp r => ?_, fun hp => ?_, fun b => exec_onBus hs⟩
  · rw [exec_keyboardOutputReport_of_addressed hs hp, if_pos h]
  · rw [exec_keyboardOutputReport_of_addressed hs hp, if_neg h, State.lampsToHolder_of_none]
    exact hslot
  · rw [exec_keyboardOutputReport_of_addressed hs hp, if_neg h, State.lampsToHolder_of_some (x := x)]
    · rfl
    · exact hslot
  · simp [exec, execKeyboardOutputReport, hs, hp, State.answer_eq]
  · simp [exec, execUnsupportedStandardRequest, hs, State.stalled_of_attached _ hp]

/-! ### Polls (R97, R103) -/

/-- Settles O41 (R97, R103; log 16): a pointer report is called for by what was last delivered and by the accumulator.
-/
theorem pollsAnswered : Obligations.PollsAnswered := by
  intro s ack hs hp
  have hcalls (h : s.wp.delivered ≠ some ⟨s.wp.x, s.wp.y, s.wp.buttons⟩ ∨ s.wp.wheel ≠ 0) :
      (decide (s.wp.delivered ≠ some s.wp.pointerNow) || decide (s.wp.wheel ≠ 0)) = true := by
    rw [Bool.or_eq_true, decide_eq_true_eq, decide_eq_true_eq]
    exact h
  refine ⟨fun hq => ?_, fun e r hq => ⟨?_, ?_⟩, fun hd hw => ?_, fun h => ⟨?_, ?_⟩⟩
  · simp [exec, execKeyboardPoll, hs, hp, hq, State.answer_eq]
  · simp [exec, execKeyboardPoll, hs, hp, hq, State.answer_eq, State.setWP]
  · simp [exec, execKeyboardPoll, hs, hp, hq, State.answer_eq]
  · simp [exec, execPointerPoll, hs, hp, hd, hw, WP.pointerNow, State.answer_eq]
  · rw [← wheelShare_eq]
    exact (if_pos hs).trans ((if_pos hp).trans ((if_pos (hcalls h)).trans (if_pos rfl)))
  · rw [← wheelShare_eq]
    exact (if_pos hs).trans ((if_pos hp).trans ((if_pos (hcalls h)).trans (if_neg nofun)))

/-- Settles O42 (R98, R105; logs 25, 37): the watched entry is the oldest without a recovery mark. -/
theorem overrunAndSuspend : Obligations.OverrunAndSuspend := by
  refine ⟨fun s l r e hs hq hl he hold => ?_, fun s b hs hp => ?_, fun s b hs hp => ?_, fun s u hu hran => ?_⟩
  · have htoo : s.wp.tooOld s.now = true := (WP.tooOld_iff ..).2 ⟨l, e, r, hq, hl, he, hold⟩
    simp [exec, execQueueAgeOverrun, hs, htoo, WP.overrun]
  · simp [exec, execBusIdleSuspend, hp, hs]
  · simp [exec, execBusResume, hp, hs]
  · exact if_pos ((timerDue_iff ..).2 ⟨u, hu, hran⟩)

end Sys2Proof.Machine
end

section
/-!
PROOF. What a source makes of viewers, of triggers and of valid lines: a desk's PRESENCE heard (R73), the full refresh
and its window (R134, R135), and VALID_LINE_END (R113, R115, R116, R118).
-/

namespace Sys2Proof.Machine

/-! ### The channels a PRESENCE lists (R73) -/

theorem channelBit_getLsbD (c d : Fin 2) : (channelBit c).getLsbD d.val = decide (d = c) := by
  decide +revert

/-- A set of channels is gathered bit by bit. -/
theorem gathered_getLsbD (l : List Stream) (w : Channels) (c : Fin 2) :
    (l.foldl (fun w x => w ||| channelBit x.channel) w).getLsbD c.val
      = (w.getLsbD c.val || l.any fun x => x.channel = c) := by
  induction l generalizing w with
  | nil => simp
  | cons x l ih =>
    rw [List.foldl_cons, ih, BitVec.getLsbD_or, channelBit_getLsbD, List.any_cons, Bool.or_assoc]
    simp [eq_comm (a := c)]

theorem Channels.ext {v w : Channels} (h : ∀ c : Fin 2, v.getLsbD c.val = w.getLsbD c.val) : v = w :=
  BitVec.eq_of_getLsbD_eq fun i hi => h ⟨i, hi⟩

/-- The channels of a station's streams among those listed. -/
theorem gathered_eq {l : List Stream} {p : Nat} {w : Channels}
    (hw : ∀ c : Fin 2, w.getLsbD c.val = true ↔ (⟨p, c⟩ : Stream) ∈ l) :
    (l.filter fun x => x.station = p).foldl (fun w x => w ||| channelBit x.channel) 0 = w := by
  refine Channels.ext fun c => ?_
  have hnone : BitVec.getLsbD (0 : Channels) c.val = false := BitVec.getLsbD_zero
  rw [gathered_getLsbD, hnone, Bool.false_or, Bool.eq_iff_iff, hw]
  simp only [List.any_eq_true, List.mem_filter, decide_eq_true_eq]
  constructor
  · rintro ⟨⟨q, d⟩, ⟨hx, rfl⟩, rfl⟩
    exact hx
  · exact fun h => ⟨_, ⟨h, rfl⟩, rfl⟩

theorem filter_station_isEmpty {l : List Stream} {p : Nat} {w : Channels}
    (hw : ∀ c : Fin 2, w.getLsbD c.val = true ↔ (⟨p, c⟩ : Stream) ∈ l) :
    (l.filter fun x => x.station = p).isEmpty = decide (w = 0) := by
  rw [Bool.eq_iff_iff, List.isEmpty_iff, decide_eq_true_iff]
  constructor
  · intro h
    rw [← gathered_eq hw, h]
    rfl
  · rintro rfl
    refine List.filter_eq_nil_iff.2 fun ⟨q, c⟩ hx hq => ?_
    obtain rfl : q = p := by simpa using hq
    simpa using (hw c).2 hx

theorem exec_presenceTakenByCa {s u : State} {m : RxMsg} {w : Channels} (hs : s.servingAs .source = true)
    (ht : s.take .ca .presence = some (m, u))
    (hw : ∀ c : Fin 2, w.getLsbD c.val = true ↔ (⟨s.fp.own, c⟩ : Stream) ∈ presenceStreams m.payload) :
    exec .presenceTakenByCa s = .next (if w = 0 then u else u.hear m.sender w) := by
  have hown : u.fp.own = s.fp.own := by simp [(State.take_eq ht).1]
  simp only [exec, execPresenceTakenByCa, hs, ht, if_true, hown, filter_station_isEmpty hw, gathered_eq hw,
    decide_eq_true_eq]
  split <;> rfl

/-- Settles O28 (R73, R134): what the viewer table says of the sender. -/
theorem viewerHeard : Obligations.ViewerHeard := by
  intro s u m w hs ht hw
  have hca : u.ca = s.ca := by simp [(State.take_eq ht).1]
  have hnow : u.now = s.now := by simp [(State.take_eq ht).1]
  rw [exec_presenceTakenByCa hs ht hw]
  refine ⟨fun h => by rw [if_pos h], fun h => ?_⟩
  rw [if_neg h]
  refine ⟨fun v hv => ⟨fun hsame => ?_, fun hgain => ?_⟩, fun hnew => ?_⟩
  · simp [State.hear, hca, hnow, hv, hsame]
  · simp only [State.hear, hca, hnow, hv, if_neg hgain]
  · have hnone : s.ca.viewers.find? (fun v => v.desk = m.sender) = none := by
      simpa using hnew
    refine ⟨fun hroom => ?_, fun hfull => ?_⟩
    · simp [State.hear, hca, hnow, hnone, Config.viewerMax, hroom]
    · simp [State.hear, hca, hnone, Config.viewerMax, Nat.not_lt.2 hfull]

/-! ### The full refresh (R134, R135) -/

/-- Settles O34 (R134, R135). -/
theorem refreshResult : Obligations.RefreshResult := by
  refine ⟨fun s => rfl, fun k c => ⟨fun hst => ?_, fun r hst hr hnodup hgrid => ?_⟩, fun s u m hs ht =>
    ⟨fun hstopped => ?_, fun w hruns => ?_⟩, fun s w hw hran => ⟨fun hset => ?_, fun hclear => ?_⟩⟩
  · simp [TsChannel.refresh, Channel.size, hst]
  · have hrefresh : k.refresh c = { k with dirty := refreshDirty ⟨r.w, r.h⟩ c.frame k.dirty } := by
      simp [TsChannel.refresh, Channel.size_of_locked hst hr]
    rw [hrefresh]
    refine ⟨rfl, mem_tiles_refreshDirty hgrid, nodup_refreshDirty hnodup, fun d => mem_refreshDirty_of_mem hnodup hgrid,
      fun d hd hnew => ?_, olderDirty c.frame k.dirty, freshDirty ⟨r.w, r.h⟩ c.frame k.dirty, refreshDirty_eq .., rfl,
      fun d hd => (mem_freshDirty.1 hd).2.1, freshDirty_raster ..⟩
    obtain hold | hfresh := List.mem_append.1 (refreshDirty_eq .. ▸ hd)
    · exact absurd (mem_olderDirty.1 hold).1 hnew
    · exact (mem_freshDirty.1 hfresh).2.1
  · have hts : u.ts = s.ts := by simp [(State.take_eq ht).1]
    simp [exec, execRepairRequestTaken, hs, ht, State.refreshTrigger, hts, hstopped]
  · have hts : u.ts = s.ts := by simp [(State.take_eq ht).1]
    simp [exec, execRepairRequestTaken, hs, ht, State.refreshTrigger, hts, hruns]
  · have hdue : timerDue s.now s.ts.window Config.refreshUs = true := (timerDue_iff ..).2 ⟨w, hw, hran⟩
    simp [exec, execRefreshWindowExpiry, hdue, hset]
  · have hdue : timerDue s.now s.ts.window Config.refreshUs = true := (timerDue_iff ..).2 ⟨w, hw, hran⟩
    simp [exec, execRefreshWindowExpiry, hdue, hclear]

/-! ### VALID_LINE_END (R113, R115, R116, R118) -/

section Line
variable {s : State} {i : Fin 2} {px : List Colour} {r : Meas} (hs : s.servingAs .source = true)
  (hst : (s.cu.ch.get i).state = .locked) (hr : (s.cu.ch.get i).mode = some r)

/-- The state with a line's pixels within the locked width written (R116). -/
def State.lineStored (s : State) (i : Fin 2) (px : List Colour) (r : Meas) : State :=
  s.setCU { s.cu with store := s.cu.store.setRow i.val 0 (s.cu.ch.get i).line (px.take r.w) }

/-- The channel as a line that does not go with the locked mode leaves it (R113). -/
def Channel.lineRefused (c : Channel) : Channel :=
  { c with state := .measuring, ref := none, run := 0, line := c.line + 1 }

include hs hst hr

theorem exec_validLineEnd_of_mode (hline : (s.cu.ch.get i).line < r.h) (hw : px.length = r.w) :
    exec (.validLineEnd i px) s = .next ((s.lineStored i px r).setChannel i (s.cu.ch.get i).lineTaken) := by
  simp [exec, execValidLineEnd, hs, Channel.size_of_locked hst hr, hline, hw, State.lineStored]

theorem exec_validLineEnd_of_width (hline : (s.cu.ch.get i).line < r.h) (hw : px.length ≠ r.w) :
    exec (.validLineEnd i px) s = .next ((s.lineStored i px r).leaveLocked i (s.cu.ch.get i).lineRefused) := by
  simp [exec, execValidLineEnd, hs, Channel.size_of_locked hst hr, hline, hw, State.lineStored, Channel.lineRefused]

theorem exec_validLineEnd_of_height (hline : r.h ≤ (s.cu.ch.get i).line) :
    exec (.validLineEnd i px) s = .next (s.leaveLocked i (s.cu.ch.get i).lineRefused) := by
  simp [exec, execValidLineEnd, hs, Channel.size_of_locked hst hr, Nat.not_lt.2 hline, Channel.lineRefused]

end Line

section Stored
variable {m : Memory} {n y w : Nat} {px : List Colour} (hm : m.wf = true) (hw : w ≤ 2560)
include hm

/-- The pixels of a line within a width stand in their places. -/
theorem pixel_lineStored (hw : w ≤ 2560) (hy : y < 1600) {x : Nat} {c : Colour} (hx : x < w) (hc : px[x]? = some c) :
    (m.setRow n 0 y (px.take w)).pixel n x y = c := by
  obtain ⟨hlen, -⟩ := List.getElem?_eq_some_iff.1 hc
  have hl : 0 + (px.take w).length ≤ Config.pitch := by simp [Config.pitch]; omega
  have h := Memory.pixel_setRow (n := n) hm hl (y := y) (by simpa [Config.regionRows] using hy) (i := x)
    (by simp; omega)
  rw [List.getElem?_take_of_lt hx, hc, Nat.zero_add] at h
  exact Option.some.inj h

/-- Every other byte stays. -/
theorem read_lineStored {a : Nat} (ha : ∀ x, x < w → x < px.length → a ≠ pixelAddress n x y
      ∧ a ≠ pixelAddress n x y + 1 ∧ a ≠ pixelAddress n x y + 2) :
    (m.setRow n 0 y (px.take w)).read a = m.read a := by
  refine Memory.read_setRow_outside hm fun x hx => ?_
  rintro ⟨k, hk, rfl⟩
  have hbytes := ha x (by simp at hx; omega) (by simp at hx; omega)
  simp only [Nat.zero_add] at hbytes
  obtain rfl | rfl | rfl : k = 0 ∨ k = 1 ∨ k = 2 := by omega
  all_goals simp at hbytes

end Stored

/-- LOCKED left by a refused line, with its effects (R113, R115; log 22). -/
theorem State.lineRefused_left (u : State) (i : Fin 2) (c : Channel) : let t := u.leaveLocked i c.lineRefused
    t.cu.ch.get i = { c with state := .measuring, mode := none, ref := none, run := 0, line := c.line + 1 }
      ∧ t.cu.ch.get (1 - i) = u.cu.ch.get (1 - i) ∧ t.cu.store = u.cu.store
      ∧ t.ts.ch.get (1 - i) = u.ts.ch.get (1 - i)
      ∧ t.ts.ch.get i = { u.ts.ch.get i with dirty := [], allowance := 0 }
      ∧ (t.wp.places.get i).mode = none ∧ t.wp.extent = extentOf t.wp.places ∧ t.pu.timer = some u.now
      ∧ (u.fp.linkUp = true → Out2.presence ∈ t.fp.class2) ∧ t.ca = u.ca ∧ u.sameDesk t := by
  dsimp only
  rw [State.leaveLocked_eq]
  refine ⟨by simp [Channel.lineRefused], by simp, by simp, by simp, by simp [TsChannel.unlocked], by simp,
    by simp [WP.lockChange], by simp, State.presence_mem_lockTold u i _ _ _, by simp, by simp⟩

/-- Settles O37 (R113, R115, R116, R118; logs 9, 22). -/
theorem validLineResult : Obligations.ValidLineResult := by
  intro s i px r hs hst hr
  refine ⟨fun hline hw => ?_, fun hbad => ?_⟩
  · refine ⟨_, exec_validLineEnd_of_mode hs hst hr hline hw, by simp [Channel.lineTaken], by simp [State.lineStored],
      fun hwf hmax hrows => ⟨fun x c hc => ?_, fun a ha => ?_⟩, by simp [State.lineStored, State.sameDesk]⟩
    · obtain ⟨hlen, -⟩ := List.getElem?_eq_some_iff.1 hc
      exact pixel_lineStored hwf hmax (by omega) (by omega) hc
    · exact read_lineStored hwf fun x hx _ => ha x hx
  · obtain hline | hline := Nat.lt_or_ge (s.cu.ch.get i).line r.h
    · have hw : px.length ≠ r.w := hbad.resolve_left (Nat.not_le.2 hline)
      obtain ⟨hcu, hother, hstore, hrest⟩ := (s.lineStored i px r).lineRefused_left i (s.cu.ch.get i)
      refine ⟨_, exec_validLineEnd_of_width hs hst hr hline hw, hcu, hother, fun h => absurd hline (Nat.not_lt.2 h),
        fun hwf hmax hrows _ => ?_, hrest⟩
      rw [hstore]
      exact ⟨fun x c hx hc => pixel_lineStored hwf hmax (by omega) hx hc, fun a ha => read_lineStored hwf ha⟩
    · obtain ⟨hcu, hother, hstore, hrest⟩ := s.lineRefused_left i (s.cu.ch.get i)
      exact ⟨_, exec_validLineEnd_of_height hs hst hr hline, hcu, hother, fun _ => hstore,
        fun _ _ _ h => absurd h (Nat.not_lt.2 hline), hrest⟩

end Sys2Proof.Machine
end

section
/-!
PROOF. An idle step: what joins the queue is what is due of itself, and such a command changes nothing when it is not
due (00_scope.md, TIME; logs 1, 2).
-/

namespace Sys2Proof.Machine

/-! ### What joins the queue -/

theorem SrcRec.mem_due_iff (now : Time) (r : SrcRec) (c : Instr) :
    c ∈ r.due now ↔ (ranFor now r.holdOff 100000 ∧ c = .holdOffTimerExpiry r.station)
      ∨ (ranFor now r.ask 200000 ∧ c = .askTimerExpiry r.station)
      ∨ (ranFor now r.absence 1000000 ∧ c = .absenceTimerExpiry r.station)
      ∨ (ranFor now r.refusedTimer 2000000 ∧ c = .refusedTimerExpiry r.station) := by
  simp only [SrcRec.due, List.mem_append, mem_ifDue_iff, or_assoc]
  rfl

theorem Ctx.mem_due_iff (now : Time) (x : Ctx) (c : Instr) :
    c ∈ x.due now ↔ (ranFor now x.repair 500000 ∧ c = .repairTimerExpiry x.stream)
      ∨ (ranFor now x.stale 1000000 ∧ c = .staleTimerExpiry x.stream)
      ∨ (ranFor now x.lost 5000000 ∧ c = .lostTimerExpiry x.stream) := by
  simp only [Ctx.due, List.mem_append, mem_ifDue_iff, or_assoc]
  rfl

theorem ranFor_some (now u : Time) (us : Nat) : ranFor now (some u) us ↔ us ≤ (now - u).toNat := by
  simp [ranFor]

theorem CA.waitUs_eq (c : CA) : c.waitUs = 1000000 * c.waitLife := by
  unfold CA.waitUs Config.ms
  omega

/-- What is due of itself at a desk. -/
theorem State.mem_deskDue_iff (s : State) (c : Instr) :
    c ∈ s.deskDue ↔ (ranFor s.now s.fu.interval (1000 * s.fu.intervalMs) ∧ c = .inputIntervalExpiry)
      ∨ (ranFor s.now s.ii.leadSeen 500000 ∧ c = .leadSeenTimerExpiry)
      ∨ (ranFor s.now s.ii.command 2000000 ∧ c = .commandTimerExpiry)
      ∨ (ranFor s.now s.ii.ports.zero.lampRetry 100000 ∧ c = .lampRetryExpiry 0)
      ∨ (ranFor s.now s.ii.ports.one.lampRetry 100000 ∧ c = .lampRetryExpiry 1)
      ∨ (∃ r ∈ s.fu.records, c ∈ r.due s.now) ∨ (∃ x ∈ s.sr.ctxs, c ∈ x.due s.now)
      ∨ (ranFor s.now s.hu.minute 60000000 ∧ c = .minuteTimerExpiry) := by
  have hms : Config.ms s.fu.intervalMs = 1000 * s.fu.intervalMs := by unfold Config.ms; omega
  simp only [State.deskDue, List.mem_append, mem_ifDue_iff, List.mem_flatMap, or_assoc, hms]
  rfl

/-- What is due of itself at a source. -/
theorem State.mem_sourceDue_iff (s : State) (c : Instr) :
    c ∈ s.sourceDue ↔ (ranFor s.now s.cu.ch.zero.sync 100000 ∧ c = .syncTimerExpiry 0)
      ∨ (ranFor s.now s.cu.ch.one.sync 100000 ∧ c = .syncTimerExpiry 1)
      ∨ (ranFor s.now s.ts.window 500000 ∧ c = .refreshWindowExpiry)
      ∨ (ranFor s.now s.ca.idle (1000000 * s.ca.grace) ∧ c = .idleTimerExpiry)
      ∨ (∃ v ∈ s.ca.viewers, 1000000 ≤ (s.now - v.heard).toNat ∧ c = .viewerEntryExpiry v.desk)
      ∨ (∃ e ∈ s.ca.wait, 1000000 * s.ca.waitLife ≤ (s.now - e.entered).toNat ∧ c = .waitEntryExpiry e.desk)
      ∨ (∃ n ∈ s.ca.notes, ranFor s.now n.timer 100000 ∧ c = .notHolderNoteExpiry n.desk)
      ∨ (s.wp.tooOld s.now = true ∧ c = .queueAgeOverrun)
      ∨ (ranFor s.now s.wp.resuming 10000 ∧ c = .resumeSignallingEnd)
      ∨ (s.tileToSend.isSome = true ∧ c = .tileChoice) := by
  simp only [State.sourceDue, List.mem_append, mem_ifDue_iff, List.mem_flatMap, or_assoc, CA.graceUs_eq, CA.waitUs_eq,
    ranFor_some, List.mem_ite_nil_right, List.mem_singleton]
  rfl

theorem State.mem_dueCommands_iff (s : State) (c : Instr) :
    c ∈ s.dueCommands ↔ s.isDue c := by
  have hlisten : Config.listenUs = 1000000 := rfl
  have hpresence : Config.presenceUs = 250000 := rfl
  simp only [State.dueCommands, List.mem_append, mem_ifDue_iff, State.mem_deskDue_iff, State.mem_sourceDue_iff,
    SrcRec.mem_due_iff, Ctx.mem_due_iff, hlisten, hpresence]
  cases c
  case lampRetryExpiry port | syncTimerExpiry port =>
    match port with
    | 0 | 1 => simp [State.isDue, Pair.get]
  case queueAgeOverrun => simp [State.isDue, WP.tooOld_iff]
  case viewerEntryExpiry d | waitEntryExpiry d | notHolderNoteExpiry d | askTimerExpiry d | refusedTimerExpiry d
    | absenceTimerExpiry d | holdOffTimerExpiry d | staleTimerExpiry d | lostTimerExpiry d | repairTimerExpiry d =>
    simp [State.isDue, and_comm, eq_comm (a := d)]
  all_goals simp [State.isDue]

/-! ### What is not due -/

theorem FU.record_of_not_due {f : FU} {p : Nat} {r : SrcRec} {P : SrcRec → Prop}
    (h : ¬ ∃ r ∈ f.records, r.station = p ∧ P r) (hr : f.record p = some r) : ¬ P r := fun hP =>
  h ⟨r, List.mem_of_find?_eq_some hr, FU.station_of_record hr, hP⟩

theorem SR.ctx_of_not_due {b : SR} {x : Stream} {c : Ctx} {P : Ctx → Prop}
    (h : ¬ ∃ c ∈ b.ctxs, c.stream = x ∧ P c) (hc : b.ctx x = some c) : ¬ P c := fun hP =>
  h ⟨c, List.mem_of_find?_eq_some hc, by simpa using List.find?_some hc, hP⟩

theorem exec_recordTimer_of_not_due {s : State} {p : Nat} :
    (¬ s.isDue (.askTimerExpiry p) → exec (.askTimerExpiry p) s = .next s)
      ∧ (¬ s.isDue (.refusedTimerExpiry p) → exec (.refusedTimerExpiry p) s = .next s)
      ∧ (¬ s.isDue (.absenceTimerExpiry p) → exec (.absenceTimerExpiry p) s = .next s)
      ∧ (¬ s.isDue (.holdOffTimerExpiry p) → exec (.holdOffTimerExpiry p) s = .next s) := by
  simp only [exec, execAskTimerExpiry, execRefusedTimerExpiry, execAbsenceTimerExpiry, execHoldOffTimerExpiry]
  cases hr : s.fu.record p with
  | none => exact ⟨fun _ => rfl, fun _ => rfl, fun _ => rfl, fun _ => rfl⟩
  | some r =>
    refine ⟨fun h => ?_, fun h => ?_, fun h => ?_, fun h => ?_⟩
    all_goals
      have hnot := FU.record_of_not_due h hr
      rw [← timerDue_iff] at hnot
      exact if_neg hnot

theorem exec_ctxTimer_of_not_due {s : State} {x : Stream} :
    (¬ s.isDue (.staleTimerExpiry x) → exec (.staleTimerExpiry x) s = .next s)
      ∧ (¬ s.isDue (.lostTimerExpiry x) → exec (.lostTimerExpiry x) s = .next s)
      ∧ (¬ s.isDue (.repairTimerExpiry x) → exec (.repairTimerExpiry x) s = .next s) := by
  simp only [exec, execStaleTimerExpiry, execLostTimerExpiry, execRepairTimerExpiry]
  cases hc : s.sr.ctx x with
  | none => exact ⟨fun _ => rfl, fun _ => rfl, fun _ => rfl⟩
  | some c =>
    refine ⟨fun h => ?_, fun h => ?_, fun h => ?_⟩
    all_goals
      have hnot := SR.ctx_of_not_due h hc
      rw [← timerDue_eq_false_iff] at hnot
    · exact if_neg (ne_true_of_eq_false hnot)
    · exact if_neg fun hdue => ne_true_of_eq_false hnot (Bool.and_eq_true_iff.1 hdue).1
    · exact if_neg (ne_true_of_eq_false hnot)

theorem exec_waitEntryExpiry_of_not_due {s : State} {d : Nat} (h : ¬ s.isDue (.waitEntryExpiry d)) :
    exec (.waitEntryExpiry d) s = .next s := by
  simp only [exec, execWaitEntryExpiry]
  cases he : s.ca.wait.find? fun e => e.desk = d with
  | none => rfl
  | some e =>
    refine if_neg fun hdue => h ⟨e, List.mem_of_find?_eq_some he, by simpa using List.find?_some he, ?_⟩
    rw [timerDue_iff, ranFor_some, CA.waitUs_eq] at hdue
    exact hdue

theorem exec_notHolderNoteExpiry_of_not_due {s : State} {d : Nat} (h : ¬ s.isDue (.notHolderNoteExpiry d)) :
    exec (.notHolderNoteExpiry d) s = .next s := by
  have hmap : (s.ca.notes.map fun n =>
      if n.desk = d && timerDue s.now n.timer Config.noteUs then { n with timer := none } else n) = s.ca.notes := by
    refine (List.map_congr_left fun n hn => if_neg fun hdue => ?_).trans (List.map_id' _)
    rw [Bool.and_eq_true, timerDue_iff, decide_eq_true_eq] at hdue
    exact h ⟨n, hn, hdue⟩
  simp only [exec, execNotHolderNoteExpiry, hmap]
  rfl

theorem exec_viewerEntryExpiry_of_not_due {s : State} {d : Nat} (h : ¬ s.isDue (.viewerEntryExpiry d)) :
    exec (.viewerEntryExpiry d) s = .next s :=
  if_neg fun hdue => h (State.viewerDue_iff.1 hdue)

/-- A command of itself that is not due changes nothing (the model's choice, log 1). -/
theorem exec_of_not_due {c : Instr} {s : State} (hself : ofItself c = true) (h : ¬ s.isDue c) :
    exec c s = .next s := by
  have hoff {t : Timer} {us : Nat} (hnot : ¬ ranFor s.now t us) : ¬ timerDue s.now t us = true := fun hdue =>
    hnot ((timerDue_iff ..).1 hdue)
  cases c
  case listenTimerExpiry => exact if_neg fun hdue => hoff h (Bool.and_eq_true_iff.1 hdue).2
  case tileChoice =>
    have hnone : s.tileToSend = none := by simpa [State.isDue] using h
    simp only [exec, execTileChoice, hnone]
  case queueAgeOverrun => exact if_neg fun hdue => h ((WP.tooOld_iff ..).1 (Bool.and_eq_true_iff.1 hdue).2)
  case askTimerExpiry p => exact exec_recordTimer_of_not_due.1 h
  case refusedTimerExpiry p => exact exec_recordTimer_of_not_due.2.1 h
  case absenceTimerExpiry p => exact exec_recordTimer_of_not_due.2.2.1 h
  case holdOffTimerExpiry p => exact exec_recordTimer_of_not_due.2.2.2 h
  case staleTimerExpiry x => exact exec_ctxTimer_of_not_due.1 h
  case lostTimerExpiry x => exact exec_ctxTimer_of_not_due.2.1 h
  case repairTimerExpiry x => exact exec_ctxTimer_of_not_due.2.2 h
  case waitEntryExpiry d => exact exec_waitEntryExpiry_of_not_due h
  case viewerEntryExpiry d => exact exec_viewerEntryExpiry_of_not_due h
  case notHolderNoteExpiry d => exact exec_notHolderNoteExpiry_of_not_due h
  case inputIntervalExpiry =>
    refine if_neg (hoff ?_)
    rw [show Config.ms s.fu.intervalMs = 1000 * s.fu.intervalMs from Nat.mul_comm ..]
    exact h
  case idleTimerExpiry => exact if_neg (hoff (CA.graceUs_eq _ ▸ h))
  case presenceTimerExpiry | refreshWindowExpiry | leadSeenTimerExpiry | commandTimerExpiry | lampRetryExpiry
    | minuteTimerExpiry | syncTimerExpiry | resumeSignallingEnd => exact if_neg (hoff h)
  all_goals exact absurd hself Bool.false_ne_true

/-- Settles O2: an idle step is one microsecond, after which the queue holds what is due of itself; and a command that
is not due changes nothing. -/
theorem stepIdles : Obligations.StepIdles := by
  refine ⟨fun s hnone => ⟨s.tick, by simp only [step, hnone], rfl, rfl, fun c => State.mem_dueCommands_iff _ c, rfl,
    rfl,
    rfl, rfl, rfl, rfl, rfl, rfl, rfl, rfl, rfl, rfl, rfl⟩, fun c s hself h => exec_of_not_due hself h⟩

end Sys2Proof.Machine
end

section
/-!
PROOF. The rules of FU's operations: what a move of a record changes (R52, R57).
-/

namespace Sys2Proof.Machine

/-! ### A record moved to another state (R52, R54, R57, R64) -/

variable {s : State} {r : SrcRec} {st : RecState}

/-- The fields of a record that a move to another state sets, and those it leaves. -/
theorem SrcRec.enter_sets (now : Time) (h : r.state ≠ st) :
    (r.enter st now).state = st ∧ (r.enter st now).lastChange = now ∧ (r.enter st now).holdOff = some now
      ∧ (st ≠ .asking → (r.enter st now).ask = none ∧ (r.enter st now).leave = none)
      ∧ (st = .asking ∨ st = .holding → (r.enter st now).refused = false)
      ∧ (st = .holding → (r.enter st now).seq = 0) ∧ (st ≠ .holding → (r.enter st now).seq = r.seq) := by
  cases st <;> simp [SrcRec.enter, h]

theorem SrcRec.enter_leaves (r : SrcRec) (st : RecState) (now : Time) :
    (r.enter st now).id = r.id ∧ (r.enter st now).sends = r.sends ∧ (r.enter st now).watched = r.watched
      ∧ (r.enter st now).lamps = r.lamps ∧ (r.enter st now).absent = r.absent
      ∧ (r.enter st now).absence = r.absence ∧ (r.enter st now).noted = r.noted := by
  unfold SrcRec.enter
  dsimp only
  (repeat' split) <;> exact ⟨rfl, rfl, rfl, rfl, rfl, rfl, rfl⟩

theorem State.showLamps_of_eq {u : State} (h : u.showLamps = s) : s.ii.shown = s.lampsShown := by
  rw [← h, State.showLamps_shown]

theorem State.moveRecord_shown (s : State) (r : SrcRec) (st : RecState) :
    (s.moveRecord r st).ii.shown = (s.moveRecord r st).lampsShown := State.showLamps_of_eq rfl

/-- Leaving HOLDING at the focus. -/
theorem State.moveRecord_left_focus (h : r.state = .holding) (hst : st ≠ .holding)
    (hfocus : s.cp.focusSource = some r.station) :
    (s.moveRecord r st).fu.queue = [] ∧ (s.moveRecord r st).cp.wheel = 0 ∧ (s.moveRecord r st).fu.fresh = false := by
  simp [State.moveRecord, State.leftHolding, h, hst, hfocus]

/-- Entering HOLDING at the focus. -/
theorem State.moveRecord_entered_focus (h : r.state ≠ .holding) (hfocus : s.cp.focusSource = some r.station) :
    (s.moveRecord r .holding).fu.fresh = true := by
  simp [State.moveRecord, State.enteredHolding, h, hfocus]

/-- A move elsewhere than at the focus. -/
theorem State.moveRecord_off_focus (r : SrcRec) (st : RecState) (hfocus : s.cp.focusSource ≠ some r.station) :
    (s.moveRecord r st).fu.queue = s.fu.queue ∧ (s.moveRecord r st).cp = s.cp
      ∧ (s.moveRecord r st).fu.fresh = s.fu.fresh := by
  unfold State.moveRecord State.leftHolding State.enteredHolding
  dsimp only
  (repeat' split) <;> simp_all [State.putRecord, FU.put]

theorem State.moveRecord_idCounter (s : State) (r : SrcRec) (st : RecState) :
    (s.moveRecord r st).fu.idCounter = s.fu.idCounter := by
  unfold State.moveRecord State.leftHolding State.enteredHolding
  dsimp only
  (repeat' split) <;> simp [State.putRecord, FU.put]

/-- Settles O50: what a move changes is what the record's new state sets and what leaving or entering HOLDING brings. -/
theorem recordMoves : Obligations.RecordMoves := by
  rintro s t r st - hr hne rfl
  obtain ⟨hstate, hlast, hhold, hask, hrefused, hzero, hseq⟩ := SrcRec.enter_sets s.now hne
  obtain ⟨hid, hsends, hwatched, hlamps, habsent, habsence, hnoted⟩ := SrcRec.enter_leaves r st s.now
  refine ⟨r.enter st s.now, State.moveRecord_record_same st hr, hstate, hlast, hhold, SrcRec.enter_station .., hid,
    hsends, hwatched, hlamps, habsent, habsence, hnoted, hask, hrefused, hzero, hseq,
    fun p hp => State.moveRecord_record_other s st hp, ?_, ?_, State.moveRecord_off_focus r st,
    State.moveRecord_shown .., State.moveRecord_idCounter .., ?_⟩
  · exact fun h hfocus => State.moveRecord_left_focus h (h ▸ hne.symm) hfocus
  · rintro rfl hfocus
    exact State.moveRecord_entered_focus hne hfocus
  · simp [State.sameSource]

/-! ### What leaves keep of the table (R60, R61) -/

theorem FU.put_put (f : FU) {q r : SrcRec} (h : q.station = r.station) : (f.put q).put r = f.put r := by
  simp only [FU.put, List.map_map, FU.mk.injEq, and_true, true_and, h]
  refine List.map_congr_left fun d _ => ?_
  simp only [Function.comp_apply]
  by_cases hd : d.station = r.station <;> simp [hd, h]

/-- A leave without room (R61). -/
theorem State.setPending_eq (s : State) (r : SrcRec) (k : LeaveKind) :
    ∃ j, (r.leave = some .release → j = .release) ∧ (r.leave ≠ some .release → j = k)
      ∧ s.setPending r k = s.setFU { (s.fu.put { r with leave := some j }) with
          leaveOrder := (s.setPending r k).fu.leaveOrder }
      ∧ (r.station ∈ s.fu.leaveOrder → (s.setPending r k).fu.leaveOrder = s.fu.leaveOrder)
      ∧ (r.station ∉ s.fu.leaveOrder → (s.setPending r k).fu.leaveOrder = s.fu.leaveOrder ++ [r.station]) := by
  refine ⟨if r.leave = some .release then .release else k, fun h => if_pos h, fun h => if_neg h, ?_⟩
  by_cases h : r.station ∈ s.fu.leaveOrder <;> simp [State.setPending, State.putRecord, FU.put, State.setFU, h]

theorem State.setPending_record_other (s : State) {r : SrcRec} (k : LeaveKind) {p : Nat} (h : p ≠ r.station) :
    (s.setPending r k).fu.record p = s.fu.record p := by
  obtain ⟨j, -, -, heq, -⟩ := s.setPending_eq r k
  rw [heq]
  exact (FU.record_put s.fu { r with leave := some j } p).trans (if_neg h)

theorem State.leave_record_other (s : State) {r : SrcRec} (k : LeaveKind) {p : Nat} (h : p ≠ r.station) :
    (s.leave r k).fu.record p = s.fu.record p := by
  unfold State.leave
  split
  · exact s.runLeave_record_other k h
  · exact s.setPending_record_other k h

/-- A leave that runs takes its record out of the order of leaves. -/
theorem State.runLeave_leaveOrder (s : State) (r : SrcRec) (k : LeaveKind) :
    (s.runLeave r k).fu.leaveOrder = s.fu.leaveOrder.filter fun q => q ≠ r.station := by
  have hsent : (s.leaveSent r).fu.leaveOrder = s.fu.leaveOrder.filter fun q => q ≠ r.station := by
    simp [State.leaveSent, State.sendInput, State.putRecord, FU.put]
  cases k with
  | clear => exact hsent
  | release =>
    have hmoved (u : State) (q : SrcRec) : (u.moveRecord q .idle).fu.leaveOrder
        = if q.state = .holding then u.fu.leaveOrder.filter fun p => p ≠ q.station else u.fu.leaveOrder := by
      unfold State.moveRecord State.leftHolding
      dsimp only
      (repeat' split) <;> simp_all [State.putRecord, FU.put]
    rw [State.runLeave_release, hmoved]
    split
    · simp only [State.sendRelease_frame, hsent, List.filter_filter, SrcRec.left]
      exact List.filter_congr fun q _ => Bool.and_self _
    · rw [(State.sendRelease_frame ..).2.2.2.2.2.2.2.2.2.2.1, hsent]

/-- A leave that runs leaves nothing of its record pending. -/
theorem State.runLeave_record_same {r q : SrcRec} (k : LeaveKind) (h : s.fu.record r.station = some q) :
    ∃ d, (s.runLeave r k).fu.record r.station = some d ∧ d.leave = none := by
  have hsent : (s.leaveSent r).fu.record r.station = some r.left := by simp [State.leaveSent_record, h]
  cases k with
  | clear => exact ⟨_, hsent, rfl⟩
  | release =>
    have hmoved := State.moveRecord_record_same (s := (s.leaveSent r).sendRelease r.left) (r := r.left) .idle
      ((congrArg (FU.record · r.station) (State.sendRelease_frame ..).2.2.2.2.2.2.2.2.2.2.1).trans hsent)
    exact ⟨_, hmoved, by simp [SrcRec.enter]⟩

/-- The pending leaves pass over a station that has none. -/
theorem State.runLeaves_filter {p : Nat} {q : SrcRec} (hleave : q.leave = none) (l : List Nat) :
    ∀ {s : State}, s.fu.record p = some q →
      State.runLeaves (l.filter fun d => d ≠ p) s = State.runLeaves l s := by
  induction l with
  | nil => exact fun _ => rfl
  | cons d l ih =>
    intro s h
    by_cases hd : d = p
    · subst hd
      rw [List.filter_cons_of_neg (by simp), ih h, State.runLeaves]
      split
      · simp [h, hleave]
      · rename_i hfull
        cases l with
        | nil => rfl
        | cons e l => rw [State.runLeaves, if_neg hfull]
    · rw [List.filter_cons_of_pos (by simpa using hd), State.runLeaves, State.runLeaves]
      split
      · split
        · exact ih h
        · rename_i e he
          split
          · exact ih h
          · rename_i k _
            obtain rfl := FU.station_of_record he
            exact ih ((s.runLeave_record_other k (Ne.symm hd)).trans h)
      · rfl

/-! ### Requests and releases (R54, R60) -/

theorem State.requestSource_of_record {p : Nat} (h : s.fu.record p = some r) :
    (r.state = .idle ∨ r.state = .queued → s.requestSource p
      = ((s.setFU { s.fu with idCounter := s.fu.idCounter + 1 }).hand0
          (.controlRequest p (s.fu.idCounter + 1) r.watched)).moveRecord
            { r with id := s.fu.idCounter + 1, sends := 1, ask := some s.now } .asking)
    ∧ (r.state = .asking ∨ r.state = .holding → s.requestSource p = s) := by
  unfold State.requestSource
  constructor <;> rintro (hst | hst) <;> simp [h, hst]

theorem State.releaseSource_of_record {p : Nat} (h : s.fu.record p = some r) :
    (r.state = .idle → s.releaseSource p = s)
    ∧ (r.state = .asking ∨ r.state = .queued →
      s.releaseSource p = (s.hand0 (.controlRelease p r.id)).moveRecord r .idle)
    ∧ (r.state = .holding → s.releaseSource p = s.leave r .release) := by
  obtain rfl := FU.station_of_record h
  unfold State.releaseSource
  refine ⟨fun hst => ?_, ?_, fun hst => ?_⟩
  · simp only [h, hst]
  · rintro (hst | hst) <;> simp only [h, hst, State.sendRelease]
  · simp only [h, hst]

/-! ### Leaves (R60, R61) -/

theorem State.roomInClass1_of_full (hup : s.fp.linkUp = true) (hfull : 4 ≤ s.fp.class1.length) :
    s.roomInClass1 = false := by
  rw [← Bool.not_eq_true, State.roomInClass1_iff]
  rintro (h | h)
  · exact absurd (h.symm.trans hup) Bool.false_ne_true
  · omega

theorem State.leave_of_room (r : SrcRec) (k : LeaveKind) (hroom : s.roomInClass1 = true) :
    s.leave r k = s.runLeave r k := if_pos hroom

theorem State.leave_of_full (r : SrcRec) (k : LeaveKind) (hroom : s.roomInClass1 = false) :
    s.leave r k = s.setPending r k := if_neg (ne_true_of_eq_false hroom)

/-- A leave's all-released INPUT handed on: class 1, the record, the interval and the order of leaves. -/
theorem State.leaveSent_eq (s : State) (r : SrcRec) :
    s.leaveSent r = { s with fp := (s.leaveSent r).fp, fu := (s.leaveSent r).fu }
      ∧ (s.fp.linkUp = false → (s.leaveSent r).fp = s.fp)
      ∧ (s.fp.linkUp = true → (s.leaveSent r).fp = { s.fp with
          class1 := s.fp.class1 ++ [⟨r.station, r.id, r.seq, .released, 0, none, 0⟩] })
      ∧ (s.leaveSent r).fu = { (s.fu.put r.left) with
          interval := some s.now, leaveOrder := s.fu.leaveOrder.filter fun p => p ≠ r.station } := by
  have hput (f : FU) (d : SrcRec) (hd : d.station = r.left.station) (t : Timer) (l : List Nat) :
      FU.put { FU.put { f with interval := t } d with leaveOrder := l } r.left
        = { f.put r.left with interval := t, leaveOrder := l } := by
    have h := congrArg FU.records (FU.put_put f (q := d) (r := r.left) hd)
    exact congrArg (fun x => { f with records := x, interval := t, leaveOrder := l }) h
  unfold State.leaveSent State.sendInput State.hand1
  cases s.fp.linkUp with
  | false =>
    exact ⟨rfl, fun _ => rfl, fun h => absurd h Bool.false_ne_true,
      hput s.fu { r with seq := r.seq + 1, noted := ⟨.released, 0, none⟩ } rfl _ _⟩
  | true =>
    exact ⟨rfl, fun h => absurd h.symm Bool.false_ne_true, fun _ => rfl,
      hput s.fu { r with seq := r.seq + 1, noted := ⟨.released, 0, none⟩ } rfl _ _⟩

/-- The first pending leave runs, and the judgement goes on from there. -/
theorem State.judgeInput_of_pending {p : Nat} {l : List Nat} {k : LeaveKind} (horder : s.fu.leaveOrder = p :: l)
    (hr : s.fu.record p = some r) (hk : r.leave = some k) (hroom : s.roomInClass1 = true) :
    s.judgeInput = (s.runLeave r k).judgeInput := by
  obtain rfl := FU.station_of_record hr
  obtain ⟨d, hd, hnone⟩ := State.runLeave_record_same k hr
  have hleaves : State.runLeaves s.fu.leaveOrder s
      = State.runLeaves (s.runLeave r k).fu.leaveOrder (s.runLeave r k) := by
    rw [State.runLeave_leaveOrder, horder, List.filter_cons_of_neg (by simp), State.runLeaves_filter hnone _ hd]
    simp [State.runLeaves, hroom, hr, hk]
  unfold State.judgeInput
  rw [hleaves]

/-! ### Focus changes (R51, R62) -/

/-- What no operation of FU changes of it: the values that the image gives. -/
def FU.settings (f : FU) : FU :=
  { f with records := [], leaveOrder := [], queue := [], fresh := false, interval := none, idCounter := 0 }

theorem State.putRecord_settings (s : State) (r : SrcRec) : (s.putRecord r).fu.settings = s.fu.settings := rfl

theorem State.sendInput_settings (s : State) (r : SrcRec) (k : Snapshot) (b : Buttons) (f : Option PtrField) (w : Int) :
    (s.sendInput r k b f w).fu.settings = s.fu.settings := by
  unfold State.sendInput State.hand1; dsimp only; split <;> rfl

theorem State.leftHolding_settings (s : State) (p : Nat) : (s.leftHolding p).fu.settings = s.fu.settings := by
  unfold State.leftHolding; dsimp only; split <;> rfl

theorem State.enteredHolding_settings (s : State) (p : Nat) : (s.enteredHolding p).fu.settings = s.fu.settings := by
  unfold State.enteredHolding; split <;> rfl

theorem State.moveRecord_settings (s : State) (r : SrcRec) (st : RecState) :
    (s.moveRecord r st).fu.settings = s.fu.settings := by
  unfold State.moveRecord
  dsimp only
  (repeat' split) <;>
    simp [State.leftHolding_settings, State.enteredHolding_settings, State.putRecord_settings]

theorem State.leave_settings (s : State) (r : SrcRec) (k : LeaveKind) : (s.leave r k).fu.settings = s.fu.settings := by
  unfold State.leave
  split
  · have hsent : (s.leaveSent r).fu.settings = s.fu.settings := s.sendInput_settings r .released 0 none 0
    cases k with
    | clear => exact hsent
    | release =>
      rw [State.runLeave_release, State.moveRecord_settings, (State.sendRelease_frame ..).2.2.2.2.2.2.2.2.2.2.1, hsent]
  · obtain ⟨j, -, -, heq, -⟩ := s.setPending_eq r k
    rw [heq]
    rfl

/-- Step 1 of a focus change, by P's record (R62). -/
theorem State.leaveFocus_eq {a : State} {P : Option Nat}
    (hheld : ∀ p r, P = some p → s.fu.record p = some r → r.state = .holding → a = s.leave r s.fu.onLeave)
    (hnot : (∀ p r, P = some p → s.fu.record p = some r → r.state ≠ .holding) → a = s) : s.leaveFocus P = a := by
  unfold State.leaveFocus
  cases P with
  | none => exact (hnot fun _ _ h => nomatch h).symm
  | some p =>
    dsimp only
    cases hr : s.fu.record p with
    | none => exact (hnot fun q d hq hd => by cases hq; simp [hr] at hd).symm
    | some r =>
      by_cases hst : r.state = .holding
      · exact (if_pos hst).trans (hheld p r rfl hr hst).symm
      · refine (if_neg hst).trans (hnot fun q d hq hd => ?_).symm
        cases hq
        rw [hr, Option.some.injEq] at hd
        exact hd ▸ hst

theorem State.leaveFocus_settings (s : State) (P : Option Nat) : (s.leaveFocus P).fu.settings = s.fu.settings := by
  unfold State.leaveFocus
  (repeat' split) <;> simp [State.leave_settings]

theorem State.leaveFocus_record_other (s : State) {P : Option Nat} {q : Nat} (h : P ≠ some q) :
    (s.leaveFocus P).fu.record q = s.fu.record q := by
  unfold State.leaveFocus
  split
  · rfl
  · split
    · rfl
    · rename_i r hr
      split
      · obtain rfl := FU.station_of_record hr
        exact s.leave_record_other _ fun he => h (congrArg some he.symm)
      · rfl

/-- A focus change, step by step: P's record is left, the queue and the wheel sum are emptied, the fresh flag is set as
the new focus record asks, and the auto-request is made. -/
theorem State.focusChange_eq {a : State} {P : Option Nat} (hP : P ≠ s.cp.focusSource) (ha : s.leaveFocus P = a) :
    s.focusChange P s.cp.focusSource
      = (((a.setFU { a.fu with queue := [], fresh := s.focusHolding }).setCP { s.cp with wheel := 0 }).autoRequest
          s.cp.focusSource).showLamps := by
  have hcp : { a.cp with wheel := 0 } = { s.cp with wheel := 0 } := by
    rw [← ha]
    exact (State.leaveFocus_pointer_keys _ P).1
  have hholding : ((a.setFU { a.fu with queue := [] }).setCP { a.cp with wheel := 0 }).focusHolding
      = s.focusHolding := by
    have hrecord : ((a.setFU { a.fu with queue := [] }).setCP { a.cp with wheel := 0 }).focusRecord
        = s.focusRecord := by
      rw [hcp]
      show (match s.cp.focusSource with | none => none | some q => a.fu.record q) = _
      unfold State.focusRecord
      cases hq : s.cp.focusSource with
      | none => rfl
      | some q =>
        rw [hq] at hP
        exact ha ▸ s.leaveFocus_record_other hP
    rw [State.focusHolding, hrecord]
    rfl
  unfold State.focusChange
  rw [ha]
  dsimp only
  rw [hholding, hcp]
  rfl

theorem State.focusHolding_iff (s : State) : s.focusHolding = true ↔ ∃ r, s.focusRecord = some r
    ∧ r.state = .holding := by
  unfold State.focusHolding
  cases s.focusRecord <;> simp

/-- Step 4 of a focus change (R51, R65): an IDLE record that is not absent is asked for. -/
theorem State.autoRequest_of_idle {q : Nat} (h : s.fu.record q = some r) (hst : r.state = .idle)
    (hauto : s.fu.autoRequest = true) (habsent : r.absent = false) : s.autoRequest (some q) = s.requestSource q := by
  simp [State.autoRequest, h, hst, hauto, habsent]

theorem State.autoRequest_of_quiet {q : Option Nat}
    (h : ∀ p r, q = some p → s.fu.record p = some r → r.state ≠ .idle ∨ s.fu.autoRequest = false ∨ r.absent = true) :
    s.autoRequest q = s := by
  unfold State.autoRequest
  split
  · rfl
  · split
    · rfl
    · rename_i p _ r hr
      refine if_neg fun hall => ?_
      obtain ⟨⟨hst, hauto⟩, habsent⟩ := by
        simpa only [Bool.and_eq_true, decide_eq_true_eq, Bool.not_eq_true'] using hall
      obtain h | h | h := h p r rfl hr
      · exact h hst
      · exact absurd (h.symm.trans hauto) Bool.false_ne_true
      · exact absurd (habsent.symm.trans h) Bool.false_ne_true

/-- Settles O53: requests, releases and leaves by the record's state and the room in class 1, pending leaves one after
another, and a focus change step by step. -/
theorem focusChange : Obligations.FocusChange := by
  refine ⟨fun s p r hr => ?_, fun s r k => ⟨fun hroom => ?_, fun hup hfull => ?_⟩, fun s hup hfull => ?_,
    fun s p l r k horder hr hk hroom => ?_, fun s a b P hP hheld hnot hb => ?_⟩
  · obtain ⟨hask, hstay⟩ := State.requestSource_of_record hr
    exact ⟨hask, hstay, State.releaseSource_of_record hr⟩
  · obtain ⟨heq, hdown, hup, hfu⟩ := s.leaveSent_eq r
    rw [State.leave_of_room r k (s.roomInClass1_iff.2 hroom)]
    refine ⟨s.leaveSent r, heq, hdown, hup, hfu, ?_, ?_⟩
    · rintro rfl
      exact s.runLeave_clear r
    · rintro rfl
      exact s.runLeave_release r
  · have hroom : s.roomInClass1 = false := State.roomInClass1_of_full hup hfull
    obtain ⟨j, hrelease, helse, heq, hin, hout⟩ := s.setPending_eq r k
    exact ⟨j, _, State.leave_of_full r k hroom, hrelease, helse, heq, hin, hout⟩
  · exact State.judgeInput_of_full (State.roomInClass1_of_full hup hfull)
  · have hroom := s.roomInClass1_iff.2 hroom
    rw [State.leave_of_room r k hroom]
    exact State.judgeInput_of_pending horder hr hk hroom
  · have ha := State.leaveFocus_eq hheld hnot
    have hchange := State.focusChange_eq hP ha
    rw [← hb] at hchange
    have hsettings : b.fu.autoRequest = s.fu.autoRequest := by
      rw [hb, ← ha]
      exact (congrArg FU.autoRequest (s.leaveFocus_settings P) :)
    have hrecord {q : Nat} (hq : s.cp.focusSource = some q) : b.fu.record q = s.fu.record q := by
      rw [hb, ← ha]
      exact s.leaveFocus_record_other (hq ▸ hP)
    refine ⟨fun r hr hst hauto habsent => ?_, fun hquiet => ?_, s.focusHolding_iff, rfl, rfl⟩
    · obtain ⟨hsource, hr⟩ := State.focusRecord_eq_some hr
      have hbr := (hrecord hsource).trans hr
      rw [hchange, hsource, State.autoRequest_of_idle hbr hst (hsettings.trans hauto) habsent]
    · rw [hchange, State.autoRequest_of_quiet fun p r hp hr => ?_]
      rw [hsettings]
      exact hquiet r (by rw [State.focusRecord, hp]; exact (hrecord hp).symm.trans hr)

end Sys2Proof.Machine
end

section
/-!
PROOF. The timers of a record and of a stream context, and a PRESENCE heard by SR (R55, R59, R64, R65, R143, R147,
R149).
-/

namespace Sys2Proof.Machine

variable {s : State}

/-! ### Streams judged after a change (R33, R148) -/

/-- What FU's judgement and the notice of changed streams leave and bring, beside the contexts. -/
theorem State.judged_streamsChanged (s : State) :
    s.streamsChanged.judgeInput.sr = s.sr
      ∧ s.streamsChanged.judgeInput.cp.field = s.streamsChanged.judgeInput.mapPointer
      ∧ s.sameSource s.streamsChanged.judgeInput := by
  refine ⟨by simp, ?_, by simp [State.sameSource]⟩
  obtain ⟨-, -, -, hmap, -⟩ := State.judgeInput_focusFrom_pointer s.streamsChanged _ s.streamsChanged_field
  rwa [State.focusFrom_of_eq rfl] at hmap

theorem CondSet.has_of_latched {a b : CondSet} {c : Cond} (h : a &&& ~~~b = 0) (ha : a.has c = true) :
    b.has c = true := by
  have hbit := congrArg (fun v : CondSet => v.getLsbD c.index) h
  have hindex : c.index < 16 := by cases c <;> decide
  simp only [CondSet.has] at ha ⊢
  have hzero : (0 : CondSet).getLsbD c.index = false := BitVec.getLsbD_zero
  simpa [hindex, ha, hzero] using hbit

/-- STREAM-LOST raised stands and stays latched once FU has judged, with a context LOST. -/
theorem State.judged_streamLost {c : Ctx} (hc : c ∈ s.sr.ctxs) (hlost : c.state = .lost) :
    (s.raise .streamLost).streamsChanged.judgeInput.sa.current.has .streamLost = true
      ∧ (s.raise .streamLost).streamsChanged.judgeInput.sa.latched.has .streamLost = true := by
  obtain ⟨-, -, -, hkept⟩ := State.judgeInput_ordinary (State.Ordinary.refl True (s.raise .streamLost).streamsChanged)
  have hlatched : (s.raise .streamLost).streamsChanged.sa.latched = (s.raise .streamLost).sa.latched := by
    simp [State.streamsChanged, State.recomputeLost, State.setCurrent, SA.setCurrent]
  have hraised : (s.raise .streamLost).streamsChanged.sa.latched.has .streamLost = true :=
    hlatched ▸ (s.sa.raise_has .streamLost).2
  refine ⟨?_, CondSet.has_of_latched (hkept trivial) hraised⟩
  simp only [State.judgeInput_current, State.streamsChanged_streamLost, State.streamsChanged_frame]
  exact ⟨c, hc, hlost⟩

/-! ### The timers of a stream context (R143, R147) -/

/-- A context once its stale timer has run (R147). -/
def Ctx.staled (c : Ctx) : Ctx := { c with stale := none, state := if c.state = .live then .stale else c.state }

/-- A context once its lost timer has run (R147). -/
def Ctx.gone (c : Ctx) : Ctx := { c with lost := none, state := .lost }

/-- The state with a context LOST and its region black (R147). -/
def State.blacked (s : State) (c : Ctx) : State := (s.putCtx c.gone).setSR ((s.putCtx c.gone).sr.clear c.region)

theorem Ctx.staled_of_live {c : Ctx} (h : c.state = .live) : c.staled = { c with stale := none, state := .stale } := by
  simp [Ctx.staled, h]

theorem Ctx.staled_of_ne {c : Ctx} (h : c.state ≠ .live) : c.staled = { c with stale := none } := by
  simp [Ctx.staled, h]

section Ctx
variable {x : Stream} {c : Ctx}

theorem exec_staleTimerExpiry (hc : s.sr.ctx x = some c) (h : ranFor s.now c.stale 1000000) :
    exec (.staleTimerExpiry x) s = .next (s.putCtx c.staled).streamsChanged.judgeInput := by
  simp only [exec, execStaleTimerExpiry, hc]
  exact if_pos ((timerDue_iff ..).2 h)

theorem exec_lostTimerExpiry (hc : s.sr.ctx x = some c) (h : ranFor s.now c.lost 5000000) (hst : c.state = .stale) :
    exec (.lostTimerExpiry x) s = .next ((s.blacked c).raise .streamLost).streamsChanged.judgeInput := by
  have hdue : timerDue s.now c.lost Config.lostUs = true := (timerDue_iff ..).2 h
  simp only [exec, execLostTimerExpiry, hc]
  exact if_pos (by rw [hdue, hst]; rfl)

theorem exec_lostTimerExpiry_of_ne (hc : s.sr.ctx x = some c) (hst : c.state ≠ .stale) :
    exec (.lostTimerExpiry x) s = .next s := by
  simp [exec, execLostTimerExpiry, hc, hst]

theorem exec_repairTimerExpiry (hc : s.sr.ctx x = some c) (h : ranFor s.now c.repair 500000) :
    exec (.repairTimerExpiry x) s
      = .next (if c.owed = true then s.requestRepair c else s.putCtx { c with repair := none }) := by
  have hdue : timerDue s.now c.repair Config.repairUs = true := (timerDue_iff ..).2 h
  simp only [exec, execRepairTimerExpiry, hc, hdue, if_true]
  split <;> rfl

end Ctx

/-! ### The timers of a record (R55, R59, R64, R65) -/

section Record
variable {p : Nat} {r : SrcRec}

theorem exec_askTimerExpiry (hr : s.fu.record p = some r) (h : ranFor s.now r.ask 200000) :
    exec (.askTimerExpiry p) s
      = .next (if r.sends < 3 then (s.hand0 (.controlRequest p r.id r.watched)).putRecord
          { r with sends := r.sends + 1, ask := some s.now } else (s.moveRecord r .idle).latch .sourceSilent) := by
  have hdue : timerDue s.now r.ask Config.askUs = true := (timerDue_iff ..).2 h
  simp only [exec, execAskTimerExpiry, hr, hdue, if_true]
  split <;> rfl

theorem exec_refusedTimerExpiry (hr : s.fu.record p = some r) (h : ranFor s.now r.refusedTimer 2000000) :
    exec (.refusedTimerExpiry p) s = .next (s.putRecord { r with refused := false, refusedTimer := none }) := by
  simp only [exec, execRefusedTimerExpiry, hr]
  exact if_pos ((timerDue_iff ..).2 h)

theorem exec_absenceTimerExpiry (hr : s.fu.record p = some r) (h : ranFor s.now r.absence 1000000) :
    exec (.absenceTimerExpiry p) s
      = .next (s.moveRecord { r with absent := true, absence := none } .idle).judgeInput := by
  simp only [exec, execAbsenceTimerExpiry, hr]
  exact if_pos ((timerDue_iff ..).2 h)

theorem exec_holdOffTimerExpiry (hr : s.fu.record p = some r) (h : ranFor s.now r.holdOff 100000) :
    exec (.holdOffTimerExpiry p) s = .next (s.putRecord { r with holdOff := none }) := by
  simp only [exec, execHoldOffTimerExpiry, hr]
  exact if_pos ((timerDue_iff ..).2 h)

end Record

/-! ### A PRESENCE heard by SR (R149) -/

/-- Each context is as the PRESENCE of its own source leaves it. -/
theorem State.hearSource_ctx (s : State) (m : RxMsg) (x : Stream) :
    (s.hearSource m).sr.ctx x = (s.sr.ctx x).map fun c => c.heard m.sender m.payload := by
  have hstream (c : Ctx) : decide ((c.heard m.sender m.payload).stream = x) = decide (c.stream = x) := by
    unfold Ctx.heard
    split <;> rfl
  simp only [State.hearSource, State.streamsChanged_frame, State.setSR_sr, SR.ctx, List.find?_map, Function.comp_def,
    hstream]

theorem exec_presenceTakenBySr {u : State} {m : RxMsg} (hs : s.servingAs .desk = true)
    (ht : s.take .sr .presence = some (m, u)) :
    exec .presenceTakenBySr s = .next (u.hearSource m).judgeInput := by
  simp only [exec, execPresenceTakenBySr, hs, ht, if_true]

/-- Settles O55: each timer of a record and of a context at its own time, and a PRESENCE heard by SR. -/
theorem deskTimersExpire : Obligations.DeskTimersExpire := by
  have hran {now : Time} {t : Timer} {u : Time} {us : Nat} (ht : t = some u) (h : us ≤ (now - u).toNat) :
      ranFor now t us := ⟨u, ht, h⟩
  refine ⟨fun s p r u hr => ⟨fun ht h hlt => ?_, fun ht h hge => ?_, fun ht h => exec_refusedTimerExpiry hr (hran ht h),
    fun ht h => exec_absenceTimerExpiry hr (hran ht h), fun ht h => exec_holdOffTimerExpiry hr (hran ht h)⟩,
    fun s x c u hc => ⟨fun ht h => ?_, fun ht h hst => ?_, exec_lostTimerExpiry_of_ne hc, fun ht h howed => ?_,
      fun ht h howed => ?_⟩, fun s u m hs ht => ?_⟩
  · rw [exec_askTimerExpiry hr (hran ht h), if_pos hlt]
  · rw [exec_askTimerExpiry hr (hran ht h), if_neg (by omega)]
  · obtain ⟨hsr, hfield, hsame⟩ := (s.putCtx c.staled).judged_streamsChanged
    have hx : c.staled.stream = x := (SR.stream_of_ctx hc :)
    refine ⟨_, c.staled, exec_staleTimerExpiry hc (hran ht h), ?_, Ctx.staled_of_live, Ctx.staled_of_ne, ?_, ?_, ?_,
      hfield, hsame⟩
    · exact (congrArg (SR.ctx · x) hsr).trans (SR.ctx_put_same hc hx)
    · exact fun y hy => (congrArg (SR.ctx · y) hsr).trans (SR.ctx_put_other hx hy)
    · exact (congrArg SR.store hsr).trans rfl
    · exact (congrArg SR.places hsr).trans rfl
  · have hx : c.gone.stream = x := (SR.stream_of_ctx hc :)
    have hput := SR.ctx_put_same hc hx
    obtain ⟨hcurrent, hlatched⟩ := State.judged_streamLost (s := s.blacked c) (List.mem_of_find?_eq_some hput) rfl
    obtain ⟨hsr, -, hsame⟩ := ((s.blacked c).raise .streamLost).judged_streamsChanged
    refine ⟨_, exec_lostTimerExpiry hc (hran ht h) hst, ?_, ?_, ?_, ?_, hcurrent, hlatched, hsame⟩
    · exact (congrArg (SR.ctx · x) hsr).trans hput
    · exact fun y hy => (congrArg (SR.ctx · y) hsr).trans (SR.ctx_put_other hx hy)
    · exact (congrArg SR.store hsr).trans rfl
    · exact (congrArg SR.places hsr).trans rfl
  · rw [exec_repairTimerExpiry hc (hran ht h), if_pos howed]
    rfl
  · rw [exec_repairTimerExpiry hc (hran ht h), if_neg (ne_true_of_eq_false howed)]
  · obtain ⟨rfl, -⟩ := State.take_eq ht
    have hctx (x : Stream) (c : Ctx) (hc : s.sr.ctx x = some c) :
        ((s.setFP { s.fp with rx := afterTaking .sr s.fp.rx }).hearSource m).judgeInput.sr.ctx x
          = some (c.heard m.sender m.payload) := by
      simp only [State.judgeInput_frame, State.hearSource_ctx, State.setFP_sr, hc, Option.map_some]
    refine ⟨_, exec_presenceTakenBySr hs ht, by simp [State.hearSource], by simp [State.hearSource],
      fun x c hc => ⟨fun hp hst hch => ?_, fun hnot => ?_⟩, by simp [State.hearSource, State.sameSource]⟩
    all_goals
      have hx : c.stream = x := SR.stream_of_ctx hc
      rw [hctx x c hc, Ctx.heard, hx]
    · rw [if_pos (by simp [hp, hst, hch])]
    · rw [if_neg]
      simp only [Bool.and_eq_true, decide_eq_true_eq, not_and_or, and_assoc, ne_eq, not_not]
      exact hnot

end Sys2Proof.Machine
end

section
/-!
PROOF. The pointer's move, one axis after the other: a motion inside the head, a crossing, a push that builds up and a
closed edge, each once for either axis and either end of it (R21 to R26, R28).
-/

namespace Sys2Proof.Machine

/-! ### Gain and carry (R21, R22) -/

theorem Gains.choose_eq (g : Gains) (m : Nat) (h12 : g.t1 < g.t2) (h23 : g.t2 < g.t3) :
    (m ≤ g.t1 → g.choose m = g.g0) ∧ (g.t1 < m → m ≤ g.t2 → g.choose m = g.g1)
      ∧ (g.t2 < m → m ≤ g.t3 → g.choose m = g.g2) ∧ (g.t3 < m → g.choose m = g.g3) := by
  unfold Gains.choose
  refine ⟨fun h => if_pos h, fun h1 h2 => ?_, fun h2 h3 => ?_, fun h3 => ?_⟩
  · rw [if_neg (by omega), if_pos h2]
  · rw [if_neg (by omega), if_neg (by omega), if_pos h3]
  · rw [if_neg (by omega), if_neg (by omega), if_neg (by omega)]

/-- Truncation toward zero leaves a carry of the sum's sign, within 15 (R22). -/
theorem carryLeft_bounds (v : Int) :
    -15 ≤ carryLeft v ∧ carryLeft v ≤ 15 ∧ (0 ≤ v → 0 ≤ carryLeft v ∧ 0 ≤ wholePixels v)
      ∧ (v ≤ 0 → carryLeft v ≤ 0 ∧ wholePixels v ≤ 0) := by
  unfold carryLeft wholePixels
  obtain h | h := Int.le_total 0 v
  · rw [Int.tdiv_eq_ediv_of_nonneg h]
    omega
  · have hneg : v.tdiv 16 = -((-v) / 16) := by
      rw [← Int.tdiv_eq_ediv_of_nonneg (by omega), Int.neg_tdiv, Int.neg_neg]
    rw [hneg]
    omega

/-! ### One axis -/

section Axis
variable {k : CP} {h b : Fin 4} {a : Axis} {whole n : Int} {high : Bool}

/-- The end of a head on an axis. -/
def HeadRec.end (r : HeadRec) (a : Axis) (high : Bool) : Nat := if high then r.last a else r.first a

/-- The pointer within the head on an axis. -/
def CP.onHead (k : CP) (h : Fin 4) (a : Axis) : Prop :=
  (k.heads.get h).first a ≤ k.coord a ∧ k.coord a ≤ (k.heads.get h).last a

/-- The state a motion inside the head leaves: the coordinate, and no push left against an edge of the axis (R24). -/
def CP.slid (k : CP) (a : Axis) (v : Nat) : CP :=
  (k.setCoord a v).setPush (if k.edge = some (a.edge false) ∨ k.edge = some (a.edge true) then 0 else k.push)
    (if k.edge = some (a.edge false) ∨ k.edge = some (a.edge true) then none else k.edge)

theorem CP.moveAxis_rest (k : CP) (h : Fin 4) (a : Axis) : k.moveAxis h a 0 = (k, false) := rfl

/-- A motion inside the head (R24). -/
theorem CP.moveAxis_inside (hne : whole ≠ 0) (hlo : ((k.heads.get h).first a : Int) ≤ k.coord a + whole)
    (hhi : (k.coord a : Int) + whole ≤ (k.heads.get h).last a) :
    k.moveAxis h a whole = (k.slid a (k.coord a + whole).toNat, false) := by
  have hset : (k.setCoord a (k.coord a + whole).toNat).setPush k.push k.edge
      = k.setCoord a (k.coord a + whole).toNat := by cases a <;> rfl
  simp only [CP.moveAxis, if_neg hne, if_neg (Int.not_lt.2 hhi), if_neg (Int.not_lt.2 hlo)]
  cases he : k.edge with
  | none =>
    simp only [CP.slid, he, reduceCtorEq, or_self, if_false]
    rw [← hset, he]
    rfl
  | some e =>
    simp only [CP.slid, he, Option.some.injEq, Axis.owns, Bool.or_eq_true, decide_eq_true_eq]
    by_cases howns : e = a.edge false ∨ e = a.edge true
    · rw [if_pos howns.symm, if_pos howns, if_pos howns]
    · rw [if_neg fun h => howns h.symm, if_neg howns, if_neg howns, ← hset, he]
      rfl

/-- A motion beyond an end of the head, by the excess `n` (R25). -/
theorem CP.moveAxis_beyond (hin : k.onHead h a) (hn : 0 < n)
    (hv : n = if high then k.coord a + whole - (k.heads.get h).last a
      else (k.heads.get h).first a - (k.coord a + whole)) :
    k.moveAxis h a whole = k.pushAgainst h a high n.toNat := by
  obtain ⟨hlo, hhi⟩ := hin
  cases high with
  | true =>
    simp only [if_true] at hv
    rw [CP.moveAxis, if_neg (by omega), if_pos (by omega), hv]
  | false =>
    simp only [Bool.false_eq_true, if_false] at hv
    rw [CP.moveAxis, if_neg (by omega), if_neg (by omega), if_pos (by omega), hv]

theorem CP.openTo_of_closed {e : Edge} {v : Nat}
    (hclosed : k.confine = true ∨ k.buttons ≠ 0 ∨ k.neighbour h e v = none) : k.openTo h e v = none := by
  unfold CP.openTo
  split
  · rfl
  · rename_i hopen
    simpa [not_or, or_assoc, hopen] using hclosed.resolve_left (by simp_all) |>.resolve_left (by simp_all)

theorem CP.openTo_of_open {e : Edge} {v : Nat} (hc : k.confine = false) (hb : k.buttons = 0) :
    k.openTo h e v = k.neighbour h e v := by
  simp [CP.openTo, hc, hb]

/-- A closed edge holds the pointer and clears the push (R25, R28). -/
theorem CP.pushAgainst_closed (m : Nat)
    (hclosed : k.confine = true ∨ k.buttons ≠ 0 ∨ k.neighbour h (a.edge high) (k.other a) = none) :
    k.pushAgainst h a high m = ((k.setCoord a ((k.heads.get h).end a high)).setPush 0 none, false) := by
  simp only [CP.pushAgainst, CP.openTo_of_closed hclosed, HeadRec.end]

/-- A push above R_e crosses (R26). -/
theorem CP.pushAgainst_crosses (hc : k.confine = false) (hb : k.buttons = 0) (hn : 0 < n)
    (hopen : k.neighbour h (a.edge high) (k.other a) = some b)
    (hpush : (k.resist : Int) < (if k.edge = some (a.edge high) then (k.push : Int) else 0) + n) :
    k.pushAgainst h a high n.toNat = (k.cross b a high, true) := by
  have hover : k.resist < (if k.edge = some (a.edge high) then k.push else 0) + n.toNat := by
    split at hpush <;> rename_i he <;> simp only [he, if_true, if_false] <;> omega
  simp only [CP.pushAgainst, CP.openTo_of_open hc hb, hopen, if_pos hover]

/-- A push of at most R_e builds up at the edge (R25). -/
theorem CP.pushAgainst_builds (hc : k.confine = false) (hb : k.buttons = 0) (hn : 0 < n)
    (hopen : (k.neighbour h (a.edge high) (k.other a)).isSome = true)
    (hpush : (if k.edge = some (a.edge high) then (k.push : Int) else 0) + n ≤ k.resist) :
    k.pushAgainst h a high n.toNat = ((k.setCoord a ((k.heads.get h).end a high)).setPush
      ((if k.edge = some (a.edge high) then k.push else 0) + n.toNat) (some (a.edge high)), false) := by
  have hwithin : ¬ k.resist < (if k.edge = some (a.edge high) then k.push else 0) + n.toNat := by
    split at hpush <;> rename_i he <;> simp only [he, if_true, if_false] <;> omega
  obtain ⟨b, hopen⟩ := Option.isSome_iff_exists.1 hopen
  simp only [CP.pushAgainst, CP.openTo_of_open hc hb, hopen, if_neg hwithin, HeadRec.end]

end Axis

/-! ### The move (R23) -/

section Move
variable {c k d : CP} {h b : Fin 4} {dx dy sx sy wx wy : Int} {r : HeadRec}

/-- A move is the motion in x on the carried state, and the motion in y unless x crossed. -/
theorem CP.move_of_x_stays (hk : k = c.carried dx dy)
    (hwx : wx = wholePixels (dx * c.gains.choose (max dx.natAbs dy.natAbs) + c.carryX))
    (hwy : wy = wholePixels (dy * c.gains.choose (max dx.natAbs dy.natAbs) + c.carryY))
    (hx : k.moveAxis h .x wx = (d, false)) : c.move h dx dy = (d.moveAxis h .y wy).1 := by
  subst hk hwx hwy
  simp only [CP.move_eq, hx]
  rfl

theorem CP.move_of_x_crosses (hk : k = c.carried dx dy)
    (hwx : wx = wholePixels (dx * c.gains.choose (max dx.natAbs dy.natAbs) + c.carryX))
    (hx : k.moveAxis h .x wx = (d, true)) : c.move h dx dy = d := by
  subst hk hwx
  simp only [CP.move_eq, hx]
  rfl

/-- What an axis at rest or a motion inside the head leaves. -/
def CP.settled (k : CP) (a : Axis) (whole : Int) : CP :=
  if whole = 0 then k else k.slid a (k.coord a + whole).toNat

theorem CP.moveAxis_settled {a : Axis} {whole : Int} (hlo : ((k.heads.get h).first a : Int) ≤ k.coord a + whole)
    (hhi : (k.coord a : Int) + whole ≤ (k.heads.get h).last a) :
    k.moveAxis h a whole = (k.settled a whole, false) := by
  unfold CP.settled
  split
  · rename_i hzero
    rw [hzero, CP.moveAxis_rest]
  · rename_i hne
    exact CP.moveAxis_inside hne hlo hhi

/-- The edges of an axis, as a push is stored against them. -/
def CP.pushedOn (k : CP) (a : Axis) : Prop := k.edge = some (a.edge false) ∨ k.edge = some (a.edge true)

theorem CP.settled_eq (k : CP) (a : Axis) (whole : Int) (h : 0 ≤ k.coord a + whole) :
    ((k.settled a whole).coord a : Int) = k.coord a + whole ∧ (k.settled a whole).other a = k.other a
      ∧ (k.settled a whole).carryX = k.carryX ∧ (k.settled a whole).carryY = k.carryY
      ∧ (k.settled a whole).head = k.head ∧ (k.settled a whole).heads = k.heads
      ∧ (k.pushedOn a → whole ≠ 0 → (k.settled a whole).push = 0 ∧ (k.settled a whole).edge = none)
      ∧ (¬ k.pushedOn a ∨ whole = 0 → (k.settled a whole).push = k.push ∧ (k.settled a whole).edge = k.edge) := by
  unfold CP.settled CP.pushedOn
  split
  · rename_i hzero
    simp [hzero]
  · rename_i hne
    refine ⟨?_, ?_, ?_, ?_, ?_, ?_, fun hp _ => ⟨if_pos hp, if_pos hp⟩, fun hp => ?_⟩
    · cases a <;> exact Int.toNat_of_nonneg h
    · cases a <;> rfl
    · cases a <;> rfl
    · cases a <;> rfl
    · cases a <;> rfl
    · cases a <;> rfl
    · exact ⟨if_neg (hp.resolve_right hne), if_neg (hp.resolve_right hne)⟩

/-- What x leaves when it does not cross: it rests, moves inside the head, builds a push up at an open edge, or is held
at a closed one. -/
def XLeaves (c k d : CP) (h : Fin 4) (r : HeadRec) (wx : Int) : Prop :=
  (wx = 0 ∧ d = k)
    ∨ (wx ≠ 0 ∧ (r.cx : Int) ≤ c.x + wx ∧ c.x + wx < r.cx + r.w ∧ d = { k with
        x := (c.x + wx).toNat
        push := if c.edge = some .left ∨ c.edge = some .right then 0 else c.push
        edge := if c.edge = some .left ∨ c.edge = some .right then none else c.edge })
    ∨ (c.confine = false ∧ c.buttons = 0 ∧ (c.neighbour h .right c.y).isSome = true
        ∧ 0 < c.x + wx - (r.cx + r.w - 1)
        ∧ (if c.edge = some .right then (c.push : Int) else 0) + (c.x + wx - (r.cx + r.w - 1)) ≤ c.resist
        ∧ d = { k with
            x := r.cx + r.w - 1, edge := some .right
            push := (if c.edge = some .right then c.push else 0) + (c.x + wx - (r.cx + r.w - 1)).toNat })
    ∨ (c.confine = false ∧ c.buttons = 0 ∧ (c.neighbour h .left c.y).isSome = true ∧ 0 < r.cx - (c.x + wx)
        ∧ (if c.edge = some .left then (c.push : Int) else 0) + (r.cx - (c.x + wx)) ≤ c.resist
        ∧ d = { k with
            x := r.cx, edge := some .left
            push := (if c.edge = some .left then c.push else 0) + (r.cx - (c.x + wx)).toNat })
    ∨ ((c.confine = true ∨ c.buttons ≠ 0 ∨ c.neighbour h .right c.y = none) ∧ 0 < c.x + wx - (r.cx + r.w - 1)
        ∧ d = { k with x := r.cx + r.w - 1, push := 0, edge := none })
    ∨ ((c.confine = true ∨ c.buttons ≠ 0 ∨ c.neighbour h .left c.y = none) ∧ 0 < r.cx - (c.x + wx)
        ∧ d = { k with x := r.cx, push := 0, edge := none })

theorem HeadRec.contains_iff (r : HeadRec) (x y : Nat) :
    r.contains x y = true ↔ r.cx ≤ x ∧ x < r.cx + r.w ∧ r.cy ≤ y ∧ y < r.cy + r.h := by
  simp [HeadRec.contains, and_assoc]

/-- Both axes inside the head. -/
theorem CP.move_inside (hk : k = c.carried dx dy)
    (hwx : wx = wholePixels (dx * c.gains.choose (max dx.natAbs dy.natAbs) + c.carryX))
    (hwy : wy = wholePixels (dy * c.gains.choose (max dx.natAbs dy.natAbs) + c.carryY))
    (hxlo : ((c.heads.get h).cx : Int) ≤ c.x + wx) (hxhi : c.x + wx < (c.heads.get h).cx + (c.heads.get h).w)
    (hylo : ((c.heads.get h).cy : Int) ≤ c.y + wy) (hyhi : c.y + wy < (c.heads.get h).cy + (c.heads.get h).h) :
    c.move h dx dy = (k.settled .x wx).settled .y wy := by
  have hheads : k.heads = c.heads := by rw [hk]; rfl
  have hx : k.x = c.x := by rw [hk]; rfl
  have hy : k.y = c.y := by rw [hk]; rfl
  obtain ⟨-, hother, -, -, -, hsame, -⟩ := k.settled_eq .x wx (by simp only [CP.coord, hx]; omega)
  simp only [CP.other] at hother
  have hfirst := CP.moveAxis_settled (k := k) (h := h) (a := .x) (whole := wx)
    (by simpa only [hheads, CP.coord, hx, HeadRec.first] using hxlo)
    (by simp only [hheads, CP.coord, hx, HeadRec.last]; omega)
  rw [CP.move_of_x_stays hk hwx hwy hfirst, CP.moveAxis_settled]
  · simpa only [hsame, hheads, CP.coord, hother, hy, HeadRec.first] using hylo
  · simp only [hsame, hheads, CP.coord, hother, hy, HeadRec.last]
    omega

/-- What two motions inside the head leave: the push goes when the axis it was stored on has moved (R24). -/
theorem CP.settled_twice (k : CP) (wx wy : Int) (hx : 0 ≤ k.x + wx) (hy : 0 ≤ k.y + wy) :
    (((k.settled .x wx).settled .y wy).x : Int) = k.x + wx ∧ (((k.settled .x wx).settled .y wy).y : Int) = k.y + wy
      ∧ ((k.settled .x wx).settled .y wy).carryX = k.carryX ∧ ((k.settled .x wx).settled .y wy).carryY = k.carryY
      ∧ ((k.settled .x wx).settled .y wy).head = k.head
      ∧ (k.pushedOn .x → wx ≠ 0 → ((k.settled .x wx).settled .y wy).push = 0
        ∧ ((k.settled .x wx).settled .y wy).edge = none)
      ∧ (k.pushedOn .y → wy ≠ 0 → ((k.settled .x wx).settled .y wy).push = 0
        ∧ ((k.settled .x wx).settled .y wy).edge = none)
      ∧ (k.pushedOn .x → wx = 0 → ((k.settled .x wx).settled .y wy).push = k.push
        ∧ ((k.settled .x wx).settled .y wy).edge = k.edge)
      ∧ (k.pushedOn .y → wy = 0 → ((k.settled .x wx).settled .y wy).push = k.push
        ∧ ((k.settled .x wx).settled .y wy).edge = k.edge) := by
  obtain ⟨hxv, hxo, hxcx, hxcy, hxh, -, hxgone, hxkept⟩ := k.settled_eq .x wx hx
  obtain ⟨hyv, hyo, hycx, hycy, hyh, -, hygone, hykept⟩ := (k.settled .x wx).settled_eq .y wy (by
    rw [show (k.settled .x wx).coord .y = k.y from hxo]
    exact hy)
  have hone : k.pushedOn .x → ¬ k.pushedOn .y := by
    rintro (h | h) (g | g) <;> exact absurd (h.symm.trans g) (by decide)
  refine ⟨(congrArg Int.ofNat hyo).trans hxv, hyv.trans (congrArg (Int.ofNat · + wy) hxo), hycx.trans hxcx,
    hycy.trans hxcy, hyh.trans hxh, fun hp hne => ?_, fun hp hne => ?_, fun hp h0 => ?_, fun hp h0 => ?_⟩
  · obtain ⟨hpush, hedge⟩ := hxgone hp hne
    obtain ⟨hpush', hedge'⟩ := hykept (.inl (by simp [CP.pushedOn, hedge]))
    exact ⟨hpush'.trans hpush, hedge'.trans hedge⟩
  · obtain ⟨-, hedge⟩ := hxkept (.inl fun h => hone h hp)
    exact hygone (by rwa [CP.pushedOn, hedge]) hne
  · obtain ⟨hpush, hedge⟩ := hxkept (.inr h0)
    obtain ⟨hpush', hedge'⟩ := hykept (.inl (by rw [CP.pushedOn, hedge]; exact hone hp))
    exact ⟨hpush'.trans hpush, hedge'.trans hedge⟩
  · obtain ⟨hpush, hedge⟩ := hxkept (.inl fun h => hone h hp)
    obtain ⟨hpush', hedge'⟩ := hykept (.inr h0)
    exact ⟨hpush'.trans hpush, hedge'.trans hedge⟩

/-- What x leaves is what the motion in x gives, and of what y meets only the column and the push differ. -/
theorem XLeaves.moveAxis (hleaves : XLeaves c k d h (c.heads.get h) wx) (hk : k = c.carried dx dy)
    (hin : (c.heads.get h).contains c.x c.y = true) :
    k.moveAxis h .x wx = (d, false) ∧ d.heads = c.heads ∧ d.y = c.y ∧ d.confine = c.confine
      ∧ d.buttons = c.buttons ∧ d.resist = c.resist := by
  obtain ⟨hcx, hxw, hcy, hyh⟩ := (HeadRec.contains_iff ..).1 hin
  have hon : k.onHead h .x := by
    rw [hk]
    exact ⟨hcx, Nat.le_sub_one_of_lt hxw⟩
  have hlast : (((c.heads.get h).last .x : Nat) : Int) = (c.heads.get h).cx + (c.heads.get h).w - 1 := by
    simp only [HeadRec.last]
    omega
  subst hk
  have hbeyond {n : Int} {high : Bool} (hn : 0 < n) (hv : n = if high then c.x + wx - (c.heads.get h).last .x
      else (c.heads.get h).first .x - (c.x + wx)) :
      (c.carried dx dy).moveAxis h .x wx = (c.carried dx dy).pushAgainst h .x high n.toNat :=
    CP.moveAxis_beyond hon hn hv
  obtain ⟨rfl, rfl⟩ | ⟨hne, hlo, hhi, rfl⟩ | ⟨hc, hb, hopen, hn, hpush, rfl⟩ | ⟨hc, hb, hopen, hn, hpush, rfl⟩
    | ⟨hclosed, hn, rfl⟩ | ⟨hclosed, hn, rfl⟩ := hleaves
  all_goals refine ⟨?_, rfl, rfl, rfl, rfl, rfl⟩
  · rfl
  · refine (CP.moveAxis_inside (k := c.carried dx dy) (h := h) (a := .x) hne hlo ?_).trans rfl
    show (c.x : Int) + wx ≤ ((c.heads.get h).last .x : Nat)
    omega
  · exact (hbeyond (high := true) hn (by rw [if_pos rfl, hlast])).trans
      (CP.pushAgainst_builds (a := .x) (high := true) hc hb hn hopen hpush)
  · exact (hbeyond (high := false) hn rfl).trans
      (CP.pushAgainst_builds (a := .x) (high := false) hc hb hn hopen hpush)
  · exact (hbeyond (high := true) hn (by rw [if_pos rfl, hlast])).trans
      (CP.pushAgainst_closed (a := .x) (high := true) _ hclosed)
  · exact (hbeyond (high := false) hn rfl).trans
      (CP.pushAgainst_closed (a := .x) (high := false) _ hclosed)

/-- The motion in y from `d`, where the pointer stands in head `h` (R24, R25, R26, R28). -/
theorem CP.moveAxis_y {v : Nat} (hy : d.y = v) (hr : d.heads.get h = r) (hlo : r.cy ≤ v) (hhi : v < r.cy + r.h) :
    (wy = 0 → (d.moveAxis h .y wy).1 = d)
      ∧ (wy ≠ 0 → (r.cy : Int) ≤ v + wy → v + wy < r.cy + r.h → (d.moveAxis h .y wy).1 = { d with
          y := (v + wy).toNat
          push := if d.edge = some .top ∨ d.edge = some .bottom then 0 else d.push
          edge := if d.edge = some .top ∨ d.edge = some .bottom then none else d.edge })
      ∧ (d.confine = false → d.buttons = 0 →
        (d.neighbour h .bottom d.x = some b → 0 < v + wy - (r.cy + r.h - 1) →
          (d.resist : Int) < (if d.edge = some .bottom then (d.push : Int) else 0) + (v + wy - (r.cy + r.h - 1)) →
          (d.moveAxis h .y wy).1 = { d with
            y := (d.heads.get b).cy, head := some b, carryX := 0, carryY := 0, push := 0, edge := none })
        ∧ (d.neighbour h .top d.x = some b → 0 < r.cy - (v + wy) →
          (d.resist : Int) < (if d.edge = some .top then (d.push : Int) else 0) + (r.cy - (v + wy)) →
          (d.moveAxis h .y wy).1 = { d with
            y := (d.heads.get b).cy + (d.heads.get b).h - 1, head := some b, carryX := 0, carryY := 0, push := 0
            edge := none })
        ∧ (d.neighbour h .bottom d.x = some b → 0 < v + wy - (r.cy + r.h - 1) →
          (if d.edge = some .bottom then (d.push : Int) else 0) + (v + wy - (r.cy + r.h - 1)) ≤ d.resist →
          (d.moveAxis h .y wy).1 = { d with
            y := r.cy + r.h - 1, edge := some .bottom
            push := (if d.edge = some .bottom then d.push else 0) + (v + wy - (r.cy + r.h - 1)).toNat })
        ∧ (d.neighbour h .top d.x = some b → 0 < r.cy - (v + wy) →
          (if d.edge = some .top then (d.push : Int) else 0) + (r.cy - (v + wy)) ≤ d.resist →
          (d.moveAxis h .y wy).1 = { d with
            y := r.cy, edge := some .top
            push := (if d.edge = some .top then d.push else 0) + (r.cy - (v + wy)).toNat }))
      ∧ (d.confine = true ∨ d.buttons ≠ 0 ∨ d.neighbour h .bottom d.x = none → 0 < v + wy - (r.cy + r.h - 1) →
        (d.moveAxis h .y wy).1 = { d with y := r.cy + r.h - 1, push := 0, edge := none })
      ∧ (d.confine = true ∨ d.buttons ≠ 0 ∨ d.neighbour h .top d.x = none → 0 < r.cy - (v + wy) →
        (d.moveAxis h .y wy).1 = { d with y := r.cy, push := 0, edge := none }) := by
  subst hy hr
  have hon : d.onHead h .y := ⟨hlo, Nat.le_sub_one_of_lt hhi⟩
  have hlast : (((d.heads.get h).last .y : Nat) : Int) = (d.heads.get h).cy + (d.heads.get h).h - 1 := by
    simp only [HeadRec.last]
    omega
  have hbottom (hn : 0 < d.y + wy - ((d.heads.get h).cy + (d.heads.get h).h - 1 : Int)) :=
    CP.moveAxis_beyond (high := true) hon hn (by rw [if_pos rfl, hlast]; rfl)
  have htop (hn : 0 < ((d.heads.get h).cy : Int) - (d.y + wy)) :=
    CP.moveAxis_beyond (high := false) hon hn rfl
  refine ⟨?_, fun hne hlo hhi => ?_, fun hc hb => ⟨fun hopen hn hpush => ?_, fun hopen hn hpush => ?_,
    fun hopen hn hpush => ?_, fun hopen hn hpush => ?_⟩, fun hclosed hn => ?_, fun hclosed hn => ?_⟩
  · rintro rfl
    rfl
  · rw [CP.moveAxis_inside (k := d) (h := h) (a := .y) hne hlo ?_]
    · rfl
    · show (d.y : Int) + wy ≤ ((d.heads.get h).last .y : Nat)
      omega
  · rw [hbottom hn, CP.pushAgainst_crosses (a := .y) (high := true) hc hb hn hopen hpush]
    rfl
  · rw [htop hn, CP.pushAgainst_crosses (a := .y) (high := false) hc hb hn hopen hpush]
    rfl
  · rw [hbottom hn, CP.pushAgainst_builds (a := .y) (high := true) hc hb hn
    (Option.isSome_iff_exists.2 ⟨b, hopen⟩) hpush]
    rfl
  · rw [htop hn, CP.pushAgainst_builds (a := .y) (high := false) hc hb hn (Option.isSome_iff_exists.2 ⟨b, hopen⟩) hpush]
    rfl
  · rw [hbottom hn, CP.pushAgainst_closed (a := .y) (high := true) _ hclosed]
    rfl
  · rw [htop hn, CP.pushAgainst_closed (a := .y) (high := false) _ hclosed]
    rfl

/-- A crossing in x ends the move (R23, R26). -/
theorem CP.move_crosses {high : Bool} {n : Int}
    (hwx : wx = wholePixels (dx * c.gains.choose (max dx.natAbs dy.natAbs) + c.carryX))
    (hin : (c.heads.get h).contains c.x c.y = true) (hc : c.confine = false) (hb : c.buttons = 0) (hn : 0 < n)
    (hv : n = if high then c.x + wx - ((c.heads.get h).cx + (c.heads.get h).w - 1)
      else (c.heads.get h).cx - (c.x + wx))
    (hopen : c.neighbour h (Axis.x.edge high) c.y = some b)
    (hpush : (c.resist : Int) < (if c.edge = some (Axis.x.edge high) then (c.push : Int) else 0) + n) :
    c.move h dx dy = (c.carried dx dy).cross b .x high := by
  obtain ⟨hcx, hxw, -⟩ := (HeadRec.contains_iff ..).1 hin
  have hon : (c.carried dx dy).onHead h .x := ⟨hcx, Nat.le_sub_one_of_lt hxw⟩
  have hlast : (((c.heads.get h).last .x : Nat) : Int) = (c.heads.get h).cx + (c.heads.get h).w - 1 := by
    simp only [HeadRec.last]
    omega
  have hbeyond : (c.carried dx dy).moveAxis h .x wx = (c.carried dx dy).pushAgainst h .x high n.toNat :=
    CP.moveAxis_beyond hon hn (by rw [hv, ← hlast]; rfl)
  exact CP.move_of_x_crosses rfl hwx
    (hbeyond.trans (CP.pushAgainst_crosses (k := c.carried dx dy) (a := .x) hc hb hn hopen hpush))

/-- Settles O48: gain and carry by their bounds, and the move one axis after the other. -/
theorem pointerMoves : Obligations.PointerMoves := by
  refine ⟨fun g m h12 h23 => g.choose_eq m h12 h23, fun v => ⟨rfl, carryLeft_bounds v⟩, ?_⟩
  rintro c k d h b dx dy sx sy wx wy r rfl hin rfl hwx rfl hwy hk
  obtain ⟨-, -, hcy, hyh⟩ := (HeadRec.contains_iff ..).1 hin
  refine ⟨fun hxlo hxhi hylo hyhi => ⟨_, CP.move_inside hk hwx hwy hxlo hxhi hylo hyhi, ?_⟩,
    fun hc hb => ⟨fun hopen hn hpush => ?_, fun hopen hn hpush => ?_⟩, fun hleaves => ?_⟩
  · subst hk
    obtain ⟨hx, hy, hcarryX, hcarryY, hhead, hxgone, hygone, hxkept, hykept⟩ :=
      (c.carried dx dy).settled_twice wx wy (by change 0 ≤ (c.x : Int) + wx; omega)
        (by change 0 ≤ (c.y : Int) + wy; omega)
    exact ⟨hx, hy, hcarryX, hcarryY, hhead, hxgone, fun hp => hygone hp, hxkept, fun hp => hykept hp⟩
  · exact CP.move_crosses (high := true) hwx hin hc hb hn rfl hopen hpush
  · exact CP.move_crosses (high := false) hwx hin hc hb hn rfl hopen hpush
  · obtain ⟨hx, hheads, hy, hconfine, hbuttons, hresist⟩ := XLeaves.moveAxis hleaves hk hin
    have hneighbour (e : Edge) (v : Nat) : d.neighbour h e v = c.neighbour h e v := by
      simp only [CP.neighbour, hheads]
    have hr : d.heads.get h = c.heads.get h := by rw [hheads]
    have hymove := CP.moveAxis_y (wy := wy) (b := b) hy hr hcy hyh
    rw [CP.move_of_x_stays hk hwx hwy hx]
    simpa only [hneighbour, hconfine, hbuttons, hresist, hheads] using hymove

end Move
end Sys2Proof.Machine
end

section
/-!
PROOF. An accepted image: each field of the body in its place (R181, R191).
-/

namespace Sys2Proof.Machine

variable {s : State} {b flash : List Byte}

/-! ### The fields of a body (R191) -/

theorem length_imageBody {r : Role} (h : imageBody r flash = some b) : b.length = bodyBytes r := by
  simp only [imageBody, Option.ite_none_right_eq_some, Option.some.injEq] at h
  obtain ⟨-, rfl⟩ := h
  simp only [flashBytes, List.length_drop, List.length_append, List.length_take, List.length_replicate]
  omega

theorem clampNat_eq {v lo hi : Nat} (h : lo ≤ hi) : clampNat v lo hi = max lo (min hi v) := by
  unfold clampNat
  split
  · omega
  · split <;> omega

theorem clampNat_eq_min {v lo hi : Nat} (h : lo ≤ hi) : clampNat v lo hi = min hi (max lo v) := by
  rw [clampNat_eq h]
  omega

theorem readModes_getElem {i : Nat} (h : i < 8) : (readModes b)[i]? = some (readMode b i) := by
  simp [readModes, List.getElem?_map, List.getElem?_range h]

theorem readModes_getD {i : Nat} (h : i < 8) : (readModes b).getD i ModeEntry.reset = readMode b i := by
  rw [List.getD_eq_getElem?_getD, readModes_getElem h, Option.getD_some]

/-- A head as its five bytes give it, whatever the heads of lower index are. -/
theorem readHead_fields (b : List Byte) (lower : List HeadRec) (i : Nat) :
    (readHead b lower i).mode = byteAt b (168 + 5 * i) ∧ (readHead b lower i).cx = word16 b (169 + 5 * i)
      ∧ (readHead b lower i).cy = word16 b (171 + 5 * i)
      ∧ ((readHead b lower i).validity = .unused ↔ byteAt b (168 + 5 * i) = 255)
      ∧ ((readHead b lower i).validity = .valid → byteAt b (168 + 5 * i) < 8) := by
  have h1 : 168 + 5 * i + 1 = 169 + 5 * i := by omega
  have h3 : 168 + 5 * i + 3 = 171 + 5 * i := by omega
  unfold readHead judgeHead
  simp only [h1, h3]
  split
  · rename_i h
    simp [h]
  · rename_i h
    split
    · rename_i hvalid
      simp only [Bool.and_eq_true, decide_eq_true_eq] at hvalid
      simp [h, hvalid.1.1.1.1]
    · simp [h]

theorem readHeads_get (b : List Byte) (k : Fin 4) : ∃ lower, (readHeads b).get k = readHead b lower k.val := by
  match k with
  | 0 | 1 | 2 | 3 => exact ⟨_, rfl⟩

theorem readHeads_fields (b : List Byte) (k : Fin 4) : ((readHeads b).get k).mode = byteAt b (168 + 5 * k)
    ∧ ((readHeads b).get k).cx = word16 b (169 + 5 * k) ∧ ((readHeads b).get k).cy = word16 b (171 + 5 * k)
    ∧ (((readHeads b).get k).validity = .unused ↔ byteAt b (168 + 5 * k) = 255) := by
  obtain ⟨lower, hk⟩ := readHeads_get b k
  obtain ⟨hmode, hcx, hcy, hunused, -⟩ := readHead_fields b lower k.val
  rw [hk]
  exact ⟨hmode, hcx, hcy, hunused⟩

theorem readLayouts_get {l : Nat} (hl : l < 8) (k : Fin 4) :
    ∃ y : Layout, (readLayouts b)[l]? = some y ∧ y.get k = readAssignment b l k := by
  refine ⟨⟨readAssignment b l 0, readAssignment b l 1, readAssignment b l 2, readAssignment b l 3⟩,
    by simp only [readLayouts, List.getElem?_map, List.getElem?_range hl, Option.map_some], ?_⟩
  match k with
  | 0 | 1 | 2 | 3 => rfl

/-- An assignment that passes R6 keeps its channel byte. -/
theorem readAssignment_eq {l h : Nat} (hok : assignmentOk b l h = true) :
    (assignedStation b l h = 0 → readAssignment b l h = none)
      ∧ (assignedStation b l h ≠ 0 → ∃ x : Stream, readAssignment b l h = some x
          ∧ x.station = assignedStation b l h ∧ x.channel.val = assignedChannel b l h) := by
  refine ⟨fun h0 => if_pos h0, fun hne => ⟨_, if_neg hne, rfl, ?_⟩⟩
  simp only [assignmentOk, Bool.or_eq_true, Bool.and_eq_true, decide_eq_true_eq, hne, false_or] at hok
  obtain ⟨⟨-, hchannel⟩, -⟩ := hok
  obtain h0 | h1 : assignedChannel b l h = 0 ∨ assignedChannel b l h = 1 := by omega
  · simp [channelOf, h0]
  · simp [channelOf, h1]

/-- Four codes of two bits come from each byte, from the top. -/
theorem getElem?_unpack2 (l : List Byte) {j : Nat} (hj : j < 4) (i : Nat) :
    (unpack2 l)[4 * i + j]? = l[i]?.map fun x => x.extractLsb' (6 - 2 * j) 2 := by
  induction l generalizing i with
  | nil => simp [unpack2]
  | cons x l ih =>
    have hcons : unpack2 (x :: l) = [x.extractLsb' 6 2, x.extractLsb' 4 2, x.extractLsb' 2 2, x.extractLsb' 0 2]
        ++ unpack2 l := rfl
    cases i with
    | zero =>
      match j with
      | 0 | 1 | 2 | 3 => rfl
    | succ i =>
      have hlen : [x.extractLsb' 6 2, x.extractLsb' 4 2, x.extractLsb' 2 2, x.extractLsb' 0 2].length = 4 := rfl
      rw [hcons, List.getElem?_append_right (by rw [hlen]; omega), hlen, List.getElem?_cons_succ, ← ih]
      congr 1
      omega

/-- The layout table as the body's assignments give it (R6). -/
theorem readLayouts_fields (hok : ∀ (l : Nat) (k : Fin 4), l < 8 → assignmentOk b l k = true) {l : Nat} (k : Fin 4)
    (hl : l < 8) : ∃ y : Layout, (readLayouts b)[l]? = some y
      ∧ (word16 b (188 + 12 * l + 3 * k) = 0 → y.get k = none)
      ∧ (word16 b (188 + 12 * l + 3 * k) ≠ 0 → ∃ x : Stream, y.get k = some x
          ∧ x.station = word16 b (188 + 12 * l + 3 * k) ∧ x.channel.val = byteAt b (190 + 12 * l + 3 * k)) := by
  obtain ⟨y, hy, hget⟩ := readLayouts_get (b := b) hl k
  obtain ⟨hnone, hsome⟩ := readAssignment_eq (hok l k hl)
  refine ⟨y, hy, fun h => hget.trans (hnone h), fun h => ?_⟩
  rw [hget]
  exact hsome h

/-- The glyph's codes come from its 64 bytes, four of each from the top (R191). -/
theorem readGlyph_codes (hlen : 401 ≤ b.length) :
    (readGlyph b).codes.length = 256 ∧ ∀ i j, i < 64 → j < 4 →
      (readGlyph b).codes[4 * i + j]? = some ((b.getD (337 + i) 0).extractLsb' (6 - 2 * j) 2) := by
  have hslice : (slice b 337 64).length = 64 := by
    simp only [slice, List.length_take, List.length_drop]
    omega
  refine ⟨by rw [readGlyph, length_unpack2, hslice], fun i j hi hj => ?_⟩
  have hbyte : (slice b 337 64)[i]? = some (b.getD (337 + i) 0) := by
    rw [slice, List.getElem?_take_of_lt hi, List.getElem?_drop, List.getD_eq_getElem?_getD,
      List.getElem?_eq_getElem (by omega), Option.getD_some]
  rw [readGlyph, getElem?_unpack2 _ hj, hbyte, Option.map_some]

theorem readLead_eq {lead : Lead} (h : readLead b = some lead) :
    (byteAt b 293 = 0 → lead = .key (b.getD 294 0)) ∧ (byteAt b 293 = 1 → lead = .modifier (byteAt b 294)) := by
  unfold readLead at h
  split at h <;> rename_i hkind <;> simp_all

theorem mem_readPermits (p : Permit) :
    p ∈ readPermits b ↔
      p.desk ≠ 0 ∧ ∃ i, i < 16 ∧ p.desk = word16 b (8 + 3 * i) ∧ p.rank = byteAt b (10 + 3 * i) := by
  have hentry (i : Nat) : permitEntry b i = p ↔ p.desk = word16 b (8 + 3 * i) ∧ p.rank = byteAt b (10 + 3 * i) := by
    cases p
    simp [permitEntry, eq_comm]
  simp only [readPermits, List.mem_filter, List.mem_map, List.mem_range, decide_eq_true_eq, hentry]
  exact and_comm

/-! ### A source's image (R70, R101, R123, R181) -/

/-- Settles O23: the body that passes is accepted, and acceptance sets each field from its own bytes. -/
theorem sourceImageAccepted : Obligations.SourceImageAccepted := by
  intro flash b s hreading hrole hbody hok
  have hexec := exec_imageReadComplete_of_source hreading hrole (hrole ▸ hbody)
  rw [State.checkSource, if_pos hok] at hexec
  refine ⟨s.acceptSource b, hexec, rfl, rfl, rfl, rfl, rfl, rfl, rfl, ?_, mem_readPermits, ?_, rfl, rfl, rfl, rfl, rfl,
    rfl, rfl, rfl, rfl, rfl⟩
  · rw [← clampNat_eq_min (lo := 100) (hi := 4000) (by decide), ← clampNat_eq_min (lo := 792) (hi := 65536) (by decide)]
    rfl
  · rw [← clampNat_eq_min (lo := 1) (hi := 60) (by decide)]
    rfl

/-! ### A desk's image -/

/-- What the check of the heads leaves for acceptance (R3; log 14). -/
theorem State.headsRead_accepts (s : State) (b : List Byte) :
    (s.headsRead b).cp = { s.cp with heads := readHeads b } ∧ (s.headsRead b).fp = s.fp ∧ (s.headsRead b).pu = s.pu
      ∧ (anyInvalid (readHeads b) = true → (s.headsRead b).sa.current.has .headInvalid = true
        ∧ (s.headsRead b).sa.latched.has .headInvalid = true)
      ∧ (anyInvalid (readHeads b) = false → (s.headsRead b).sa = s.sa) := by
  unfold State.headsRead
  dsimp only
  split
  · rename_i h
    exact ⟨rfl, rfl, rfl, fun _ => SA.raise_has _ _, fun hnot => absurd (h.symm.trans hnot) Bool.true_eq_false.mp⟩
  · rename_i h
    exact ⟨rfl, rfl, rfl, fun hany => absurd hany h, fun _ => rfl⟩

/-- A VALID head's synthesiser has the multiplier and divider of the entry it names (R152). -/
theorem HU.accept_heads (u : HU) (b : List Byte) (k : Fin 4) :
    (((readHeads b).get k).validity = .valid → (u.accept b (readHeads b)).heads.get k = { u.heads.get k with
        synth := some (byteAt b (26 + 20 * byteAt b (168 + 5 * k)), byteAt b (27 + 20 * byteAt b (168 + 5 * k))) })
      ∧ (((readHeads b).get k).validity ≠ .valid →
        (u.accept b (readHeads b)).heads.get k = { u.heads.get k with synth := none }) := by
  obtain ⟨lower, hk⟩ := readHeads_get b k
  obtain ⟨hmode, -, -, -, hlt⟩ := readHead_fields b lower k.val
  rw [← hk] at hmode hlt
  simp only [HU.accept, Quad_get_ofFn]
  refine ⟨fun hvalid => ?_, fun hvalid => by rw [if_neg hvalid]⟩
  rw [if_pos hvalid, hmode, readModes_getD (hlt hvalid)]
  have hm : 8 + 20 * byteAt b (168 + 5 * k.val) + 18 = 26 + 20 * byteAt b (168 + 5 * k.val) := by omega
  have hn : 8 + 20 * byteAt b (168 + 5 * k.val) + 19 = 27 + 20 * byteAt b (168 + 5 * k.val) := by omega
  rw [← hm, ← hn]
  rfl

/-- A mode entry as its twenty bytes give it (R191). -/
theorem readMode_eq (b : List Byte) (i : Nat) : readMode b i = {
    aw := word16 b (8 + 20 * i), ah := word16 b (10 + 20 * i), hfp := word16 b (12 + 20 * i)
    hsw := word16 b (14 + 20 * i), hbp := word16 b (16 + 20 * i), vfp := word16 b (18 + 20 * i)
    vsw := word16 b (20 + 20 * i), vbp := word16 b (22 + 20 * i), hpol := byteAt b (24 + 20 * i)
    vpol := byteAt b (25 + 20 * i), m := byteAt b (26 + 20 * i), n := byteAt b (27 + 20 * i) } := by
  simp only [readMode, Nat.add_right_comm 8 (20 * i)]

/-- What the check of a desk's body has made sure of (R6, R43, R181). -/
theorem deskOk_fields (hok : deskOk b = true) :
    (readLead b).isSome = true ∧ ∀ (l : Nat) (k : Fin 4), l < 8 → assignmentOk b l k = true := by
  simp only [deskOk, layoutsOk, Bool.and_eq_true, List.all_eq_true, List.mem_range] at hok
  obtain ⟨⟨⟨⟨⟨⟨⟨-, ⟨hlayouts, -⟩, -⟩, -⟩, hlead⟩, -⟩, -⟩, -⟩, -⟩ := hok
  exact ⟨hlead, fun l k hl => hlayouts l hl k.val k.isLt⟩

theorem CP.accept_buttons (c : CP) (b : List Byte) (h : Fin 4) : (c.accept b h).buttons = 0 :=
  show (0 : Buttons) ||| 0 = 0 by decide

/-- What acceptance does to each block of a desk (R181). -/
theorem State.acceptDesk_blocks (s : State) (b : List Byte) (h : Fin 4) (lead : Lead) :
    let t := s.acceptDesk b h lead
    t.sa = SA.drive { s.sa with
        start := .listening, imageOk := true, mask := some (BitVec.ofNat 16 (word16 b 4))
        pulse := some (BitVec.ofNat 16 (word16 b 6)) }
      ∧ t.fp = { s.fp with own := word16 b 0, typeCode := word16 b 2, started := true } ∧ t.cp = s.cp.accept b h
      ∧ t.ii = { s.ii with lead := lead }
      ∧ t.fu = { s.fu with
          autoRequest := decide (byteAt b 295 = 1), onLeave := if byteAt b 296 = 1 then .clear else .release
          intervalMs := clampNat (byteAt b 297) 1 8 }
      ∧ t.hu = s.hu.accept b s.cp.heads ∧ t.sr = s.sr ∧ t.pu = s.pu ∧ t.cu = s.cu ∧ t.ts = s.ts ∧ t.ca = s.ca
      ∧ t.wp = s.wp := ⟨rfl, rfl, rfl, rfl, rfl, rfl, rfl, rfl, rfl, rfl, rfl, rfl⟩

/-- Settles O22: the body that passes is accepted with its heads read, and acceptance sets each field from its own
bytes. -/
theorem deskImageAccepted : Obligations.DeskImageAccepted := by
  intro flash b h s hreading hrole hbody hok hvalid
  have hlen : b.length = 411 := length_imageBody hbody
  obtain ⟨hlead, hassigned⟩ := deskOk_fields hok
  obtain ⟨lead, hlead⟩ := Option.isSome_iff_exists.1 hlead
  have hexec := exec_imageReadComplete_of_desk hreading hrole (hrole ▸ hbody)
  have hchecked : s.checkDesk b = (s.headsRead b).acceptDesk b h lead := by
    simp [State.checkDesk, State.headsRead, hvalid, hlead, hok]
  rw [hchecked] at hexec
  obtain ⟨hcp, hfp, hpu, hinvalid, hall⟩ := s.headsRead_accepts b
  obtain ⟨-, hfabric, hserving, -, hcu, hts, hca, hwp, hii, hfu, hsr, hhu⟩ := s.headsRead_frame b
  obtain ⟨htsa, htfp, htcp, htii, htfu, hthu, htsr, htpu, htcu, htts, htca, htwp⟩ :=
    (s.headsRead b).acceptDesk_blocks b h lead
  obtain ⟨hcodes, hcode⟩ := readGlyph_codes (b := b) (by omega)
  obtain ⟨hkey, hmodifier⟩ := readLead_eq hlead
  have hmodes (i : Nat) (hi : i < 8) := (readModes_getElem (b := b) hi).trans (congrArg some (readMode_eq b i))
  refine ⟨_, hexec, ?_⟩
  generalize (s.headsRead b).acceptDesk b h lead = t at *
  rw [hcp] at htcp hthu
  rw [hii] at htii
  rw [hfu, clampNat_eq (by decide)] at htfu
  rw [hhu] at hthu
  simp only [htsa, htfp, htcp, htii, htfu, hthu, htsr, htpu, State.sameSource, htcu, htts, htca, htwp, hfp, hpu, hcu,
    hts, hca, hwp, hsr]
  refine ⟨rfl, rfl, hfabric, hserving, rfl, rfl, hinvalid, fun hnone => by rw [hall hnone]; exact ⟨rfl, rfl⟩, trivial,
    rfl, hmodes, rfl, rfl, readHeads_fields b, rfl, rfl, rfl, rfl, rfl, rfl, rfl, CP.accept_buttons .., rfl, rfl, rfl,
    fun l k hl => readLayouts_fields hassigned k hl, rfl, rfl, rfl, hkey, hmodifier, trivial, rfl, rfl, rfl, rfl,
    clampNat_eq (by decide), rfl, hcodes, hcode, rfl, rfl, rfl, rfl, rfl, rfl, HU.accept_heads s.hu b, ?_⟩
  simp

end Sys2Proof.Machine
end

section
/-!
PROOF. The source context records and the order of leaves stay in order (R52, R57, R59, R61), by the operations of FU
and then by command.
-/

namespace Sys2Proof.Machine

/-! ### One record (R52, R57) -/

/-- What a record must be like to be moved to a state: its send count in range, and for each state what entering it does
not set itself. -/
def SrcRec.fitsFor (r : SrcRec) (st : RecState) : Prop :=
  1 ≤ r.sends ∧ r.sends ≤ 3 ∧ match st with
    | .idle => True
    | .queued => r.refused = false
    | .asking => r.ask.isSome = true ∧ r.leave = none
    | .holding => r.state ≠ .holding

theorem SrcRec.enter_ok {r : SrcRec} {st : RecState} (h : r.fitsFor st) (now : Time) : (r.enter st now).ok := by
  obtain ⟨hlo, hhi, hst⟩ := h
  by_cases hsame : r.state = st <;> cases st <;> simp_all [SrcRec.enter, SrcRec.ok]

/-- A record that moves has no leave pending afterwards. -/
theorem SrcRec.enter_leave {r : SrcRec} {st : RecState} (h : r.fitsFor st) (now : Time) :
    (r.enter st now).leave = none := by
  obtain ⟨-, -, hst⟩ := h
  by_cases hsame : r.state = st <;> cases st <;> simp_all [SrcRec.enter]

theorem SrcRec.ok.refused_eq_false {r : SrcRec} (h : r.ok) (hst : r.state ≠ .idle) : r.refused = false := by
  rw [← Bool.not_eq_true]
  exact fun hrefused => hst (h.2.2.2.2 hrefused)

theorem SrcRec.ok.leave_eq_none {r : SrcRec} (h : r.ok) (hst : r.state ≠ .holding) : r.leave = none := by
  rw [← Option.not_isSome_iff_eq_none]
  exact fun hsome => hst (h.2.2.2.1 hsome)

theorem SrcRec.left_ok {r : SrcRec} (h : r.ok) : r.left.ok := by
  obtain ⟨hask, hlo, hhi, -, hrefused⟩ := h
  exact ⟨hask, hlo, hhi, fun hl => by simp [SrcRec.left] at hl, hrefused⟩

theorem newRecord_ok (p : Nat) (w : Channels) (now : Time) : (newRecord p w now).ok := by
  simp [SrcRec.ok, newRecord]

/-! ### The table with one record put and the order of leaves set -/

/-- A table in order stays so when a record in order is put, and the order of leaves changes for its station alone. -/
theorem FU.recordsOk_put {f g : FU} {r : SrcRec} (h : f.recordsOk) (hr : r.ok)
    (hrecords : g.records = (f.put r).records) (hqueue : g.queue.length ≤ 16)
    (hleave : r.leave.isSome = true ↔ r.station ∈ g.leaveOrder)
    (hother : ∀ p, p ≠ r.station → (p ∈ g.leaveOrder ↔ p ∈ f.leaveOrder))
    (hin : r.station ∈ g.leaveOrder → ∃ q ∈ f.records, q.station = r.station) : g.recordsOk := by
  obtain ⟨hok, horder, -⟩ := h
  refine ⟨fun q hq => ?_, fun p hp => ?_, hqueue⟩
  · rw [hrecords, FU.put, List.mem_map] at hq
    obtain ⟨d, hd, rfl⟩ := hq
    split
    · exact ⟨hr, hleave⟩
    · rename_i hne
      exact ⟨(hok d hd).1, (hok d hd).2.trans (hother _ hne).symm⟩
  · have hfound : ∃ q ∈ f.records, q.station = p := by
      by_cases hpr : p = r.station
      · subst hpr
        exact hin hp
      · exact horder p ((hother p hpr).1 hp)
    obtain ⟨q, hq, rfl⟩ := hfound
    have hst := List.mem_map_of_mem (f := SrcRec.station) hq
    rw [← FU.put_stations f r, ← hrecords] at hst
    exact List.mem_map.1 hst

theorem FU.recordsOk_of_eq {f g : FU} (h : f.recordsOk) (hrecords : g.records = f.records)
    (horder : g.leaveOrder = f.leaveOrder) (hqueue : g.queue.length ≤ 16) : g.recordsOk := by
  unfold FU.recordsOk
  rw [hrecords, horder]
  exact ⟨h.1, h.2.1, hqueue⟩

/-- A record of a table in order. -/
theorem FU.recordsOk.record {f : FU} (h : f.recordsOk) {p : Nat} {r : SrcRec} (hr : f.record p = some r) :
    r.ok ∧ (r.leave.isSome = true ↔ r.station ∈ f.leaveOrder) := h.1 r (List.mem_of_find?_eq_some hr)

/-! ### FU's operations -/

theorem State.moveRecord_table (s : State) (r : SrcRec) (st : RecState) :
    (s.moveRecord r st).fu.records = (s.fu.put (r.enter st s.now)).records
      ∧ ((s.moveRecord r st).fu.leaveOrder = if r.state = .holding ∧ st ≠ .holding
          then s.fu.leaveOrder.filter fun q => q ≠ r.station else s.fu.leaveOrder)
      ∧ (s.moveRecord r st).fu.queue.length ≤ s.fu.queue.length := by
  unfold State.moveRecord State.leftHolding State.enteredHolding
  dsimp only
  (repeat' split) <;> simp_all [State.putRecord, FU.put]

section Ops
variable {s : State} (h : s.fu.recordsOk)
include h

theorem State.putRecord_recordsOk {r : SrcRec} (hr : r.ok)
    (hleave : r.leave.isSome = true ↔ r.station ∈ s.fu.leaveOrder) :
    (s.putRecord r).fu.recordsOk :=
  FU.recordsOk_put h hr rfl h.2.2 hleave (fun _ _ => Iff.rfl) fun hin => h.2.1 _ hin

/-- A record put that differs from one of the table in neither its state nor what goes with it. -/
theorem State.putRecord_recordsOk_of_like {p : Nat} {q r : SrcRec} (hq : s.fu.record p = some q) (hr : q.ok → r.ok)
    (hleave : r.leave = q.leave) (hst : r.station = q.station) : (s.putRecord r).fu.recordsOk := by
  obtain ⟨hok, hin⟩ := h.record hq
  exact State.putRecord_recordsOk h (hr hok) (by rw [hleave, hst]; exact hin)

theorem State.moveRecord_recordsOk {r : SrcRec} {st : RecState} (hfit : r.fitsFor st)
    (hleave : r.leave.isSome = true ↔ r.station ∈ s.fu.leaveOrder)
    (hheld : r.leave.isSome = true → r.state = .holding) :
    (s.moveRecord r st).fu.recordsOk := by
  obtain ⟨hrecords, horder, hqueue⟩ := s.moveRecord_table r st
  have hst : (r.enter st s.now).station = r.station := SrcRec.enter_station ..
  have hout : r.station ∉ (s.moveRecord r st).fu.leaveOrder := by
    rw [horder]
    split
    · simp
    · rename_i hno
      rw [← hleave]
      intro hsome
      refine hno ⟨hheld hsome, ?_⟩
      rintro rfl
      exact hfit.2.2 (hheld hsome)
  refine FU.recordsOk_put h (SrcRec.enter_ok hfit s.now) hrecords (hqueue.trans h.2.2) ?_ (fun p hp => ?_)
    (fun hin => absurd (hst ▸ hin) hout)
  · rw [SrcRec.enter_leave hfit s.now, hst]
    exact iff_of_false (by simp) hout
  · rw [hst] at hp
    rw [horder]
    split
    · simp [hp]
    · exact Iff.rfl

/-- A record of the table moved, with fields changed that neither its state nor its pending leave depends on. -/
theorem State.moveRecord_recordsOk_of_record {p : Nat} {q r : SrcRec} {st : RecState} (hq : s.fu.record p = some q)
    (hfit : q.ok → r.fitsFor st) (hleave : r.leave = q.leave) (hstate : r.state = q.state)
    (hst : r.station = q.station) : (s.moveRecord r st).fu.recordsOk := by
  obtain ⟨hok, hin⟩ := h.record hq
  refine State.moveRecord_recordsOk h (hfit hok) (by rw [hleave, hst]; exact hin) fun hsome => ?_
  rw [hstate]
  exact hok.2.2.2.1 (hleave ▸ hsome)

theorem State.hand0_recordsOk (m : Out0) : (s.hand0 m).fu.recordsOk := by simpa using h

theorem State.requestSource_recordsOk (p : Nat) : (s.requestSource p).fu.recordsOk := by
  cases hr : s.fu.record p with
  | none => simpa [State.requestSource, hr] using h
  | some r =>
    obtain ⟨hask, hstay⟩ := State.requestSource_of_record hr
    by_cases hst : r.state = .idle ∨ r.state = .queued
    · rw [hask hst]
      obtain ⟨hok, hin⟩ := h.record hr
      have hnone : r.leave = none := hok.leave_eq_none (by rintro hheld; simp [hheld] at hst)
      refine State.moveRecord_recordsOk ?_ ⟨by simp, by simp, by simp [hnone]⟩ ?_ (by simp [hnone])
      · have hcount : FU.recordsOk { s.fu with idCounter := s.fu.idCounter + 1 } := FU.recordsOk_of_eq h rfl rfl h.2.2
        simpa using hcount
      · simpa using hin
    · rw [hstay (by cases hs : r.state <;> simp_all)]
      exact h

theorem State.leaveSent_recordsOk {r : SrcRec} (hr : r.ok) : (s.leaveSent r).fu.recordsOk := by
  obtain ⟨-, -, -, hfu⟩ := s.leaveSent_eq r
  rw [hfu]
  refine FU.recordsOk_put h (SrcRec.left_ok hr) rfl h.2.2 (by simp [SrcRec.left]) (fun p hp => ?_) fun hin => ?_
  · have hne : p ≠ r.station := hp
    simp [hne]
  · simp [SrcRec.left] at hin

theorem State.runLeave_recordsOk {r : SrcRec} (hr : r.ok) (k : LeaveKind) : (s.runLeave r k).fu.recordsOk := by
  have hsent := State.leaveSent_recordsOk h hr
  cases k with
  | clear => exact hsent
  | release =>
    have hfu : ((s.leaveSent r).sendRelease r.left).fu = (s.leaveSent r).fu := by simp
    rw [State.runLeave_release]
    refine State.moveRecord_recordsOk (hfu ▸ hsent) ⟨hr.2.1, hr.2.2.1, trivial⟩ ?_ (by simp [SrcRec.left])
    obtain ⟨-, -, -, hleft⟩ := s.leaveSent_eq r
    rw [hfu, hleft]
    simp [SrcRec.left]

theorem State.setPending_recordsOk {r : SrcRec} (hr : r.ok) (hheld : r.state = .holding)
    (hin : ∃ q ∈ s.fu.records, q.station = r.station) (k : LeaveKind) : (s.setPending r k).fu.recordsOk := by
  obtain ⟨j, -, -, heq, hstays, hjoins⟩ := s.setPending_eq r k
  have hmem : r.station ∈ (s.setPending r k).fu.leaveOrder := by
    by_cases hmem : r.station ∈ s.fu.leaveOrder
    · rwa [hstays hmem]
    · simp [hjoins hmem]
  have hok : SrcRec.ok { r with leave := some j } := ⟨hr.1, hr.2.1, hr.2.2.1, fun _ => hheld, hr.2.2.2.2⟩
  refine FU.recordsOk_put h hok (by rw [heq]; rfl) (by rw [heq]; exact h.2.2) (by simpa using hmem) (fun p hp => ?_)
    fun _ => hin
  by_cases hmem : r.station ∈ s.fu.leaveOrder
  · rw [hstays hmem]
  · have hne : p ≠ r.station := hp
    simp [hjoins hmem, hne]

theorem State.leave_recordsOk {r : SrcRec} (hr : r ∈ s.fu.records) (hheld : r.state = .holding) (k : LeaveKind) :
    (s.leave r k).fu.recordsOk := by
  unfold State.leave
  split
  · exact State.runLeave_recordsOk h (h.1 r hr).1 k
  · exact State.setPending_recordsOk h (h.1 r hr).1 hheld ⟨r, hr, rfl⟩ k

theorem State.releaseSource_recordsOk (p : Nat) : (s.releaseSource p).fu.recordsOk := by
  cases hr : s.fu.record p with
  | none => simpa [State.releaseSource, hr] using h
  | some r =>
    obtain ⟨hidle, hsend, hleave⟩ := State.releaseSource_of_record hr
    cases hst : r.state with
    | idle => rw [hidle hst]; exact h
    | asking | queued =>
      rw [hsend (by simp [hst])]
      exact State.moveRecord_recordsOk_of_record (q := r) (p := p) (by simpa using h) (by simpa using hr)
        (fun hok => ⟨hok.2.1, hok.2.2.1, trivial⟩) rfl rfl rfl
    | holding => rw [hleave hst]; exact State.leave_recordsOk h (List.mem_of_find?_eq_some hr) hst _

theorem State.leaveFocus_recordsOk (p : Option Nat) : (s.leaveFocus p).fu.recordsOk := by
  unfold State.leaveFocus
  split
  · exact h
  · split
    · exact h
    · split
      · rename_i r hr hst
        exact State.leave_recordsOk h (List.mem_of_find?_eq_some hr) hst _
      · exact h

theorem State.autoRequest_recordsOk (q : Option Nat) : (s.autoRequest q).fu.recordsOk := by
  unfold State.autoRequest
  (repeat' split) <;> simp [h, State.requestSource_recordsOk h]

theorem State.focusChange_recordsOk (p q : Option Nat) : (s.focusChange p q).fu.recordsOk := by
  have hleft := State.leaveFocus_recordsOk h p
  unfold State.focusChange
  dsimp only
  rw [(State.showLamps_frame _).2.2.2.2.2.2.2.2.2.2.2.1]
  refine State.autoRequest_recordsOk ?_ q
  exact FU.recordsOk_of_eq hleft rfl rfl (Nat.zero_le _)

theorem State.focusFrom_recordsOk (p : Option Nat) : (s.focusFrom p).fu.recordsOk := by
  unfold State.focusFrom
  split
  · exact h
  · exact State.focusChange_recordsOk h _ _

theorem State.dropRecord_recordsOk {r : SrcRec} (hr : r.ok) : (s.dropRecord r).fu.recordsOk := by
  unfold State.dropRecord
  split
  · split
    · exact State.runLeave_recordsOk h hr .release
    · simpa using h
  · simpa using h
  · exact h
  · exact h

theorem State.removeRecord_recordsOk {r : SrcRec} (hr : r.ok) : (s.removeRecord r).fu.recordsOk := by
  obtain ⟨hok, horder, hqueue⟩ := State.dropRecord_recordsOk h hr
  refine ⟨fun q hq => ?_, fun p hp => ?_, hqueue⟩
  · obtain ⟨hq, hne⟩ := List.mem_filter.1 hq
    refine ⟨(hok q hq).1, (hok q hq).2.trans ?_⟩
    simpa [State.removeRecord] using fun _ => hne
  · obtain ⟨hp, hne⟩ := List.mem_filter.1 hp
    obtain ⟨q, hq, rfl⟩ := horder p hp
    exact ⟨q, List.mem_filter.2 ⟨hq, hne⟩, rfl⟩

theorem State.fillRecords_recordsOk : s.fillRecords.fu.recordsOk := by
  obtain ⟨hok, horder, hqueue⟩ := h
  unfold State.fillRecords
  refine ⟨fun q hq => ?_, fun p hp => ?_, hqueue⟩
  · obtain hq | hq := List.mem_append.1 hq
    · obtain ⟨d, hd, rfl⟩ := List.mem_map.1 hq
      exact hok d hd
    · obtain ⟨p, hp, rfl⟩ := List.mem_map.1 hq
      refine ⟨newRecord_ok .., iff_of_false (by simp [newRecord]) fun hin => ?_⟩
      obtain ⟨d, hd, hst⟩ := horder _ hin
      have hnew := (List.mem_filter.1 hp).2
      simp only [Bool.not_eq_true', List.any_eq_false, List.mem_map, decide_eq_true_eq] at hnew
      exact hnew _ ⟨d, hd, rfl⟩ hst
  · obtain ⟨d, hd, rfl⟩ := horder p hp
    exact ⟨_, List.mem_append_left _ (List.mem_map_of_mem hd), rfl⟩

theorem State.updateRecords_recordsOk : s.updateRecords.fu.recordsOk := by
  have hremoved (l : List SrcRec) : ∀ {u : State}, u.fu.recordsOk → (∀ r ∈ l, r.ok) →
      (l.foldl State.removeRecord u).fu.recordsOk := by
    induction l with
    | nil => exact fun hu _ => hu
    | cons r l ih =>
      intro u hu hl
      exact ih (State.removeRecord_recordsOk hu (hl r List.mem_cons_self)) fun q hq => hl q (List.mem_cons_of_mem r hq)
  exact State.fillRecords_recordsOk (hremoved _ h fun r hr => (h.1 r (List.mem_filter.1 hr).1).1)

theorem State.offerSnapshot_recordsOk (k : Snapshot) : (s.offerSnapshot k).fu.recordsOk := by
  have hmax : Config.deskQueueMax = 16 := rfl
  have hqueue := h.2.2
  have hput (l : List Snapshot) (hl : l.length ≤ 16) : (s.setFU { s.fu with queue := l }).fu.recordsOk :=
    FU.recordsOk_of_eq h rfl rfl hl
  have hlast : (s.fu.queue.dropLast ++ [k]).length ≤ 16 := by
    simp only [List.length_append, List.length_dropLast, List.length_singleton]
    omega
  have hnext (hlt : s.fu.queue.length < Config.deskQueueMax) : (s.fu.queue ++ [k]).length ≤ 16 := by
    simp only [List.length_append, List.length_singleton]
    omega
  unfold State.offerSnapshot
  split
  · exact h
  · split
    · exact h
    · refine iteInduction (motive := fun u : State => u.fu.recordsOk) (fun _ => h) fun _ => ?_
      split
      · rename_i hlt
        exact hput _ (hnext hlt)
      · exact hput _ hlast

theorem State.runLeaves_recordsOk (l : List Nat) : (State.runLeaves l s).fu.recordsOk := by
  induction l generalizing s with
  | nil => exact h
  | cons p l ih =>
    unfold State.runLeaves
    split
    · split
      · exact ih h
      · rename_i r hr
        split
        · exact ih h
        · exact ih (State.runLeave_recordsOk h (h.record hr).1 _)
    · exact h

theorem State.buildInput_recordsOk {r : SrcRec} (hr : s.focusRecord = some r) : (s.buildInput r).fu.recordsOk := by
  obtain ⟨-, hrecord⟩ := State.focusRecord_eq_some hr
  obtain ⟨hok, hin⟩ := h.record hrecord
  rw [State.buildInput_fu]
  refine FU.recordsOk_put (r := { r with seq := r.seq + 1, noted := ⟨s.inputSnapshot, s.cp.buttons, s.cp.field⟩ }) h hok
    rfl ?_ hin (fun _ _ => Iff.rfl) fun hin => h.2.1 _ hin
  have hq := h.2.2
  dsimp only
  split
  · exact Nat.zero_le _
  · simp only [List.length_tail]
    omega

theorem State.judgeInput_recordsOk : s.judgeInput.fu.recordsOk := by
  have hleaves := State.runLeaves_recordsOk h s.fu.leaveOrder
  unfold State.judgeInput
  dsimp only
  split
  · exact hleaves
  · rename_i r hr
    split
    · exact State.buildInput_recordsOk hleaves hr
    · exact hleaves

theorem State.judgeAtDesk_recordsOk : s.judgeAtDesk.fu.recordsOk :=
  iteInduction (motive := fun u : State => u.fu.recordsOk) (fun _ => State.judgeInput_recordsOk h) fun _ => h

theorem State.reconcile_recordsOk {r : SrcRec} (hr : s.fu.record r.station = some r) (i : Option Byte) (w : Bool) :
    (s.reconcile r i w).fu.recordsOk := by
  have hmove {q : SrcRec} {st : RecState} (hq : q.leave = r.leave ∧ q.state = r.state ∧ q.station = r.station)
      (hfit : r.ok → q.fitsFor st) : (s.moveRecord q st).fu.recordsOk :=
    State.moveRecord_recordsOk_of_record h hr hfit hq.1 hq.2.1 hq.2.2
  have hfit (hok : r.ok) (st : RecState) (hst : match st with
      | .idle => True
      | .queued => r.refused = false
      | .asking => r.ask.isSome = true ∧ r.leave = none
      | .holding => r.state ≠ .holding) : r.fitsFor st := ⟨hok.2.1, hok.2.2.1, hst⟩
  unfold State.reconcile
  split
  · simpa using h
  · split
    · simpa using h
    · exact h
  · rename_i i _ hst
    exact hmove ⟨rfl, rfl, rfl⟩ fun hok => hfit hok .holding (by simp [hst])
  · exact h
  · rename_i i _ hst
    exact hmove ⟨rfl, rfl, rfl⟩ fun hok => hfit hok .holding (by simp [hst])
  · split
    · exact h
    · exact hmove ⟨rfl, rfl, rfl⟩ fun hok => hfit hok .idle trivial
  · exact State.putRecord_recordsOk_of_like h hr id rfl rfl
  · rename_i hst
    refine hmove ⟨rfl, rfl, rfl⟩ fun hok => ?_
    split
    · exact hfit hok .queued (hok.refused_eq_false (by simp [hst]))
    · exact hfit hok .idle trivial

theorem State.takeVerdict_recordsOk {p : Nat} {r : SrcRec} (hr : s.fu.record p = some r) (v : Verdict) :
    (s.takeVerdict r v).fu.recordsOk := by
  have hmove {q : SrcRec} {st : RecState} (hq : q.leave = r.leave ∧ q.state = r.state ∧ q.station = r.station)
      (hfit : r.ok → q.fitsFor st) : (s.moveRecord q st).fu.recordsOk :=
    State.moveRecord_recordsOk_of_record h hr hfit hq.1 hq.2.1 hq.2.2
  have hgrant (hst : r.state ≠ .holding) : (s.moveRecord r .holding).fu.recordsOk :=
    hmove ⟨rfl, rfl, rfl⟩ fun hok => ⟨hok.2.1, hok.2.2.1, hst⟩
  have hrefuse : (s.moveRecord (r.markRefused s.now) .idle).fu.recordsOk :=
    hmove ⟨rfl, rfl, rfl⟩ fun hok => ⟨hok.2.1, hok.2.2.1, trivial⟩
  unfold State.takeVerdict
  split
  · rename_i hst
    exact hgrant (by simp [hst])
  · rename_i hst
    exact hgrant (by simp [hst])
  · rename_i hst
    exact hmove ⟨rfl, rfl, rfl⟩ fun hok => ⟨hok.2.1, hok.2.2.1, hok.refused_eq_false (by simp [hst])⟩
  · exact hrefuse
  · exact hrefuse
  · exact hrefuse
  · exact hrefuse
  · exact h
  · exact h
  · exact h

omit h in
/-- A withdrawal moves to IDLE, or from HOLDING to QUEUED (R58). -/
theorem withdrawalState_eq_some {reason : Reason} {a b : RecState} (h : withdrawalState reason a = some b) :
    b = .idle ∨ (b = .queued ∧ a = .holding) := by
  cases a <;> cases reason <;> simp_all [withdrawalState]

theorem State.withdrawn_recordsOk {p : Nat} {r : SrcRec} {reason : Reason} {st : RecState}
    (hr : s.fu.record p = some r) (hst : withdrawalState reason r.state = some st) :
      (s.moveRecord r st).fu.recordsOk := by
  refine State.moveRecord_recordsOk_of_record h hr (fun hok => ⟨hok.2.1, hok.2.2.1, ?_⟩) rfl rfl rfl
  obtain rfl | ⟨rfl, hheld⟩ := withdrawalState_eq_some hst
  · trivial
  · exact hok.refused_eq_false (by simp [hheld])

end Ops

/-! ### Layout changes, commands and keys -/

section Keys
variable {s : State} (h : s.fu.recordsOk)
include h

theorem State.changeLayout_recordsOk (n : Nat) : (s.changeLayout n).fu.recordsOk := by
  obtain ⟨u, hu, heq⟩ := s.changeLayout_eq n
  rw [heq]
  simpa using State.focusFrom_recordsOk (State.updateRecords_recordsOk (hu ▸ h)) s.cp.focusSource

theorem State.command_recordsOk (c : Command) : (s.command c).fu.recordsOk := by
  cases c with
  | select n =>
    exact iteInduction (motive := fun u : State => u.fu.recordsOk) (fun _ => h)
      fun _ => State.changeLayout_recordsOk h n
  | request =>
    unfold State.command
    dsimp only
    split
    · exact h
    · exact State.requestSource_recordsOk h _
  | release =>
    unfold State.command
    dsimp only
    split
    · exact h
    · exact State.releaseSource_recordsOk h _
  | acknowledge => simpa [State.command] using h
  | confine => exact h
  | leave => exact h

theorem State.keysHeard_recordsOk (b : Bool) : (s.keysHeard b).fu.recordsOk := by
  have hoffered (k : Snapshot) (e : Bool) : (s.offered k e).fu.recordsOk := by
    have hfirst : (if k = s.ii.passed then s else s.offerSnapshot k).fu.recordsOk :=
      iteInduction (motive := fun u : State => u.fu.recordsOk) (fun _ => h) fun _ => State.offerSnapshot_recordsOk h k
    unfold State.offered
    dsimp only
    split
    · exact State.offerSnapshot_recordsOk hfirst _
    · exact hfirst
  exact hoffered _ _

theorem State.rawChanged_recordsOk (b : Bool) : (s.rawChanged b).fu.recordsOk := by
  by_cases hraw : s.ii.unionKeys = s.ii.raw
  · rwa [State.rawChanged_of_same b hraw]
  · rw [State.rawChanged_of_ne b hraw]
    exact State.command_recordsOk (State.keysHeard_recordsOk h b) _

theorem State.clearPort_recordsOk (i : Fin 2) (p : HostPort) : (s.clearPort i p).fu.recordsOk := by
  have hemptied : (s.portEmptied i p).fu.recordsOk := h
  rw [State.clearPort_eq]
  exact State.judgeInput_recordsOk (by simpa using State.rawChanged_recordsOk hemptied false)

theorem State.transferFails_recordsOk (i : Fin 2) (x : Transfer) : (s.transferFails i x).fu.recordsOk := by
  unfold State.transferFails
  dsimp only
  split
  · exact State.clearPort_recordsOk h i _
  · simpa using h

theorem State.takeMotion_recordsOk (i : Fin 2) (m : MouseMotion) : (s.takeMotion i m).fu.recordsOk := by
  unfold State.takeMotion
  split
  · exact h
  · exact State.judgeInput_recordsOk (State.focusFrom_recordsOk (by simpa using h) _)

end Keys

/-! ### Every command -/

theorem Ends.next {P : State → Prop} {t : State} (h : P t) : Ends P (.next t) := (Ends_next ..).2 h

theorem Ends.ite {P : State → Prop} {c : Prop} [Decidable c] {a b : Host.Outcome State Fault Refusal}
    (ha : c → Ends P a) (hb : ¬ c → Ends P b) : Ends P (if c then a else b) :=
  iteInduction (motive := Ends P) ha hb

theorem exec_recordsOk {s : State} (h : s.fu.recordsOk) (c : Instr) : Ends (fun t => t.fu.recordsOk) (exec c s) := by
  by_cases hsource : ofSource c = true
  · intro t ht
    obtain ⟨-, -, hfu, -⟩ := exec_sameDesk_of_source hsource s t ht
    rwa [hfu]
  have hjudged {u : State} (hu : u.fu = s.fu) : u.judgeInput.fu.recordsOk := State.judgeInput_recordsOk (hu ▸ h)
  cases c
  -- the start, the link and the fabric
  case reset r => simp [exec, execReset, FU.recordsOk, State.reset, FU.reset]
  case imageReadComplete flash =>
    refine exec_imageReadComplete_ends (fun _ => h) (by simp [h]) (by simp [h]) (fun b k lead _ _ _ => ?_) (by simp [h])
      flash
    have hread : (s.headsRead b).fu.recordsOk := by simpa using h
    exact FU.recordsOk_of_eq hread rfl rfl hread.2.2
  case listenTimerExpiry =>
    refine exec_listenTimerExpiry_ends h (fun _ _ => ?_) (by simp [h])
    have hmade : (s.stagesSet.cp.streams.foldl State.makeCtx s.stagesSet).placeAll.fu.recordsOk := by simpa using h
    simpa [State.beginDesk] using State.focusFrom_recordsOk (State.fillRecords_recordsOk hmade) none
  case frameReceived fcs f => exact exec_frameReceived_ends h (by simp [h]) (by simp [h]) (by simp [h]) fcs f
  case linkDown => exact Ends.ite (fun _ => .next (State.judgeAtDesk_recordsOk h)) fun _ => .next h
  case linkUp | transmitArbiterTake | presenceTimerExpiry =>
    have hroom {u : State} (hu : u.fu = s.fu) : u.judgeAtDesk.fu.recordsOk := State.judgeAtDesk_recordsOk (hu ▸ h)
    simp only [exec, execLinkUp, execTransmitArbiterTake, execPresenceTimerExpiry]
    (repeat' split) <;> simp [h, hroom]
  -- messages to FU and SR
  case presenceTakenBySr | tileTaken | frameCloseTaken =>
    simp only [exec, execPresenceTakenBySr, execTileTaken, execFrameCloseTaken]
    split
    · split
      · simp [h]
      · next m u e =>
        have hu : u.fu = s.fu := by simp [(State.take_eq e).1]
        simp [hu, h, hjudged]
    · simp [h]
  case presenceTakenByFu =>
    simp only [exec, execPresenceTakenByFu]
    refine Ends.ite (fun _ => ?_) fun _ => .next h
    split
    · exact .next h
    · next m u e =>
      have hu : u.fu.recordsOk := by simpa [(State.take_eq e).1] using h
      split
      · exact .next hu
      · next r hr =>
        have hput : (u.putRecord { r with absence := some u.now, absent := false }).fu.recordsOk :=
          State.putRecord_recordsOk_of_like hu hr id rfl rfl
        refine Ends.ite (fun _ => .next hput) fun _ =>
          .next (State.judgeInput_recordsOk (State.reconcile_recordsOk hput ?_ _ _))
        have hstation : u.fu.record r.station = some r := by rw [FU.station_of_record hr, hr]
        simp [State.putRecord, FU.record_put, hstation]
  case controlVerdictTaken =>
    simp only [exec, execControlVerdictTaken]
    refine Ends.ite (fun _ => ?_) fun _ => .next h
    split
    · exact .next h
    · next m u e =>
      have hu : u.fu.recordsOk := by simpa [(State.take_eq e).1] using h
      split
      · exact .next hu
      · split
        · exact .next hu
        · next r hr =>
          exact Ends.ite (fun _ => .next (State.judgeInput_recordsOk (State.takeVerdict_recordsOk hu hr _))) fun _ =>
            .next hu
  case controlWithdrawnTaken =>
    simp only [exec, execControlWithdrawnTaken]
    refine Ends.ite (fun _ => ?_) fun _ => .next h
    split
    · exact .next h
    · next m u e =>
      have hu : u.fu.recordsOk := by simpa [(State.take_eq e).1] using h
      split
      · exact .next hu
      · split
        · exact .next hu
        · next r hr =>
          refine Ends.ite (fun _ => ?_) fun _ => .next hu
          split
          · exact .next hu
          · next st hst => exact .next (State.judgeInput_recordsOk (State.withdrawn_recordsOk hu hr hst))
  case lampsTaken =>
    simp only [exec, execLampsTaken]
    refine Ends.ite (fun _ => ?_) fun _ => .next h
    split
    · exact .next h
    · next m u e =>
      have hu : u.fu.recordsOk := by simpa [(State.take_eq e).1] using h
      split
      · exact .next hu
      · next r hr =>
        refine .next ?_
        simpa using State.putRecord_recordsOk_of_like (r := { r with lamps := (m.payload.getD 0 0).setWidth 5 }) hu hr
          id rfl rfl
  -- II and CP
  case hostDeviceConnect | hostDeviceDisconnect | enumerationComplete | enumerationFailure | transferUnanswered
      | pollTransferFailure | pollAnsweredWithNoData | leadSeenTimerExpiry | commandTimerExpiry | lampReportComplete
      | lampRetryExpiry =>
    simp only [exec, execHostDeviceConnect, execHostDeviceDisconnect, execEnumerationComplete, execEnumerationFailure,
      execTransferUnanswered, execPollTransferFailure, execPollAnsweredWithNoData,
      execLeadSeenTimerExpiry, execCommandTimerExpiry, execLampReportComplete, execLampRetryExpiry]
    (repeat' split) <;> simp [h, State.clearPort_recordsOk h, State.transferFails_recordsOk h]
  case keyboardReport =>
    have hchanged {u : State} (hu : u.fu = s.fu) (b : Bool) : (u.rawChanged b).judgeInput.fu.recordsOk :=
      State.judgeInput_recordsOk (State.rawChanged_recordsOk (hu ▸ h) b)
    simp only [exec, execKeyboardReport]
    (repeat' split) <;> simp [h, hchanged, State.takeKeys]
  case mouseReport =>
    have hmoved {u : State} (hu : u.fu = s.fu) (i : Fin 2) (m : MouseMotion) : (u.takeMotion i m).fu.recordsOk :=
      State.takeMotion_recordsOk (hu ▸ h) i m
    simp only [exec, execMouseReport]
    (repeat' split) <;> simp [h, hmoved]
  -- FU
  case inputIntervalExpiry =>
    refine Ends.ite (fun _ => .next (State.judgeInput_recordsOk ?_)) fun _ => .next h
    exact FU.recordsOk_of_eq h rfl rfl h.2.2
  case askTimerExpiry p =>
    simp only [exec, execAskTimerExpiry]
    split
    · exact .next h
    · next r hr =>
      refine Ends.ite (fun hdue => Ends.ite (fun hlt => ?_) fun _ => ?_) fun _ => .next h
      · have hsent : (s.hand0 (.controlRequest p r.id r.watched)).fu.recordsOk := by simpa using h
        have hrecord : (s.hand0 (.controlRequest p r.id r.watched)).fu.record p = some r := by simpa using hr
        refine .next (State.putRecord_recordsOk_of_like hsent hrecord
          (fun hok => ⟨?_, Nat.le_add_left 1 _, hlt, hok.2.2.2⟩) rfl rfl)
        obtain ⟨u, hu, -⟩ := (timerDue_iff ..).1 hdue
        exact iff_of_true rfl (hok.1.1 (by rw [hu]; rfl))
      · exact .next (State.moveRecord_recordsOk_of_record h hr (fun hok => ⟨hok.2.1, hok.2.2.1, trivial⟩) rfl rfl rfl)
  case refusedTimerExpiry p =>
    simp only [exec, execRefusedTimerExpiry]
    split
    · exact .next h
    · next r hr =>
      refine Ends.ite (fun _ => ?_) fun _ => .next h
      exact .next (State.putRecord_recordsOk_of_like h hr
        (fun hok => ⟨hok.1, hok.2.1, hok.2.2.1, hok.2.2.2.1, by simp⟩) rfl rfl)
  case holdOffTimerExpiry p =>
    simp only [exec, execHoldOffTimerExpiry]
    split
    · exact .next h
    · next r hr => exact Ends.ite (fun _ => .next (State.putRecord_recordsOk_of_like h hr id rfl rfl)) fun _ => .next h
  case absenceTimerExpiry p =>
    simp only [exec, execAbsenceTimerExpiry]
    split
    · exact .next h
    · next r hr =>
      refine Ends.ite (fun _ => .next (State.judgeInput_recordsOk ?_)) fun _ => .next h
      exact State.moveRecord_recordsOk_of_record h hr (fun hok => ⟨hok.2.1, hok.2.2.1, trivial⟩) rfl rfl rfl
  -- SR and HU
  case staleTimerExpiry | lostTimerExpiry | repairTimerExpiry | minuteTimerExpiry | headLineStart =>
    simp only [exec, execStaleTimerExpiry, execLostTimerExpiry, execRepairTimerExpiry, execMinuteTimerExpiry,
      execHeadLineStart]
    (repeat' split) <;> simp [State.streamsChanged, h, hjudged]
  all_goals exact absurd rfl hsource

/-- Settles O16: each operation of FU keeps its table in order, so every command does. -/
theorem recordsKept : Obligations.RecordsKept := fun _ _ h hstep =>
  step_keeps (P := fun s => s.fu.recordsOk) (fun _ _ => id) (fun _ => id) (fun c _ h => exec_recordsOk h c) h hstep

end Sys2Proof.Machine
end

section
/-!
PROOF. Every INPUT put into class 1 goes to a source this desk holds (R60, R67): class 1 outside FU, then FU's
operations, none of which makes a source held but the moves to HOLDING, and then the commands.
-/

namespace Sys2Proof.Machine

/-! ### What leaves class 1 and the subscriptions alone (R139, R173) -/

section Class1
variable (s : State)

@[simp] theorem State.hand0_class1_subs (m : Out0) :
    (s.hand0 m).fp.class1 = s.fp.class1 ∧ (s.hand0 m).fp.subs = s.fp.subs := by
  obtain ⟨-, h⟩ | ⟨-, -, h⟩ | ⟨-, -, h⟩ := s.hand0_cases m <;> simp [h]

@[simp] theorem State.handFrameClose_class1_subs (m : Out2) :
    (s.handFrameClose m).fp.class1 = s.fp.class1 ∧ (s.handFrameClose m).fp.subs = s.fp.subs := by
  obtain ⟨-, h⟩ | ⟨-, -, h⟩ | ⟨-, -, h⟩ := s.handFrameClose_cases m <;> simp [h]

@[simp] theorem State.askPresence_class1_subs :
    s.askPresence.fp.class1 = s.fp.class1 ∧ s.askPresence.fp.subs = s.fp.subs := by
  obtain ⟨-, h⟩ | ⟨-, -, -, h⟩ | ⟨-, -, -, h⟩ := s.handPresence_cases <;> simp [State.askPresence, h]

@[simp] theorem State.handTile_class1_subs (t : OutTile) :
    (s.handTile t).fp.class1 = s.fp.class1 ∧ (s.handTile t).fp.subs = s.fp.subs := ⟨rfl, rfl⟩

@[simp] theorem State.enterHalted_class1 : s.enterHalted.fp.class1 = [] := rfl

@[simp] theorem State.refuse_class1 : s.refuse.fp.class1 = [] := rfl

/-! WP and CA (06, 05) -/

@[simp] theorem State.lampsTo_class1_subs (d : Nat) :
    (s.lampsTo d).fp.class1 = s.fp.class1 ∧ (s.lampsTo d).fp.subs = s.fp.subs := by simp [State.lampsTo]

@[simp] theorem State.lampsToHolder_class1_subs :
    s.lampsToHolder.fp.class1 = s.fp.class1 ∧ s.lampsToHolder.fp.subs = s.fp.subs := by
  unfold State.lampsToHolder; split <;> simp

@[simp] theorem State.wpHolderChange_class1_subs (d : Option Nat) :
    (s.wpHolderChange d).fp.class1 = s.fp.class1 ∧ (s.wpHolderChange d).fp.subs = s.fp.subs := by
  unfold State.wpHolderChange; split <;> simp

@[simp] theorem State.wpBusReset_class1_subs :
    s.wpBusReset.fp.class1 = s.fp.class1 ∧ s.wpBusReset.fp.subs = s.fp.subs := by simp [State.wpBusReset]

@[simp] theorem State.wpDetach_class1_subs : s.wpDetach.fp.class1 = s.fp.class1 ∧ s.wpDetach.fp.subs = s.fp.subs := by
  unfold State.wpDetach; dsimp only; split <;> simp

@[simp] theorem State.wpBegin_class1_subs : s.wpBegin.fp.class1 = s.fp.class1 ∧ s.wpBegin.fp.subs = s.fp.subs := by
  unfold State.wpBegin; split <;> simp

@[simp] theorem State.hear_class1_subs (d : Nat) (w : Channels) :
    (s.hear d w).fp.class1 = s.fp.class1 ∧ (s.hear d w).fp.subs = s.fp.subs := by
  unfold State.hear; (repeat' split) <;> simp

@[simp] theorem State.grant_class1_subs (d r : Nat) (i : Byte) :
    (s.grant d r i).fp.class1 = s.fp.class1 ∧ (s.grant d r i).fp.subs = s.fp.subs := by
  simp [State.grant]

@[simp] theorem State.emptySlot_class1_subs :
    s.emptySlot.fp.class1 = s.fp.class1 ∧ s.emptySlot.fp.subs = s.fp.subs := by
  unfold State.emptySlot; dsimp only; split <;> simp

theorem State.makeRoom_class1_subs {s u : State} {r : Nat} (e : s.makeRoom r = some u) :
    u.fp.class1 = s.fp.class1 ∧ u.fp.subs = s.fp.subs := by
  unfold State.makeRoom at e
  (repeat' split at e) <;> simp at e <;> subst e <;> simp

@[simp] theorem State.preempt_class1_subs (x : Slot) (d r : Nat) (i : Byte) :
    (s.preempt x d r i).fp.class1 = s.fp.class1 ∧ (s.preempt x d r i).fp.subs = s.fp.subs := by
  unfold State.preempt
  split
  · next u e => simp [State.makeRoom_class1_subs e]
  · simp

@[simp] theorem State.joinWait_class1_subs (d r : Nat) (i : Byte) :
    (s.joinWait d r i).fp.class1 = s.fp.class1 ∧ (s.joinWait d r i).fp.subs = s.fp.subs := by
  unfold State.joinWait
  split
  · next u e => simp [State.makeRoom_class1_subs e]
  · simp

@[simp] theorem State.request_class1_subs (d : Nat) (i : Byte) :
    (s.request d i).fp.class1 = s.fp.class1 ∧ (s.request d i).fp.subs = s.fp.subs := by
  unfold State.request; dsimp only; (repeat' split) <;> simp

@[simp] theorem State.inputFrom_class1_subs (d : Nat) (q : BitVec 16) (i : InputContent) :
    (s.inputFrom d q i).fp.class1 = s.fp.class1 ∧ (s.inputFrom d q i).fp.subs = s.fp.subs := by
  unfold State.inputFrom State.notHolder; (repeat' split) <;> simp

/-! CU and TS (07) -/

@[simp] theorem State.enterLocked_class1_subs (i : Fin 2) (c : Channel) (m : Meas) :
    (s.enterLocked i c m).fp.class1 = s.fp.class1
      ∧ (s.enterLocked i c m).fp.subs = s.fp.subs := by simp [State.enterLocked]

@[simp] theorem State.settle_class1_subs (i : Fin 2) (c : Channel) :
    (s.settle i c).fp.class1 = s.fp.class1 ∧ (s.settle i c).fp.subs = s.fp.subs := by
  unfold State.settle State.enterUnsupported; (repeat' split) <;> simp

@[simp] theorem State.frameEnd_class1_subs (i : Fin 2) (c : Channel) (m : Meas) :
    (s.frameEnd i c m).fp.class1 = s.fp.class1 ∧ (s.frameEnd i c m).fp.subs = s.fp.subs := by simp [State.frameEnd]

@[simp] theorem State.leaveLocked_class1_subs (i : Fin 2) (c : Channel) :
    (s.leaveLocked i c).fp.class1 = s.fp.class1 ∧ (s.leaveLocked i c).fp.subs = s.fp.subs := by
  simp [State.leaveLocked]

@[simp] theorem State.recomputeUnsupported_class1_subs :
    s.recomputeUnsupported.fp.class1 = s.fp.class1 ∧ s.recomputeUnsupported.fp.subs = s.fp.subs := ⟨rfl, rfl⟩

@[simp] theorem State.loseSync_class1_subs (i : Fin 2) :
    (s.loseSync i).fp.class1 = s.fp.class1 ∧ (s.loseSync i).fp.subs = s.fp.subs := by
  unfold State.loseSync; dsimp only; split <;> simp

@[simp] theorem State.takeSync_class1_subs (i : Fin 2) (n : FrameCounts) :
    (s.takeSync i n).fp.class1 = s.fp.class1 ∧ (s.takeSync i n).fp.subs = s.fp.subs := by
  unfold State.takeSync; dsimp only; (repeat' split) <;> simp

@[simp] theorem State.atSync_class1_subs (i : Fin 2) :
    (s.atSync i).fp.class1 = s.fp.class1 ∧ (s.atSync i).fp.subs = s.fp.subs := by
  unfold State.atSync; split <;> simp

/-! SR (09) -/

@[simp] theorem State.makeCtx_class1 (x : Stream) : (s.makeCtx x).fp.class1 = s.fp.class1 := by
  unfold State.makeCtx; split <;> simp

@[simp] theorem State.removeCtx_class1 (x : Stream) : (s.removeCtx x).fp.class1 = s.fp.class1 := rfl

@[simp] theorem State.requestRepair_class1_subs (c : Ctx) :
    (s.requestRepair c).fp.class1 = s.fp.class1 ∧ (s.requestRepair c).fp.subs = s.fp.subs := by
  simp [State.requestRepair]

@[simp] theorem State.needRepair_class1_subs (x : Stream) :
    (s.needRepair x).fp.class1 = s.fp.class1 ∧ (s.needRepair x).fp.subs = s.fp.subs := by
  unfold State.needRepair; (repeat' split) <;> simp

theorem State.takeSeq_class1_subs {s u : State} {x : Stream} {q : BitVec 16} (e : s.takeSeq x q = some u) :
    u.fp.class1 = s.fp.class1 ∧ u.fp.subs = s.fp.subs := by
  unfold State.takeSeq at e
  (repeat' split at e) <;> simp at e <;> subst e <;> simp

@[simp] theorem State.closeLive_class1_subs (x : Stream) :
    (s.closeLive x).fp.class1 = s.fp.class1 ∧ (s.closeLive x).fp.subs = s.fp.subs := by
  unfold State.closeLive; (repeat' split) <;> simp

@[simp] theorem State.takeEpoch_class1_subs (c : Ctx) (f : CloseContent) :
    (s.takeEpoch c f).fp.class1 = s.fp.class1 ∧ (s.takeEpoch c f).fp.subs = s.fp.subs := by
  simp [State.takeEpoch]

@[simp] theorem State.takeClose_class1_subs (x : Stream) (f : CloseContent) :
    (s.takeClose x f).fp.class1 = s.fp.class1 ∧ (s.takeClose x f).fp.subs = s.fp.subs := by
  unfold State.takeClose; (repeat' split) <;> simp

@[simp] theorem State.takeTile_class1_subs (x : Stream) (p : List Byte) :
    (s.takeTile x p).fp.class1 = s.fp.class1 ∧ (s.takeTile x p).fp.subs = s.fp.subs := by
  unfold State.takeTile; (repeat' split) <;> simp

@[simp] theorem State.tile_class1_subs (m : RxMsg) :
    (s.tile m).fp.class1 = s.fp.class1 ∧ (s.tile m).fp.subs = s.fp.subs := by
  unfold State.tile
  split
  · exact ⟨rfl, rfl⟩
  · next u e => simp [State.takeSeq_class1_subs e]

@[simp] theorem State.close_class1_subs (m : RxMsg) :
    (s.close m).fp.class1 = s.fp.class1 ∧ (s.close m).fp.subs = s.fp.subs := by
  unfold State.close
  split
  · exact ⟨rfl, rfl⟩
  · next u e => simp [State.takeSeq_class1_subs e]

@[simp] theorem State.hearSource_class1_subs (m : RxMsg) :
    (s.hearSource m).fp.class1 = s.fp.class1 ∧ (s.hearSource m).fp.subs = s.fp.subs := by
  simp [State.hearSource]

@[simp] theorem State.takeBySr_class1_subs (m : RxMsg) :
    (s.takeBySr m).fp.class1 = s.fp.class1 ∧ (s.takeBySr m).fp.subs = s.fp.subs := by
  unfold State.takeBySr; split <;> simp

theorem State.foldl_class1 {α : Type} {f : State → α → State} (hf : ∀ u a, (f u a).fp.class1 = u.fp.class1)
    (l : List α) :
    (l.foldl f s).fp.class1 = s.fp.class1 :=
  List.foldlRecOn l f (motive := fun u => u.fp.class1 = s.fp.class1) rfl fun u hu a _ => (hf u a).trans hu

@[simp] theorem State.drainStreams_class1 (l : List Stream) : (s.drainStreams l).fp.class1 = s.fp.class1 :=
  State.foldl_class1 (f := fun s (e : RxEntry) => s.takeBySr e.msg) _ (fun u e => (u.takeBySr_class1_subs e.msg).1) _

@[simp] theorem State.updateCtxs_class1 (l : List Stream) : (s.updateCtxs l).fp.class1 = s.fp.class1 := by
  simp only [State.updateCtxs, State.recomputeLost, State.setCurrent, State.setSA_fp, State.placeAll_frame]
  rw [State.foldl_class1 _ State.makeCtx_class1, State.foldl_class1 _ State.removeCtx_class1]

/-- The arbiter takes at most the oldest INPUT out of class 1 (R174). -/
theorem State.arbiterTake_class1 {m : OutInput} (hm : m ∈ s.arbiterTake.fp.class1) : m ∈ s.fp.class1 := by
  unfold State.arbiterTake at hm
  split at hm
  · exact hm
  · next d r _ h1 =>
    rw [h1]
    exact List.mem_cons_of_mem d hm
  · next d r _ _ _ =>
    cases d <;> exact hm
  · exact hm
  · exact hm

end Class1

/-! ### INPUT handed to sources held (R60, R67) -/

/-- A source this desk holds. -/
def State.holds (s : State) (p : Nat) : Prop := ∃ r ∈ s.fu.records, r.station = p ∧ r.state = .holding

/-- From `s` to `t` the records stayed in order, each INPUT that class 1 has gained goes to a source held in `s`, and
no source held in `t` was not held in `s`. -/
def State.handsFairly (s t : State) : Prop :=
  t.fu.recordsOk ∧ (∀ m ∈ t.fp.class1, m ∈ s.fp.class1 ∨ s.holds m.target) ∧ ∀ p, t.holds p → s.holds p

theorem State.handsFairly_refl {s : State} (h : s.fu.recordsOk) : s.handsFairly s := ⟨h, fun _ => .inl, fun _ => id⟩

theorem State.holds_congr {s t : State} (h : t.fu.records = s.fu.records) (p : Nat) : t.holds p ↔ s.holds p := by
  unfold State.holds
  rw [h]

section Fair
variable {s t : State} (h : s.handsFairly t)
include h

/-- What neither adds to class 1 nor touches the records. -/
theorem State.handsFairly.congr {u : State} (hfu : u.fu = t.fu) (hclass1 : u.fp.class1 = t.fp.class1) :
    s.handsFairly u := by
  unfold State.handsFairly State.holds at *
  rwa [hfu, hclass1]

/-- A record put, with what else of the table does not make a source held. -/
theorem State.handsFairly.put {u : State} {r : SrcRec} (hok : u.fu.recordsOk)
    (hrecords : u.fu.records = (t.fu.put r).records) (hr : r.state = .holding → s.holds r.station)
    (hclass1 : ∀ m ∈ u.fp.class1, m ∈ t.fp.class1 ∨ s.holds m.target) : s.handsFairly u := by
  obtain ⟨-, hsent, hheld⟩ := h
  refine ⟨hok, fun m hm => (hclass1 m hm).elim (hsent m) .inr, fun p => ?_⟩
  rintro ⟨q, hq, rfl, hst⟩
  rw [hrecords, FU.put, List.mem_map] at hq
  obtain ⟨d, hd, rfl⟩ := hq
  by_cases hdr : d.station = r.station
  · rw [if_pos hdr] at hst ⊢
    exact hr hst
  · rw [if_neg hdr] at hst ⊢
    exact hheld _ ⟨d, hd, rfl, hst⟩

/-- The table replaced by one with the same records and order of leaves. -/
theorem State.handsFairly.setFU {f : FU} (hrecords : f.records = t.fu.records) (horder : f.leaveOrder = t.fu.leaveOrder)
    (hqueue : f.queue.length ≤ 16) : s.handsFairly (t.setFU f) := by
  obtain ⟨hok, hsent, hheld⟩ := h
  exact ⟨FU.recordsOk_of_eq hok hrecords horder hqueue, hsent,
    fun p hp => hheld p ((State.holds_congr (s := t) (t := t.setFU f) hrecords p).1 hp)⟩

/-- A record of the table HOLDING. -/
theorem State.handsFairly.held {r : SrcRec} (hr : r ∈ t.fu.records) (hst : r.state = .holding) : s.holds r.station :=
  h.2.2 _ ⟨r, hr, rfl, hst⟩

omit h in
theorem SrcRec.enter_state (r : SrcRec) (st : RecState) (now : Time) : (r.enter st now).state = st := by
  by_cases hsame : r.state = st <;> cases st <;> simp_all [SrcRec.enter]

/-- A move to a state other than HOLDING. -/
theorem State.moveRecord_handsFairly {r : SrcRec} {st : RecState} (hst : st ≠ .holding)
    (hok : (t.moveRecord r st).fu.recordsOk) : s.handsFairly (t.moveRecord r st) :=
  h.put hok (t.moveRecord_table r st).1 (fun hheld => absurd ((r.enter_state st _).symm.trans hheld) hst)
    fun m hm => .inl (by simpa using hm)

theorem State.requestSource_handsFairly (p : Nat) : s.handsFairly (t.requestSource p) := by
  have hok := State.requestSource_recordsOk h.1 p
  cases hr : t.fu.record p with
  | none => simpa [State.requestSource, hr] using h
  | some r =>
    obtain ⟨hask, hstay⟩ := State.requestSource_of_record hr
    by_cases hst : r.state = .idle ∨ r.state = .queued
    · rw [hask hst] at hok ⊢
      have hcounted : s.handsFairly (t.setFU { t.fu with idCounter := t.fu.idCounter + 1 }) :=
        h.setFU rfl rfl h.1.2.2
      exact State.moveRecord_handsFairly (hcounted.congr (by simp) (by simp)) (by decide) hok
    · rw [hstay (by cases hs : r.state <;> simp_all)]
      exact h

theorem State.leaveSent_handsFairly {r : SrcRec} (hr : r.ok) (hheld : s.holds r.station) :
    s.handsFairly (t.leaveSent r) := by
  obtain ⟨-, hdown, hup, hfu⟩ := t.leaveSent_eq r
  refine h.put (r := r.left) (State.leaveSent_recordsOk h.1 hr) (by rw [hfu]) (fun _ => hheld) fun m hm => ?_
  cases hlink : t.fp.linkUp with
  | false =>
    rw [hdown hlink] at hm
    exact .inl hm
  | true =>
    rw [hup hlink] at hm
    obtain hm | hm := List.mem_append.1 hm
    · exact .inl hm
    · rw [List.mem_singleton.1 hm]
      exact .inr hheld

theorem State.runLeave_handsFairly {r : SrcRec} (hr : r.ok) (hheld : s.holds r.station) (k : LeaveKind) :
    s.handsFairly (t.runLeave r k) := by
  have hsent := State.leaveSent_handsFairly h hr hheld
  have hok := State.runLeave_recordsOk h.1 hr k
  cases k with
  | clear => exact hsent
  | release =>
    rw [State.runLeave_release] at hok ⊢
    exact State.moveRecord_handsFairly (hsent.congr (by simp) (by simp [State.sendRelease])) (by decide) hok

theorem State.leave_handsFairly {r : SrcRec} (hr : r ∈ t.fu.records) (hst : r.state = .holding) (k : LeaveKind) :
    s.handsFairly (t.leave r k) := by
  have hok := State.leave_recordsOk h.1 hr hst k
  have hheld := h.held hr hst
  unfold State.leave at hok ⊢
  split at hok
  · rename_i hroom
    rw [if_pos hroom]
    exact State.runLeave_handsFairly h (h.1.1 r hr).1 hheld k
  · rename_i hfull
    rw [if_neg hfull]
    obtain ⟨j, -, -, heq, -⟩ := t.setPending_eq r k
    exact h.put (r := { r with leave := some j }) hok (by rw [heq]; rfl) (fun _ => hheld) fun m hm => .inl
      (by rwa [heq] at hm)

theorem State.releaseSource_handsFairly (p : Nat) : s.handsFairly (t.releaseSource p) := by
  have hok := State.releaseSource_recordsOk h.1 p
  cases hr : t.fu.record p with
  | none => simpa [State.releaseSource, hr] using h
  | some r =>
    obtain ⟨hidle, hsend, hleave⟩ := State.releaseSource_of_record hr
    cases hst : r.state with
    | idle => rw [hidle hst]; exact h
    | asking | queued =>
      rw [hsend (by simp [hst])] at hok ⊢
      exact State.moveRecord_handsFairly (h.congr (by simp) (by simp)) (by decide) hok
    | holding => rw [hleave hst]; exact State.leave_handsFairly h (List.mem_of_find?_eq_some hr) hst _

theorem State.leaveFocus_handsFairly (p : Option Nat) : s.handsFairly (t.leaveFocus p) := by
  unfold State.leaveFocus
  split
  · exact h
  · split
    · exact h
    · split
      · rename_i r hr hst
        exact State.leave_handsFairly h (List.mem_of_find?_eq_some hr) hst _
      · exact h

theorem State.autoRequest_handsFairly (q : Option Nat) : s.handsFairly (t.autoRequest q) := by
  unfold State.autoRequest
  (repeat' split) <;> simp [h, State.requestSource_handsFairly h]

theorem State.focusFrom_handsFairly (p : Option Nat) : s.handsFairly (t.focusFrom p) := by
  have hleft := State.leaveFocus_handsFairly h p
  unfold State.focusFrom State.focusChange
  split
  · exact h
  · dsimp only
    refine State.handsFairly.congr (t := State.autoRequest _ _) ?_ (State.showLamps_frame _).2.2.2.2.2.2.2.2.2.2.2.1
      (congrArg FP.class1 (State.showLamps_frame _).2.2.2.2.2.1)
    refine State.autoRequest_handsFairly ?_ _
    have hemptied : s.handsFairly (((t.leaveFocus p).setFU { (t.leaveFocus p).fu with queue := [] }).setCP
        { (t.leaveFocus p).cp with wheel := 0 }) :=
      (hleft.setFU (f := { (t.leaveFocus p).fu with queue := [] }) rfl rfl (Nat.zero_le _)).congr rfl rfl
    exact hemptied.setFU rfl rfl (Nat.zero_le _)

theorem State.removeRecord_handsFairly {r : SrcRec} (hr : r.ok) (hheld : r.state = .holding → s.holds r.station) :
    s.handsFairly (t.removeRecord r) := by
  have hdropped : s.handsFairly (t.dropRecord r) := by
    unfold State.dropRecord
    split
    · rename_i hst
      split
      · exact State.runLeave_handsFairly h hr (hheld hst) .release
      · exact h.congr (by simp) (by simp [State.sendRelease])
    · exact h.congr (by simp) (by simp [State.sendRelease])
    · exact h
    · exact h
  refine ⟨State.removeRecord_recordsOk h.1 hr, fun m hm => hdropped.2.1 m hm, fun p => ?_⟩
  rintro ⟨q, hq, hst⟩
  exact hdropped.2.2 p ⟨q, (List.mem_filter.1 hq).1, hst⟩

theorem State.fillRecords_handsFairly : s.handsFairly t.fillRecords := by
  refine ⟨State.fillRecords_recordsOk h.1, fun m hm => h.2.1 m hm, fun p => ?_⟩
  rintro ⟨q, hq, hp, hst⟩
  obtain hq | hq := List.mem_append.1 hq
  · obtain ⟨d, hd, rfl⟩ := List.mem_map.1 hq
    exact h.2.2 p ⟨d, hd, hp, hst⟩
  · obtain ⟨d, -, rfl⟩ := List.mem_map.1 hq
    simp [newRecord] at hst

theorem State.updateRecords_handsFairly : s.handsFairly t.updateRecords := by
  have hremoved (l : List SrcRec) : ∀ {u : State}, s.handsFairly u →
      (∀ r ∈ l, r.ok ∧ (r.state = .holding → s.holds r.station)) → s.handsFairly (l.foldl State.removeRecord u) := by
    induction l with
    | nil => exact fun hu _ => hu
    | cons r l ih =>
      intro u hu hl
      obtain ⟨hr, hheld⟩ := hl r List.mem_cons_self
      exact ih (State.removeRecord_handsFairly hu hr hheld) fun q hq => hl q (List.mem_cons_of_mem r hq)
  refine State.fillRecords_handsFairly (hremoved _ h fun r hr => ?_)
  have hmem := (List.mem_filter.1 hr).1
  exact ⟨(h.1.1 r hmem).1, h.held hmem⟩

theorem State.offerSnapshot_handsFairly (k : Snapshot) : s.handsFairly (t.offerSnapshot k) := by
  obtain ⟨hok, hsent, hheld⟩ := h
  refine ⟨State.offerSnapshot_recordsOk hok k, fun m hm => hsent m (by simpa using hm), fun p hp => hheld p ?_⟩
  exact (State.holds_congr (by simp) p).1 hp

theorem State.runLeaves_handsFairly (l : List Nat) : s.handsFairly (State.runLeaves l t) := by
  induction l generalizing t with
  | nil => exact h
  | cons p l ih =>
    unfold State.runLeaves
    split
    · split
      · exact ih h
      · rename_i r hr
        split
        · exact ih h
        · rename_i k hk
          obtain ⟨hok, -⟩ := h.1.record hr
          have hst := hok.2.2.2.1 (by rw [hk]; rfl)
          exact ih (State.runLeave_handsFairly h hok (h.held (List.mem_of_find?_eq_some hr) hst) _)
    · exact h

theorem State.buildInput_handsFairly {r : SrcRec} (hr : t.focusRecord = some r) (hdue : t.inputDue r = true) :
    s.handsFairly (t.buildInput r) := by
  obtain ⟨-, hrecord⟩ := State.focusRecord_eq_some hr
  have hst : r.state = .holding := by
    simp only [State.inputDue, Bool.and_eq_true, decide_eq_true_eq] at hdue
    exact hdue.1.1.1.1.1
  have hheld := h.held (List.mem_of_find?_eq_some hrecord) hst
  refine h.put (r := { r with seq := r.seq + 1, noted := ⟨t.inputSnapshot, t.cp.buttons, t.cp.field⟩ })
    (State.buildInput_recordsOk h.1 hr) (by rw [State.buildInput_fu]; rfl) (fun _ => hheld) fun m hm => ?_
  rw [State.buildInput_fp] at hm
  unfold State.hand1 at hm
  split at hm
  · exact .inl hm
  · obtain hm | hm := List.mem_append.1 hm
    · exact .inl hm
    · rw [List.mem_singleton.1 hm]
      exact .inr hheld

theorem State.judgeInput_handsFairly : s.handsFairly t.judgeInput := by
  have hleaves := State.runLeaves_handsFairly h t.fu.leaveOrder
  unfold State.judgeInput
  dsimp only
  split
  · exact hleaves
  · rename_i r hr
    split
    · rename_i hdue
      exact State.buildInput_handsFairly hleaves hr hdue
    · exact hleaves

/-! ### Layout changes, commands and keys -/

theorem State.changeLayout_handsFairly (n : Nat) : s.handsFairly (t.changeLayout n) := by
  unfold State.changeLayout
  dsimp only
  generalize ((t.sr.ctxs.map Ctx.stream).filter _) = removed
  have hctxs (c : CP) : s.handsFairly (((t.drainStreams removed).setCP c).updateCtxs removed) :=
    h.congr (by simp) (by simp)
  have hfocus (c : CP) (p : Option Nat) := State.focusFrom_handsFairly (State.updateRecords_handsFairly (hctxs c)) p
  exact (hfocus { (t.drainStreams removed).cp with layout := n } t.cp.focusSource).congr (by simp) (by simp)

theorem State.command_handsFairly (c : Command) : s.handsFairly (t.command c) := by
  cases c with
  | select n =>
    exact iteInduction (motive := s.handsFairly) (fun _ => h) fun _ => State.changeLayout_handsFairly h n
  | request =>
    unfold State.command
    dsimp only
    split
    · exact h
    · exact State.requestSource_handsFairly h _
  | release =>
    unfold State.command
    dsimp only
    split
    · exact h
    · exact State.releaseSource_handsFairly h _
  | acknowledge =>
    refine h.congr (by simp [State.command]) ?_
    unfold State.command State.sendAttnClear
    dsimp only
    (repeat' split) <;> simp
  | confine => exact h.congr rfl rfl
  | leave => exact h

theorem State.keysHeard_handsFairly (b : Bool) : s.handsFairly (t.keysHeard b) := by
  have hoffered (k : Snapshot) (e : Bool) : s.handsFairly (t.offered k e) := by
    have hfirst : s.handsFairly (if k = t.ii.passed then t else t.offerSnapshot k) :=
      iteInduction (motive := s.handsFairly) (fun _ => h) fun _ => State.offerSnapshot_handsFairly h k
    unfold State.offered
    dsimp only
    split
    · exact State.offerSnapshot_handsFairly hfirst _
    · exact hfirst
  exact (hoffered _ _).congr rfl rfl

theorem State.rawChanged_handsFairly (b : Bool) : s.handsFairly (t.rawChanged b) := by
  by_cases hraw : t.ii.unionKeys = t.ii.raw
  · rwa [State.rawChanged_of_same b hraw]
  · rw [State.rawChanged_of_ne b hraw]
    exact State.command_handsFairly (State.keysHeard_handsFairly h b) _

theorem State.clearPort_handsFairly (i : Fin 2) (p : HostPort) : s.handsFairly (t.clearPort i p) := by
  have hemptied : s.handsFairly (t.portEmptied i p) := h.congr rfl rfl
  rw [State.clearPort_eq]
  exact State.judgeInput_handsFairly ((State.rawChanged_handsFairly hemptied false).congr rfl rfl)

theorem State.transferFails_handsFairly (i : Fin 2) (x : Transfer) : s.handsFairly (t.transferFails i x) := by
  unfold State.transferFails
  dsimp only
  split
  · exact State.clearPort_handsFairly h i _
  · exact h.congr rfl rfl

theorem State.takeMotion_handsFairly (i : Fin 2) (m : MouseMotion) : s.handsFairly (t.takeMotion i m) := by
  unfold State.takeMotion
  split
  · exact h
  · exact State.judgeInput_handsFairly (State.focusFrom_handsFairly (h.congr (by simp) (by simp)) _)

end Fair
/-! ### What enters HOLDING (R55, R56, R64) -/

/-- FU's judgement leaves a record HOLDING that has no leave pending. -/
theorem State.judgeInput_holds {s : State} {p : Nat} {r : SrcRec} (hr : s.fu.record p = some r)
    (hleave : r.leave = none) (hst : r.state = .holding) : s.judgeInput.holds p := by
  have hkept := State.runLeaves_record hleave s.fu.leaveOrder hr
  have hheld {u : State} {q : SrcRec} (hq : u.fu.record p = some q) (hstate : q.state = .holding) : u.holds p :=
    ⟨q, List.mem_of_find?_eq_some hq, FU.station_of_record hq, hstate⟩
  unfold State.judgeInput
  dsimp only
  split
  · exact hheld hkept hst
  · rename_i d hd
    split
    · rename_i hdue
      have hbuilt : ((State.runLeaves s.fu.leaveOrder s).buildInput d).fu.record p
          = (FU.put (State.runLeaves s.fu.leaveOrder s).fu { d with
              seq := d.seq + 1
              noted := ⟨(State.runLeaves s.fu.leaveOrder s).inputSnapshot,
                (State.runLeaves s.fu.leaveOrder s).cp.buttons,
                (State.runLeaves s.fu.leaveOrder s).cp.field⟩ }).record p := by
        rw [State.buildInput_fu]
        rfl
      rw [FU.record_put, hkept] at hbuilt
      by_cases hp : p = d.station
      · rw [if_pos hp, Option.map_some] at hbuilt
        refine hheld hbuilt ?_
        simp only [State.inputDue, Bool.and_eq_true, decide_eq_true_eq] at hdue
        exact hdue.1.1.1.1.1
      · rw [if_neg hp] at hbuilt
        exact hheld hbuilt hst
    · exact hheld hkept hst

/-- What each INPUT put into class 1 by a command comes to. -/
def State.handsToHeld (s t : State) : Prop :=
  ∀ m ∈ t.fp.class1, m ∉ s.fp.class1 → s.holds m.target ∨ t.holds m.target

theorem State.handsFairly.toHeld {s t : State} (h : s.handsFairly t) : s.handsToHeld t := fun m hm hnew =>
  .inl ((h.2.1 m hm).resolve_left hnew)

/-- A record that has come to HOLDING, and FU's judgement of it. -/
theorem State.entered_handsToHeld {s u : State} {r : SrcRec} (h : s.handsFairly u) (hr : r.fitsFor .holding)
    (hrecord : ∃ q, u.fu.record r.station = some q) (hok : (u.moveRecord r .holding).fu.recordsOk) :
    s.handsToHeld (u.moveRecord r .holding).judgeInput := by
  obtain ⟨q, hq⟩ := hrecord
  have hentered := State.moveRecord_record_same (r := r) .holding hq
  have hjudged := State.judgeInput_holds hentered (SrcRec.enter_leave hr _) (SrcRec.enter_state ..)
  intro m hm hnew
  by_cases htarget : m.target = r.station
  · exact .inr (htarget ▸ hjudged)
  · obtain hm | ⟨d, hd, hst, hheld⟩ := (State.judgeInput_handsFairly (State.handsFairly_refl hok)).2.1 m hm
    · refine .inl ((h.2.1 m ?_).resolve_left hnew)
      simpa using hm
    · refine .inl (h.2.2 _ ?_)
      rw [(u.moveRecord_table r .holding).1, FU.put, List.mem_map] at hd
      obtain ⟨e, he, rfl⟩ := hd
      by_cases hsame : e.station = (r.enter .holding u.now).station
      · rw [if_pos hsame, SrcRec.enter_station] at hst
        exact absurd hst.symm htarget
      · rw [if_neg hsame] at hst hheld
        exact ⟨e, he, hst, hheld⟩

theorem State.putRecord_handsFairly {s u : State} {p : Nat} {q r : SrcRec} (h : s.handsFairly u)
    (hq : u.fu.record p = some q) (hr : q.ok → r.ok) (hleave : r.leave = q.leave) (hst : r.station = q.station)
    (hstate : r.state = q.state) : s.handsFairly (u.putRecord r) :=
  h.put (State.putRecord_recordsOk_of_like h.1 hq hr hleave hst) rfl
    (fun hheld => hst ▸ h.held (List.mem_of_find?_eq_some hq) (hstate ▸ hheld)) fun _ => .inl

/-- A record compared with a PRESENCE, and FU's judgement (R64). -/
theorem State.reconcile_handsToHeld {s u : State} {r : SrcRec} (h : s.handsFairly u)
    (hr : u.fu.record r.station = some r) (i : Option Byte) (w : Bool) :
    s.handsToHeld (u.reconcile r i w).judgeInput := by
  obtain ⟨hok, -⟩ := h.1.record hr
  have hkept := State.reconcile_recordsOk h.1 hr i w
  have hjudged {v : State} (hv : s.handsFairly v) : s.handsToHeld v.judgeInput :=
    (State.judgeInput_handsFairly hv).toHeld
  have hgranted (j : Byte) (hst : r.state ≠ .holding)
    (hheld : (u.moveRecord { r with id := j } .holding).fu.recordsOk) :
      s.handsToHeld (u.moveRecord { r with id := j } .holding).judgeInput :=
    State.entered_handsToHeld (r := { r with id := j }) h ⟨hok.2.1, hok.2.2.1, hst⟩ ⟨r, hr⟩ hheld
  have hsent : s.handsFairly (u.sendRelease r) := h.congr (by simp) (by simp [State.sendRelease])
  unfold State.reconcile at hkept ⊢
  split at hkept <;> rename_i hst
  · exact hjudged hsent
  · exact hjudged (iteInduction (motive := s.handsFairly) (fun _ => hsent) fun _ => h)
  · exact hgranted _ (by simp [hst]) hkept
  · exact hjudged h
  · exact hgranted _ (by simp [hst]) hkept
  · split at hkept <;> rename_i hwaits
    · simp only [hwaits, if_true]
      exact hjudged h
    · simp only [hwaits]
      exact hjudged (State.moveRecord_handsFairly h (by decide) hkept)
  · exact hjudged (State.putRecord_handsFairly h hr id rfl rfl rfl)
  · split at hkept <;> rename_i hwaits <;> simp only [hwaits] <;>
      exact hjudged (State.moveRecord_handsFairly h (by decide) hkept)

/-- A verdict taken, and FU's judgement (R55, R56). -/
theorem State.takeVerdict_handsToHeld {s u : State} {p : Nat} {r : SrcRec} (h : s.handsFairly u)
    (hr : u.fu.record p = some r) (v : Verdict) : s.handsToHeld (u.takeVerdict r v).judgeInput := by
  obtain ⟨hok, -⟩ := h.1.record hr
  have hkept := State.takeVerdict_recordsOk h.1 hr v
  have hstation : u.fu.record r.station = some r := by rw [FU.station_of_record hr, hr]
  have hjudged {w : State} (hw : s.handsFairly w) : s.handsToHeld w.judgeInput :=
    (State.judgeInput_handsFairly hw).toHeld
  have hgranted (hst : r.state ≠ .holding) (hheld : (u.moveRecord r .holding).fu.recordsOk) :
      s.handsToHeld (u.moveRecord r .holding).judgeInput :=
    State.entered_handsToHeld h ⟨hok.2.1, hok.2.2.1, hst⟩ ⟨r, hstation⟩ hheld
  have hmoved {q : SrcRec} {st : RecState} (hst : st ≠ .holding) (hheld : (u.moveRecord q st).fu.recordsOk) :
      s.handsToHeld (u.moveRecord q st).judgeInput := hjudged (State.moveRecord_handsFairly h hst hheld)
  unfold State.takeVerdict at hkept ⊢
  split at hkept <;> rename_i hst
  · exact hgranted (by simp [hst]) hkept
  · exact hgranted (by simp [hst]) hkept
  · exact hmoved (by decide) hkept
  · exact hmoved (by decide) hkept
  · exact hmoved (by decide) hkept
  · exact hmoved (by decide) hkept
  · exact hmoved (by decide) hkept
  · exact hjudged h
  · exact hjudged h
  · exact hjudged h

/-! ### Every command -/

theorem exec_source_class1_subs {c : Instr} (hsource : ofSource c = true) (s : State) :
    Ends (fun t => t.fp.class1 = s.fp.class1 ∧ t.fp.subs = s.fp.subs) (exec c s) := by
  cases c
  -- messages to CA
  case presenceTakenByCa | repairRequestTaken | controlRequestTaken | controlReleaseTaken | inputTaken
      | attnClearTaken =>
    simp only [exec, execPresenceTakenByCa, execRepairRequestTaken, execControlRequestTaken, execControlReleaseTaken,
      execInputTaken, execAttnClearTaken]
    split
    · split
      · simp
      · next m u e =>
        have hu : u.fp.class1 = s.fp.class1 ∧ u.fp.subs = s.fp.subs := by simp [(State.take_eq e).1]
        (repeat' split) <;> simp [hu]
    · simp
  -- CU and TS
  case refreshWindowExpiry | frameSync | validLineEnd | tileRowBegin | tileRowComplete | syncTimerExpiry | tileChoice
      | syncPeriodEnd =>
    simp only [exec, execRefreshWindowExpiry, execFrameSync, execValidLineEnd, execTileRowBegin, execTileRowComplete,
      execSyncTimerExpiry, execTileChoice, execSyncPeriodEnd]
    (repeat' split) <;> simp
  -- CA
  case viewerEntryExpiry | waitEntryExpiry | idleTimerExpiry | notHolderNoteExpiry =>
    simp only [exec, execViewerEntryExpiry, execWaitEntryExpiry, execIdleTimerExpiry, execNotHolderNoteExpiry]
    (repeat' split) <;> simp
  -- WP
  case busPowerAppears | busPowerLost | busReset | setAddress | setConfiguration | setFeatureRemoteWake
      | clearFeatureRemoteWake | getDescriptor | getReport | setIdleOrProtocol | unsupportedStandardRequest
      | keyboardOutputReport | keyboardPoll | pointerPoll | queueAgeOverrun | busIdleSuspend | busResume
      | resumeSignallingEnd =>
    simp only [exec, execBusPowerAppears, execBusPowerLost, execBusReset, execSetAddress, execSetConfiguration,
      execSetFeatureRemoteWake, execClearFeatureRemoteWake, execGetDescriptor, execGetReport, execSetIdleOrProtocol,
      execUnsupportedStandardRequest, execKeyboardOutputReport, execKeyboardPoll, execPointerPoll,
      execQueueAgeOverrun, execBusIdleSuspend, execBusResume, execResumeSignallingEnd]
    (repeat' split) <;> simp
  all_goals exact absurd hsource Bool.false_ne_true

theorem exec_handsToHeld {s : State} (hok : s.fu.recordsOk) (c : Instr) : Ends s.handsToHeld (exec c s) := by
  have h := State.handsFairly_refl hok
  have hsame {u : State} (hu : u.fp.class1 = s.fp.class1) : s.handsToHeld u := fun m hm hnew =>
    absurd (hu ▸ hm) hnew
  have hnone {u : State} (hu : u.fp.class1 = []) : s.handsToHeld u := fun m hm => by simp [hu] at hm
  have hjudged {u : State} (hfu : u.fu = s.fu) (hclass1 : u.fp.class1 = s.fp.class1) : s.handsToHeld u.judgeInput :=
    (State.judgeInput_handsFairly (h.congr hfu hclass1)).toHeld
  by_cases hsource : ofSource c = true
  · exact fun t ht => hsame (exec_source_class1_subs hsource s t ht).1
  cases c
  -- the start, the link and the fabric
  case reset r => exact .next (hnone rfl)
  case imageReadComplete flash =>
    exact exec_imageReadComplete_ends (fun _ => hsame rfl) (fun _ => hnone rfl) (fun b _ _ => hnone rfl)
      (fun b k lead _ _ _ => hsame (by
        rw [((s.headsRead b).acceptDesk_blocks b k lead).2.1, (s.headsRead_accepts b).2.1]))
      (fun b _ _ => hsame rfl) flash
  case listenTimerExpiry =>
    refine exec_listenTimerExpiry_ends (hsame rfl) (fun _ _ => ?_) (fun _ _ => hsame (by simp [State.stagesSet]))
    have hmade : s.handsFairly (s.stagesSet.cp.streams.foldl State.makeCtx s.stagesSet).placeAll :=
      h.congr (by simp) (by
        simp only [State.placeAll_frame]
        rw [State.foldl_class1 _ State.makeCtx_class1]
        rfl)
    have hfocus := State.focusFrom_handsFairly (State.fillRecords_handsFairly hmade) none
    exact (hfocus.congr (by simp [State.beginDesk]) (by simp [State.beginDesk])).toHeld
  case frameReceived fcs f =>
    exact exec_frameReceived_ends (hsame rfl) (fun c => hsame (by simp)) (fun _ => hnone rfl)
      (fun m _ _ => hsame rfl) fcs f
  case linkDown =>
    refine Ends.ite (fun _ => .next ?_) fun _ => .next (hsame rfl)
    have hemptied : s.handsFairly (s.setFP { s.fp.emptied with linkUp := false }) :=
      ⟨hok, fun m hm => by simp [FP.emptied] at hm, fun _ => id⟩
    exact iteInduction (motive := s.handsToHeld) (fun _ => (State.judgeInput_handsFairly hemptied).toHeld) fun _ =>
      hemptied.toHeld
  case linkUp | presenceTimerExpiry =>
    simp only [exec, execLinkUp, execPresenceTimerExpiry]
    (repeat' split) <;> exact .next (hsame (by simp))
  case transmitArbiterTake =>
    refine Ends.ite (fun _ => .next ?_) fun _ => .next (hsame rfl)
    have htaken : s.handsFairly s.arbiterTake :=
      ⟨by simpa using hok, fun m hm => .inl (s.arbiterTake_class1 hm), fun p => (State.holds_congr (by simp) p).1⟩
    exact iteInduction (motive := s.handsToHeld) (fun _ => (State.judgeInput_handsFairly htaken).toHeld) fun _ =>
      htaken.toHeld
  -- messages to FU and SR
  case presenceTakenBySr | tileTaken | frameCloseTaken =>
    simp only [exec, execPresenceTakenBySr, execTileTaken, execFrameCloseTaken]
    refine Ends.ite (fun _ => ?_) fun _ => .next (hsame rfl)
    split
    · exact .next (hsame rfl)
    · next m u e =>
      obtain ⟨rfl, -⟩ := State.take_eq e
      exact .next (by simp [hsame, hjudged])
  case presenceTakenByFu =>
    simp only [exec, execPresenceTakenByFu]
    refine Ends.ite (fun _ => ?_) fun _ => .next (hsame rfl)
    split
    · exact .next (hsame rfl)
    · next m u e =>
      obtain ⟨rfl, -⟩ := State.take_eq e
      have hu : s.handsFairly (s.setFP { s.fp with rx := afterTaking .fu s.fp.rx }) := h.congr rfl rfl
      split
      · exact .next hu.toHeld
      · next r hr =>
        have hput := State.putRecord_handsFairly (r := { r with absence := some s.now, absent := false }) hu hr id rfl
          rfl rfl
        have hstation : s.fu.record r.station = some r := by rw [FU.station_of_record hr]; exact hr
        refine Ends.ite (fun _ => .next hput.toHeld) fun _ => .next (State.reconcile_handsToHeld hput ?_ _ _)
        simp [State.putRecord, FU.record_put, hstation]
  case controlVerdictTaken =>
    simp only [exec, execControlVerdictTaken]
    refine Ends.ite (fun _ => ?_) fun _ => .next (hsame rfl)
    split
    · exact .next (hsame rfl)
    · next m u e =>
      obtain ⟨rfl, -⟩ := State.take_eq e
      have hu : s.handsFairly (s.setFP { s.fp with rx := afterTaking .fu s.fp.rx }) := h.congr rfl rfl
      split
      · exact .next (hsame rfl)
      · split
        · exact .next hu.toHeld
        · next r hr =>
          exact Ends.ite (fun _ => .next (State.takeVerdict_handsToHeld hu hr _)) fun _ => .next hu.toHeld
  case controlWithdrawnTaken =>
    simp only [exec, execControlWithdrawnTaken]
    refine Ends.ite (fun _ => ?_) fun _ => .next (hsame rfl)
    split
    · exact .next (hsame rfl)
    · next m u e =>
      obtain ⟨rfl, -⟩ := State.take_eq e
      have hu : s.handsFairly (s.setFP { s.fp with rx := afterTaking .fu s.fp.rx }) := h.congr rfl rfl
      split
      · exact .next (hsame rfl)
      · split
        · exact .next hu.toHeld
        · next r hr =>
          refine Ends.ite (fun _ => ?_) fun _ => .next hu.toHeld
          split
          · exact .next hu.toHeld
          · next st hst =>
            refine .next (State.judgeInput_handsFairly (State.moveRecord_handsFairly hu ?_
              (State.withdrawn_recordsOk hu.1 hr hst))).toHeld
            obtain rfl | ⟨rfl, -⟩ := withdrawalState_eq_some hst <;> decide
  case lampsTaken =>
    simp only [exec, execLampsTaken]
    refine Ends.ite (fun _ => ?_) fun _ => .next (hsame rfl)
    split
    · exact .next (hsame rfl)
    · next m u e =>
      obtain ⟨rfl, -⟩ := State.take_eq e
      split
      · exact .next (hsame rfl)
      · exact .next (hsame rfl)
  -- II and CP
  case leadSeenTimerExpiry | commandTimerExpiry =>
    exact Ends.ite (fun _ => .next (hsame rfl)) fun _ => .next (hsame rfl)
  case hostDeviceConnect | hostDeviceDisconnect | enumerationComplete | enumerationFailure | transferUnanswered
      | pollTransferFailure | pollAnsweredWithNoData | lampReportComplete | lampRetryExpiry =>
    have hcleared (i : Fin 2) (p : HostPort) : s.handsToHeld (s.clearPort i p) :=
      (State.clearPort_handsFairly h i p).toHeld
    have hfailed (i : Fin 2) (x : Transfer) : s.handsToHeld (s.transferFails i x) :=
      (State.transferFails_handsFairly h i x).toHeld
    simp only [exec, execHostDeviceConnect, execHostDeviceDisconnect, execEnumerationComplete, execEnumerationFailure,
      execTransferUnanswered, execPollTransferFailure, execPollAnsweredWithNoData, execLampReportComplete,
      execLampRetryExpiry]
    (repeat' split) <;> simp [hsame, hcleared, hfailed]
  case keyboardReport =>
    have hchanged {u : State} (hfu : u.fu = s.fu) (hclass1 : u.fp.class1 = s.fp.class1) (b : Bool) :
        s.handsToHeld (u.rawChanged b).judgeInput :=
      (State.judgeInput_handsFairly (State.rawChanged_handsFairly (h.congr hfu hclass1) b)).toHeld
    simp only [exec, execKeyboardReport]
    (repeat' split) <;> simp [hsame, hchanged, State.takeKeys]
  case mouseReport =>
    have hmoved {u : State} (hfu : u.fu = s.fu) (hclass1 : u.fp.class1 = s.fp.class1) (i : Fin 2) (m : MouseMotion) :
        s.handsToHeld (u.takeMotion i m) := (State.takeMotion_handsFairly (h.congr hfu hclass1) i m).toHeld
    simp only [exec, execMouseReport]
    (repeat' split) <;> simp [hsame, hmoved]
  -- FU
  case inputIntervalExpiry =>
    refine Ends.ite (fun _ => .next ?_) fun _ => .next (hsame rfl)
    exact (State.judgeInput_handsFairly (h.setFU (f := { s.fu with interval := none }) rfl rfl hok.2.2)).toHeld
  case askTimerExpiry | refusedTimerExpiry | holdOffTimerExpiry =>
    simp only [exec, execAskTimerExpiry, execRefusedTimerExpiry, execHoldOffTimerExpiry]
    (repeat' split) <;> simp [hsame]
  case absenceTimerExpiry p =>
    simp only [exec, execAbsenceTimerExpiry]
    split
    · exact .next (hsame rfl)
    · next r hr =>
      refine Ends.ite (fun _ => .next ?_) fun _ => .next (hsame rfl)
      refine (State.judgeInput_handsFairly (State.moveRecord_handsFairly h (by decide) ?_)).toHeld
      exact State.moveRecord_recordsOk_of_record hok hr (fun hr => ⟨hr.2.1, hr.2.2.1, trivial⟩) rfl rfl rfl
  -- SR and HU
  case staleTimerExpiry | lostTimerExpiry | repairTimerExpiry =>
    simp only [exec, execStaleTimerExpiry, execLostTimerExpiry, execRepairTimerExpiry]
    (repeat' split) <;> simp [State.streamsChanged, hsame, hjudged]
  case minuteTimerExpiry | headLineStart =>
    simp only [exec, execMinuteTimerExpiry, execHeadLineStart]
    (repeat' split) <;> exact .next (hsame rfl)
  all_goals exact absurd rfl hsource

/-- Settles O8: what a command adds to class 1 goes to a source held before it, or to one it made held. -/
theorem inputGoesToHeldSources : Obligations.InputGoesToHeldSources := fun c _ t hok hexec =>
  exec_handsToHeld hok c t hexec

end Sys2Proof.Machine
end

section
/-!
PROOF. The desk's snapshots and the hotkey machine's timers (R40, R41, R43, R46): ascending key lists and snapshots that
lie within others, a change of the raw snapshot, and then the commands.
-/

namespace Sys2Proof.Machine

/-! ### Ascending key lists (R40) -/

theorem keysOk_iff {l : List Byte} : keysOk l = true ↔ l.length ≤ 6 ∧ l.Pairwise (· < ·) := by
  have hchain (l : List Byte) : ((l.zip l.tail).all fun p => p.1 < p.2) = true ↔ l.IsChain (· < ·) := by
    induction l with
    | nil => simp
    | cons a r ih =>
      cases r with
      | nil => simp
      | cons b r => simpa using fun _ => ih
  simp [keysOk, hchain, List.isChain_iff_pairwise]

theorem insertKey_ascends {k : Byte} : ∀ {l : List Byte}, l.Pairwise (· < ·) → (insertKey k l).Pairwise (· < ·)
  | [], _ => by simp [insertKey]
  | j :: r, h => by
    obtain ⟨hj, hr⟩ := List.pairwise_cons.1 h
    unfold insertKey
    split
    · exact h
    · next hne =>
      split
      · next hlt =>
        refine List.pairwise_cons.2 ⟨fun a ha => ?_, h⟩
        obtain rfl | ha := List.mem_cons.1 ha
        · exact hlt
        · exact BitVec.lt_trans hlt (hj a ha)
      · next hle =>
        refine List.pairwise_cons.2 ⟨fun a ha => ?_, insertKey_ascends hr⟩
        obtain rfl | ha := mem_insertKey.1 ha
        · bv_omega
        · exact hj a ha

theorem foldr_insertKey_ascends {m : List Byte} (h : m.Pairwise (· < ·)) (l : List Byte) :
    (l.foldr insertKey m).Pairwise (· < ·) := by
  induction l with
  | nil => exact h
  | cons k l ih => exact insertKey_ascends ih

theorem Snapshot.union_ascends (a : Snapshot) {b : Snapshot} (h : keysOk b.keys = true) :
    (a.union b).keys.Pairwise (· < ·) := foldr_insertKey_ascends (keysOk_iff.1 h).2 _

theorem length_sortKeys_le (l : List Byte) : (sortKeys l).length ≤ l.length := by
  have hinsert (k : Byte) (l : List Byte) : (insertKey k l).length ≤ l.length + 1 := by
    induction l with
    | nil => simp [insertKey]
    | cons j r ih => unfold insertKey; (repeat' split) <;> simp [ih]
  induction l with
  | nil => simp [sortKeys]
  | cons k l ih => exact (hinsert k (sortKeys l)).trans (Nat.succ_le_succ ih)

/-- An ascending list of keys that stand in six others is in order. -/
theorem keysOk_of_subset {l m : List Byte} (hl : l.Pairwise (· < ·)) (hsub : l ⊆ m) (hm : m.length ≤ 6) :
    keysOk l = true :=
  keysOk_iff.2 ⟨(List.Nodup.subperm (hl.imp BitVec.ne_of_lt) hsub).length_le.trans hm, hl⟩

/-- A report's six slots give a keyboard state in order (R39). -/
theorem reportSnapshot_keysOk (b : List Byte) : keysOk (reportSnapshot b).keys = true := by
  refine keysOk_iff.2 ⟨?_, foldr_insertKey_ascends .nil _⟩
  calc (sortKeys ((keySlots b).filter isKeyCode)).length
      ≤ ((keySlots b).filter isKeyCode).length := length_sortKeys_le _
    _ ≤ (keySlots b).length := List.length_filter_le _ _
    _ ≤ 6 := by simp [keySlots, slice]

/-! ### Snapshots within others (R41) -/

theorem Snapshot.minus_eq_released_iff {a b : Snapshot} : a.minus b = .released
    ↔ (∀ n, a.mods.getLsbD n = true → b.mods.getLsbD n = true) ∧ ∀ k ∈ a.keys, k ∈ b.keys := by
  have hmods : a.mods &&& ~~~b.mods = 0#8 ↔ ∀ n, a.mods.getLsbD n = true → b.mods.getLsbD n = true := by
    refine ⟨fun h n ha => ?_, fun h => ?_⟩
    · have hn := a.mods.lt_of_getLsbD ha
      have hbit := congrArg (fun m : Byte => m.getLsbD n) h
      simpa [ha, hn] using hbit
    · ext n hn
      have hbit := h n
      simp only [BitVec.getLsbD_eq_getElem hn] at hbit
      simpa using hbit
  simp [Snapshot.minus, Snapshot.released, hmods]

theorem Snapshot.inter_minus_right (a b : Snapshot) : (a.inter b).minus b = .released := by
  refine Snapshot.minus_eq_released_iff.2 ⟨fun n h => ?_, fun k h => ?_⟩
  · simp [Snapshot.inter] at h; exact h.2
  · simp [Snapshot.inter] at h; exact h.2

/-- A snapshot lies within what was suppressed and what it newly presses, if what it keeps was suppressed. -/
theorem Snapshot.minus_joined {new old sup : Snapshot} (h : (new.inter old).minus sup = .released) :
    new.minus ((sup.union (new.minus old)).inter new) = .released := by
  obtain ⟨hmods, hkeys⟩ := Snapshot.minus_eq_released_iff.1 h
  refine Snapshot.minus_eq_released_iff.2 ⟨fun n hn => ?_, fun k hk => ?_⟩
  · have hw := new.mods.lt_of_getLsbD hn
    have hkept := hmods n
    cases hold : old.mods.getLsbD n <;>
      simp_all [Snapshot.inter, Snapshot.union, Snapshot.minus]
  · have hkept := hkeys k
    by_cases hold : k ∈ old.keys
    · simp_all [Snapshot.inter, Snapshot.mem_union_keys]
    · simp_all [Snapshot.inter, Snapshot.mem_union_keys, Snapshot.minus]

/-! ### The intake between a port's change and the raw snapshot's (R40, R41, R43) -/

/-- The snapshots and timers of the desk, but that the raw snapshot has yet to follow the ports' keyboard states. -/
def II.readyToHear (i : II) : Prop :=
  keysOk i.unionKeys.keys = true ∧ keysOk i.ports.zero.keys.keys = true ∧ keysOk i.ports.one.keys.keys = true
    ∧ i.suppressed.minus i.raw = .released ∧ i.passed = i.raw.minus i.suppressed
    ∧ (i.hotkey = .command → i.passed = .released) ∧ i.timersOk

/-- The snapshots and timers of the desk. -/
def II.inOrder (i : II) : Prop := i.snapshotsOk ∧ i.timersOk

theorem II.inOrder_iff {i : II} : i.inOrder ↔ i.readyToHear ∧ i.raw = i.unionKeys := by
  unfold II.inOrder II.snapshotsOk II.readyToHear
  constructor
  · rintro ⟨⟨hraw, hkeys, hzero, hone, hsup, hpassed, hcommand⟩, htimers⟩
    exact ⟨⟨hraw ▸ hkeys, hzero, hone, hsup, hpassed, hcommand, htimers⟩, hraw⟩
  · rintro ⟨⟨hkeys, hzero, hone, hsup, hpassed, hcommand, htimers⟩, hraw⟩
    exact ⟨⟨hraw, hraw ▸ hkeys, hzero, hone, hsup, hpassed, hcommand⟩, htimers⟩

/-- Both read nothing of the shown lamps and the lamp reports in flight. -/
theorem II.inOrder_of_sansFlights_eq {i j : II} (e : j.sansFlights = i.sansFlights) (h : i.inOrder) : j.inOrder := by
  obtain ⟨hraw, hsup, hpassed, hhotkey, -, hlead, hcommand, hports⟩ := II.eq_of_sansFlights_eq e
  have hkeys (k : Fin 2) : (j.ports.get k).keys = (i.ports.get k).keys := (HostPort.eq_of_sansFlight_eq (hports k)).2.1
  have hzero : j.ports.zero.keys = i.ports.zero.keys := hkeys 0
  have hone : j.ports.one.keys = i.ports.one.keys := hkeys 1
  simpa [II.inOrder, II.snapshotsOk, II.timersOk, II.unionKeys, hraw, hsup, hpassed, hhotkey, hlead, hcommand, hzero,
    hone] using h

theorem II.keys_get {i : II} (h : i.readyToHear) (k : Fin 2) : keysOk (i.ports.get k).keys.keys = true := by
  obtain ⟨-, hzero, hone, -⟩ := h
  match k with
  | 0 => exact hzero
  | 1 => exact hone

/-- A port may take any keyboard state in order whose union with the other port's has six codes at most (R40). -/
theorem II.readyToHear_set {i : II} (h : i.readyToHear) (k : Fin 2) (p : HostPort) (hp : keysOk p.keys.keys = true)
    {m : List Byte} (hm : m.length ≤ 6) (hown : p.keys.keys ⊆ m) (hother : (i.ports.get (1 - k)).keys.keys ⊆ m) :
    II.readyToHear { i with ports := i.ports.set k p } := by
  obtain ⟨-, hzero, hone, hrest⟩ := h
  have hjoined {a b : Snapshot} (hb : keysOk b.keys = true) (ha : a.keys ⊆ m) (hbm : b.keys ⊆ m) :
      keysOk (a.union b).keys = true :=
    keysOk_of_subset (a.union_ascends hb)
      (fun j hj => (Snapshot.mem_union_keys.1 hj).elim (fun hj => ha hj) fun hj => hbm hj) hm
  match k with
  | 0 => exact ⟨hjoined hone hown hother, hp, hone, hrest⟩
  | 1 => exact ⟨hjoined hp hother hown, hzero, hp, hrest⟩

theorem Snapshot.released_keysOk : keysOk Snapshot.released.keys = true := rfl

/-- A port's keys may always be released. -/
theorem II.readyToHear_released {i : II} (h : i.readyToHear) (k : Fin 2) {p : HostPort} (hp : p.keys = .released) :
    II.readyToHear { i with ports := i.ports.set k p } :=
  II.readyToHear_set h k p (by rw [hp]; rfl) (keysOk_iff.1 (II.keys_get h (1 - k))).1 (by simp [hp, Snapshot.released])
    fun _ => id

/-- And a port may take any record with the keys it has. -/
theorem II.readyToHear_put {i : II} (h : i.readyToHear) (k : Fin 2) {p : HostPort}
    (hp : p.keys = (i.ports.get k).keys) : II.readyToHear { i with ports := i.ports.set k p } := by
  obtain ⟨hunion, hzero, hone, hrest⟩ := h
  match k with
  | 0 =>
    have hkeys : p.keys = i.ports.zero.keys := hp
    refine ⟨?_, ?_, hone, hrest⟩
    · simpa [II.unionKeys, Pair.set, hkeys] using hunion
    · simpa [Pair.set, hkeys] using hzero
  | 1 =>
    have hkeys : p.keys = i.ports.one.keys := hp
    refine ⟨?_, hzero, ?_, hrest⟩
    · simpa [II.unionKeys, Pair.set, hkeys] using hunion
    · simpa [Pair.set, hkeys] using hone

/-- A report is taken with at most six codes in the union, or leaves the port's keys (R39, R40). -/
theorem II.readyToHear_report {i : II} (h : i.readyToHear) (k : Fin 2) (b : List Byte) :
    II.readyToHear { i with ports := i.ports.set k (i.portAfter k b) } := by
  cases hroll : i.rollsOver k b with
  | true => exact II.readyToHear_put h k (by simp [II.portAfter, hroll])
  | false =>
    have hmax : ((reportSnapshot b).union (i.ports.get (1 - k)).keys).keys.length ≤ 6 := by
      by_contra hgt
      have hover : i.rollsOver k b = true := Bool.or_eq_true_iff.2 (.inr (decide_eq_true (Nat.not_le.1 hgt)))
      exact absurd hover (by simp [hroll])
    have hkeys : (i.portAfter k b).keys = reportSnapshot b := by simp [II.portAfter, hroll]
    refine II.readyToHear_set h k _ (by rw [hkeys]; exact reportSnapshot_keysOk b) hmax (fun j hj => ?_) fun j hj => ?_
    · exact Snapshot.mem_union_keys.2 (.inl (by rwa [hkeys] at hj))
    · exact Snapshot.mem_union_keys.2 (.inr hj)

/-! ### A change of the raw snapshot -/

section Heard
variable {i : II} (h : i.readyToHear) (consumed : Bool) (now : Time)
include h

/-- The suppressed set leaves nothing to pass in COMMAND, nor when a change enters it (R41, R42, R46). -/
theorem II.keysHeard_nothing_left (hc : i.hotkey = .command ∨ (i.keysHeard consumed now).hotkey = .command) :
    i.unionKeys.minus (i.keysHeard consumed now).suppressed = .released := by
  obtain ⟨-, -, -, -, hpassed, hcommand, -⟩ := h
  rw [II.keysHeard_suppressed]
  by_cases hold : i.hotkey = .command
  · rw [if_pos (.inl hold)]
    refine Snapshot.minus_joined (Snapshot.minus_eq_released_iff.2 ?_)
    have hraw : i.raw.minus i.suppressed = .released := hpassed ▸ hcommand hold
    obtain ⟨hmods, hkeys⟩ := Snapshot.minus_eq_released_iff.1 hraw
    refine ⟨fun n hn => hmods n ?_, fun k hk => hkeys k ?_⟩
    · simp [Snapshot.inter] at hn; exact hn.2
    · simp [Snapshot.inter] at hk; exact hk.2
  · have henters : i.entersCommand (i.rawChange consumed) = true := by
      have hiff := II.hotkeyAfter_eq_command_iff (i := (i.takeRaw i.unionKeys consumed).passOn)
        (c := i.rawChange consumed) now (by simpa)
      simpa [II.entersCommand] using hiff.1 (hc.resolve_left hold)
    have hnew : (i.rawChange consumed).new = .released := by
      simp [II.entersCommand, RawChange.completesTap] at henters
      exact henters.2.1
    cases consumed with
    | true =>
      have hkept : i.unionKeys.inter i.raw = .released := hnew
      rw [if_pos (.inr rfl)]
      exact Snapshot.minus_joined (by rw [hkept, Snapshot.released_minus])
    | false =>
      have hnone : i.unionKeys = .released := hnew
      rw [hnone, Snapshot.released_minus]

theorem II.keysHeard_timersOk : (i.keysHeard consumed now).timersOk := by
  obtain ⟨-, -, -, -, -, -, hlead, hcommand⟩ := h
  have hbefore : (i.takeRaw i.unionKeys consumed).passOn.timersOk := by simpa [II.timersOk] using ⟨hlead, hcommand⟩
  have hafter {j : II} (hj : j.timersOk) (c : RawChange) : (j.hotkeyAfter c now).timersOk := by
    obtain ⟨hlead, hcommand⟩ := hj
    cases hk : j.hotkey with
    | normal =>
      rw [II.hotkeyAfter_of_normal _ hk]
      split <;> simp_all [II.timersOk]
    | leadSeen =>
      rw [II.hotkeyAfter_of_leadSeen _ hk]
      (repeat' split) <;> simp_all [II.timersOk]
    | command =>
      rw [II.hotkeyAfter_of_command _ hk]
      split <;> simp_all [II.timersOk]
  exact hafter hbefore _

theorem II.keysHeard_inOrder : (i.keysHeard consumed now).inOrder := by
  have htimers := II.keysHeard_timersOk h consumed now
  have hleft := II.keysHeard_nothing_left h consumed now
  obtain ⟨hunion, hzero, hone, -, hpassed, hcommand, -⟩ := h
  obtain ⟨hports, hraw, -⟩ := i.keysHeard_frame consumed now
  have hsame : (i.keysHeard consumed now).unionKeys = i.unionKeys := by simp [II.unionKeys]
  have hpassed : (i.keysHeard consumed now).passed = i.unionKeys.minus (i.keysHeard consumed now).suppressed := by
    by_cases hold : i.hotkey = .command
    · rw [II.keysHeard_passed_of_command _ _ hold, hcommand hold, hleft (.inl hold)]
    · exact II.keysHeard_passed _ _ hold
  refine II.inOrder_iff.2 ⟨⟨?_, ?_, ?_, ?_, ?_, ?_, htimers⟩, by rw [hsame, hraw]⟩
  · rwa [hsame]
  · rwa [hports]
  · rwa [hports]
  · rw [II.keysHeard_suppressed, hraw, Snapshot.inter_minus_right]
  · rw [hraw, hpassed]
  · intro hc
    rw [hpassed, hleft (.inr hc)]

end Heard

theorem State.rawChanged_inOrder {s : State} (h : s.ii.readyToHear) (consumed : Bool) :
    (s.rawChanged consumed).ii.inOrder := by
  by_cases hraw : s.ii.unionKeys = s.ii.raw
  · rw [State.rawChanged_of_same consumed hraw]
    exact II.inOrder_iff.2 ⟨h, hraw.symm⟩
  · rw [State.rawChanged_of_ne consumed hraw]
    refine II.inOrder_of_sansFlights_eq (State.command_sansFlights ..) ?_
    simpa using II.keysHeard_inOrder h consumed s.now

section Keys
variable {s : State} (h : s.ii.inOrder)
include h

theorem State.judgeInput_inOrder : s.judgeInput.ii.inOrder :=
  II.inOrder_of_sansFlights_eq s.judgeInput_ports_conds.1 h

theorem State.clearPort_inOrder (i : Fin 2) {p : HostPort} (hp : p.keys = .released) :
    (s.clearPort i p).ii.inOrder := by
  rw [State.clearPort_eq]
  refine State.judgeInput_inOrder ?_
  have hready : (s.portEmptied i p).ii.readyToHear := by
    simpa using II.readyToHear_released (II.inOrder_iff.1 h).1 i hp
  simpa [State.recomputeDevices] using State.rawChanged_inOrder hready false

theorem State.putPort_inOrder (i : Fin 2) {p : HostPort} (hp : p.keys = (s.ii.ports.get i).keys) :
    (s.putPort i p).ii.inOrder := by
  obtain ⟨hready, hraw⟩ := II.inOrder_iff.1 h
  refine II.inOrder_iff.2 ⟨II.readyToHear_put hready i hp, hraw.trans (II.unionKeys_congr fun k => ?_)⟩
  have hget : ((s.putPort i p).ii.ports.get k).keys = ((s.ii.ports.set i p).get k).keys := rfl
  rw [hget, Pair_get_set]
  split
  · next hk => rw [hk, hp]
  · rfl

theorem State.transferFails_inOrder (i : Fin 2) (x : Transfer) : (s.transferFails i x).ii.inOrder := by
  unfold State.transferFails
  refine iteInduction (motive := fun u : State => u.ii.inOrder) (fun _ => ?_) fun _ => ?_
  · exact State.clearPort_inOrder h i rfl
  · refine State.putPort_inOrder h i ?_
    unfold HostPort.failed
    dsimp only
    split <;> rfl

theorem State.enumerationFails_inOrder (i : Fin 2) : (s.enumerationFails i).ii.inOrder := by
  unfold State.enumerationFails
  refine iteInduction (motive := fun u : State => u.ii.inOrder) (fun _ => ?_) fun _ => ?_
  · simpa [State.unsupportedPort] using State.putPort_inOrder (p := { s.ii.ports.get i with
      attempts := (s.ii.ports.get i).attempts + 1, state := .unsupported }) h i rfl
  · exact State.putPort_inOrder h i rfl

end Keys

/-- At the end of either timer the machine returns to NORMAL, and the other timer does not run (R45, R46). -/
theorem II.inOrder_of_leadSeen_end {i : II} (h : i.inOrder) (hrun : i.leadSeen.isSome = true) :
    II.inOrder { i with hotkey := .normal, leadSeen := none } := by
  obtain ⟨⟨hraw, hkeys, hzero, hone, hsup, hpassed, -⟩, hlead, hcommand⟩ := h
  have hstate := hlead.1 hrun
  exact ⟨⟨hraw, hkeys, hzero, hone, hsup, hpassed, by simp⟩, by simp, by simpa [hstate] using hcommand⟩

theorem II.inOrder_of_command_end {i : II} (h : i.inOrder) (hrun : i.command.isSome = true) :
    II.inOrder { i with hotkey := .normal, command := none } := by
  obtain ⟨⟨hraw, hkeys, hzero, hone, hsup, hpassed, -⟩, hlead, hcommand⟩ := h
  have hstate := hcommand.1 hrun
  exact ⟨⟨hraw, hkeys, hzero, hone, hsup, hpassed, by simp⟩, by simpa [hstate] using hlead, by simp⟩

theorem HostPort.offerLamps_keys (p : HostPort) (v : Lamps) : (p.offerLamps v).keys = p.keys := by
  obtain ⟨-, hkeys, -⟩ := HostPort.eq_of_sansFlight_eq (p.sansFlight_offerLamps v)
  exact hkeys

section Taken
variable (s : State)

@[simp] theorem State.judgeAtDesk_sansFlights : s.judgeAtDesk.ii.sansFlights = s.ii.sansFlights := by
  unfold State.judgeAtDesk; split <;> simp

@[simp] theorem State.reconcile_sansFlights (r : SrcRec) (i : Option Byte) (w : Bool) :
    (s.reconcile r i w).ii.sansFlights = s.ii.sansFlights := by
  unfold State.reconcile; (repeat' split) <;> simp

@[simp] theorem State.takeVerdict_sansFlights (r : SrcRec) (v : Verdict) :
    (s.takeVerdict r v).ii.sansFlights = s.ii.sansFlights := by
  unfold State.takeVerdict; (repeat' split) <;> simp

@[simp] theorem State.takeMotion_sansFlights (i : Fin 2) (m : MouseMotion) :
    (s.takeMotion i m).ii.sansFlights = s.ii.sansFlights := by
  unfold State.takeMotion; split <;> simp

end Taken

theorem II.reset_inOrder : II.reset.inOrder := by
  refine II.inOrder_iff.2 ⟨?_, rfl⟩
  simp [II.readyToHear, II.timersOk, II.reset, HostPort.reset, II.unionKeys, Snapshot.union, Snapshot.released,
    Snapshot.minus, keysOk]

theorem State.beginDesk_inOrder {s : State} (h : s.ii.inOrder) : s.beginDesk.ii.inOrder := by
  have hkept : ((s.cp.streams.foldl State.makeCtx s).placeAll.fillRecords.focusFrom none).ii.inOrder :=
    II.inOrder_of_sansFlights_eq (by simp) h
  have hkeys (p : HostPort) : p.power.keys = p.keys := rfl
  simpa [State.beginDesk, II.inOrder, II.snapshotsOk, II.timersOk, II.unionKeys, hkeys] using hkept

/-! ### Every command -/

theorem exec_inOrder {s : State} (h : s.ii.inOrder) (c : Instr) : Ends (fun t => t.ii.inOrder) (exec c s) := by
  by_cases hsource : ofSource c = true
  · intro t ht
    obtain ⟨hii, -⟩ := exec_sameDesk_of_source hsource s t ht
    rwa [hii]
  have hkept {u : State} (e : u.ii.sansFlights = s.ii.sansFlights) : u.ii.inOrder := II.inOrder_of_sansFlights_eq e h
  cases c
  -- the start, the link and the fabric
  case reset r => exact .next (by simpa [execReset, State.reset] using II.reset_inOrder)
  case imageReadComplete flash =>
    have hlead (lead : Lead) : II.inOrder { s.ii with lead := lead } := h
    exact exec_imageReadComplete_ends (fun _ => h) (by simp [h]) (by simp [h])
      (fun b k lead _ _ _ => by simpa [State.acceptDesk] using hlead lead) (by simp [h]) flash
  case listenTimerExpiry =>
    refine exec_listenTimerExpiry_ends h (fun _ _ => ?_) (by simp [h])
    simpa using State.beginDesk_inOrder (s := s.stagesSet) (by simpa using h)
  case frameReceived fcs f => exact exec_frameReceived_ends h (by simp [h]) (by simp [h]) (by simp [h]) fcs f
  case linkUp | linkDown | transmitArbiterTake | presenceTimerExpiry =>
    simp only [exec, execLinkUp, execLinkDown, execTransmitArbiterTake, execPresenceTimerExpiry]
    (repeat' split) <;> simp [hkept]
  -- messages to FU and SR
  case presenceTakenByFu | presenceTakenBySr | tileTaken | frameCloseTaken | controlVerdictTaken | controlWithdrawnTaken
      | lampsTaken =>
    simp only [exec, execPresenceTakenByFu, execPresenceTakenBySr, execTileTaken, execFrameCloseTaken,
      execControlVerdictTaken, execControlWithdrawnTaken, execLampsTaken]
    split
    · split
      · simp [h]
      · next m u e =>
        obtain ⟨rfl, -⟩ := State.take_eq e
        (repeat' split) <;> simp [hkept]
    · simp [h]
  -- II
  case hostDeviceConnect i => exact Ends.ite (fun _ => .next (State.putPort_inOrder h i rfl)) fun _ => .next h
  case hostDeviceDisconnect i => exact Ends.ite (fun _ => .next h) fun _ => .next (State.clearPort_inOrder h i rfl)
  case enumerationComplete i l =>
    refine Ends.ite (fun _ => Ends.ite (fun _ => .next ?_) fun _ => .next ?_) fun _ => .next h
    · simpa [State.unsupportedPort] using State.putPort_inOrder (p := { s.ii.ports.get i with
        keyboard := servedOf .bootKeyboard 0 l, mouse := servedOf .bootMouse 0 l, state := .unsupported }) h i rfl
    · exact State.putPort_inOrder h i (by rw [HostPort.offerLamps_keys])
  case enumerationFailure i => exact Ends.ite (fun _ => .next (State.enumerationFails_inOrder h i)) fun _ => .next h
  case transferUnanswered i x =>
    exact Ends.ite (fun _ => .next (State.enumerationFails_inOrder h i)) fun _ =>
      Ends.ite (fun _ => .next (State.transferFails_inOrder h i x)) fun _ => .next h
  case pollTransferFailure i x =>
    exact Ends.ite (fun _ => .next (State.transferFails_inOrder h i x)) fun _ => .next h
  case pollAnsweredWithNoData i x => exact Ends.ite (fun _ => .next (State.putPort_inOrder h i rfl)) fun _ => .next h
  case lampReportComplete i =>
    simp only [exec, execLampReportComplete]
    split
    · exact .next h
    · exact .next (State.putPort_inOrder h i (by rw [HostPort.offerLamps_keys]; rfl))
  case lampRetryExpiry i =>
    exact Ends.ite (fun _ => Ends.ite (fun _ => .next (State.putPort_inOrder h i rfl)) fun _ =>
      .next (State.putPort_inOrder h i rfl)) fun _ => .next h
  case keyboardReport i l =>
    have hready : ∀ b, (s.reportHeard i b).ii.readyToHear := fun b => by
      simpa using II.readyToHear_report (II.inOrder_iff.1 h).1 i b
    by_cases hserved : (s.ii.ports.get i).state = .polling ∧ (s.ii.ports.get i).keyboard.isSome = true
    · obtain hlen | hlen := Nat.lt_or_ge l.length 8
      · rw [exec_keyboardReport_of_short hserved.1 hserved.2 hlen]
        exact .next (State.putPort_inOrder h i rfl)
      · rw [exec_keyboardReport_of_whole hserved.1 hserved.2 hlen]
        exact .next (State.judgeInput_inOrder (State.rawChanged_inOrder (hready _) _))
    · simpa [exec, execKeyboardReport, hserved] using h
  case leadSeenTimerExpiry =>
    refine Ends.ite (fun hdue => .next ?_) fun _ => .next h
    obtain ⟨u, hu, -⟩ := (timerDue_iff ..).1 hdue
    exact II.inOrder_of_leadSeen_end h (by rw [hu]; rfl)
  case commandTimerExpiry =>
    refine Ends.ite (fun hdue => .next ?_) fun _ => .next h
    obtain ⟨u, hu, -⟩ := (timerDue_iff ..).1 hdue
    exact II.inOrder_of_command_end h (by rw [hu]; rfl)
  case mouseReport i l =>
    have hport : (s.putPort i (s.ii.ports.get i).answered).ii.inOrder := State.putPort_inOrder h i rfl
    have hmoved {u : State} (e : u.ii.sansFlights = (s.putPort i (s.ii.ports.get i).answered).ii.sansFlights) :
        u.ii.inOrder := II.inOrder_of_sansFlights_eq e hport
    simp only [exec, execMouseReport]
    (repeat' split) <;> simp [hmoved, h]
  -- FU
  case inputIntervalExpiry | askTimerExpiry | refusedTimerExpiry | absenceTimerExpiry | holdOffTimerExpiry =>
    simp only [exec, execInputIntervalExpiry, execAskTimerExpiry, execRefusedTimerExpiry, execAbsenceTimerExpiry,
      execHoldOffTimerExpiry]
    (repeat' split) <;> simp [hkept]
  -- SR and HU
  case staleTimerExpiry | lostTimerExpiry | repairTimerExpiry | minuteTimerExpiry | headLineStart =>
    simp only [exec, execStaleTimerExpiry, execLostTimerExpiry, execRepairTimerExpiry, execMinuteTimerExpiry,
      execHeadLineStart]
    (repeat' split) <;> simp [State.streamsChanged, hkept]
  all_goals exact absurd rfl hsource

/-- Settles O17: a change of a port's keys leaves the intake ready to hear it, and what it hears puts it in order. -/
theorem snapshotsKept : Obligations.SnapshotsKept := fun _ _ hsnapshots htimers hstep =>
  step_keeps (P := fun s => s.ii.inOrder) (fun _ _ => id) (fun _ => id) (fun c _ h => exec_inOrder h c)
    ⟨hsnapshots, htimers⟩ hstep

end Sys2Proof.Machine
end

section
/-!
PROOF. The pointer stays in exactly one VALID head, with its carries and push in range (R2, R3, R16): the heads as the
image gives them, the move, FU's work on the wheel sum, and then the commands.
-/

namespace Sys2Proof.Machine

/-! ### The heads of an image (R2, R3) -/

/-- VALID heads have a size that R2 allows, and no two share a pixel (R2, R3). -/
def headsApart (q : Quad HeadRec) : Prop :=
  (∀ a : Fin 4, (q.get a).validity = .valid →
      640 ≤ (q.get a).w ∧ (q.get a).w ≤ 2560 ∧ 480 ≤ (q.get a).h ∧ (q.get a).h ≤ 1600)
    ∧ ∀ a b : Fin 4, (q.get a).validity = .valid → (q.get b).validity = .valid →
        (q.get a).overlaps (q.get b) = true → a = b

theorem HeadRec.overlaps_iff (a b : HeadRec) : a.overlaps b = true
    ↔ a.cx < b.cx + b.w ∧ b.cx < a.cx + a.w ∧ a.cy < b.cy + b.h ∧ b.cy < a.cy + a.h := by
  simp [HeadRec.overlaps, and_assoc]

theorem HeadRec.overlaps_comm (a b : HeadRec) : a.overlaps b = b.overlaps a := by
  rw [Bool.eq_iff_iff, HeadRec.overlaps_iff, HeadRec.overlaps_iff]
  omega

theorem HeadRec.overlaps_of_contains {a b : HeadRec} {x y : Nat} (ha : a.contains x y = true)
    (hb : b.contains x y = true) : a.overlaps b = true := by
  rw [HeadRec.contains_iff] at ha hb
  rw [HeadRec.overlaps_iff]
  omega

/-- What makes a head VALID (R2, R3). -/
theorem judgeHead_of_valid {modes : List ModeEntry} {lower : List HeadRec} {mode cx cy : Nat}
    (h : (judgeHead modes lower mode cx cy).validity = .valid) :
    (640 ≤ (judgeHead modes lower mode cx cy).w ∧ (judgeHead modes lower mode cx cy).w ≤ 2560
        ∧ 480 ≤ (judgeHead modes lower mode cx cy).h ∧ (judgeHead modes lower mode cx cy).h ≤ 1600)
      ∧ ∀ p ∈ lower, p.validity = .valid → (judgeHead modes lower mode cx cy).overlaps p = false := by
  unfold judgeHead at h ⊢
  dsimp only at h ⊢
  split at h
  · cases h
  · rename_i hmode
    split at h
    · rename_i hvalid
      rw [if_neg hmode, if_pos hvalid]
      simp only [Bool.and_eq_true, Bool.not_eq_true', List.any_eq_false, decide_eq_true_eq, ModeEntry.usable] at hvalid
      refine ⟨by dsimp only; omega, fun p hp hv => ?_⟩
      have hapart := hvalid.2 p hp
      simpa [hv, HeadRec.overlaps] using hapart
    · cases h

/-- A head is judged against those of lower index (R3). -/
theorem readHeads_get_lower (b : List Byte) (k : Fin 4) : (readHeads b).get k
    = readHead b ((headNumbers.take k.val).map (readHeads b).get) k.val := by
  match k with
  | 0 | 1 | 2 | 3 => rfl

theorem mem_lowerHeads : ∀ {i k : Fin 4}, i < k → i ∈ headNumbers.take k.val := by decide

theorem readHeads_apart (b : List Byte) : headsApart (readHeads b) := by
  have hjudged (k : Fin 4) (hk : ((readHeads b).get k).validity = .valid) :=
    judgeHead_of_valid ((readHeads_get_lower b k).symm ▸ hk : (readHead b _ k.val).validity = .valid)
  have hlower (i k : Fin 4) (hlt : i < k) (hi : ((readHeads b).get i).validity = .valid)
      (hk : ((readHeads b).get k).validity = .valid) :
        ((readHeads b).get k).overlaps ((readHeads b).get i) = false := by
    have hmem : i ∈ headNumbers.take k.val := mem_lowerHeads hlt
    rw [readHeads_get_lower b k]
    exact (hjudged k hk).2 _ (List.mem_map_of_mem hmem) hi
  refine ⟨fun k hk => ?_, fun i k hi hk hover => ?_⟩
  · rw [readHeads_get_lower b k]
    exact (hjudged k hk).1
  · obtain hlt | heq | hlt := lt_trichotomy i k
    · rw [HeadRec.overlaps_comm, hlower i k hlt hi hk] at hover
      cases hover
    · exact heq
    · rw [hlower k i hlt hk hi] at hover
      cases hover

/-! ### Where the pointer is (R3, R16) -/

/-- The pointer unit in order, but for the wheel sum: `b` says whether there is a pointer. -/
def CP.placed (b : Bool) (c : CP) : Prop :=
  c.head.isSome = b
    ∧ (∀ h, c.head = some h → (c.heads.get h).validity = .valid ∧ (c.heads.get h).contains c.x c.y = true)
    ∧ headsApart c.heads
    ∧ (-15 ≤ c.carryX ∧ c.carryX ≤ 15 ∧ -15 ≤ c.carryY ∧ c.carryY ≤ 15)
    ∧ c.push ≤ c.resist ∧ (c.push = 0 ↔ c.edge = none)

/-- The pointer unit in order (R3, R16). -/
def CP.sound (b : Bool) (c : CP) : Prop := c.placed b ∧ -32768 ≤ c.wheel ∧ c.wheel ≤ 32767

theorem State.pointerRule_iff (s : State) : s.PointerRule ∧ s.cp.inRange = true ↔
    s.cp.sound s.cp.head.isSome ∧ (s.sa.start = .reading → s.cp.head.isSome = false)
      ∧ (s.role = .desk → s.sa.start = .listening ∨ s.sa.start = .serving → s.cp.head.isSome = true) := by
  simp only [State.PointerRule, CP.inRange, CP.sound, CP.placed, headsApart, Bool.and_eq_true, decide_eq_true_eq,
    Option.isSome_eq_false_iff, Option.isNone_iff_eq_none, true_and]
  tauto

section Move
variable {k : CP} {h b : Fin 4} {a : Axis} {high : Bool}

/-- A coordinate set within the head keeps the pointer in it. -/
theorem CP.setCoord_contains {r : HeadRec} {v : Nat} (hin : r.contains k.x k.y = true) (hlo : r.first a ≤ v)
    (hhi : v ≤ r.last a) : r.contains (k.setCoord a v).x (k.setCoord a v).y = true := by
  rw [HeadRec.contains_iff] at hin ⊢
  cases a <;> simp only [CP.setCoord, HeadRec.first, HeadRec.last] at * <;> omega

theorem CP.setCoord_frame (v : Nat) : (k.setCoord a v).head = k.head ∧ (k.setCoord a v).heads = k.heads
    ∧ (k.setCoord a v).carryX = k.carryX ∧ (k.setCoord a v).carryY = k.carryY ∧ (k.setCoord a v).push = k.push
    ∧ (k.setCoord a v).edge = k.edge ∧ (k.setCoord a v).resist = k.resist := by
  cases a <;> exact ⟨rfl, rfl, rfl, rfl, rfl, rfl, rfl⟩

/-- The pointer placed in head `h`. -/
def CP.placedIn (k : CP) (h : Fin 4) : Prop := k.placed true ∧ k.head = some h

/-- The pointer moved within its head, with a push in range. -/
theorem CP.placedIn_setPush {v p : Nat} {e : Option Edge} (hk : k.placedIn h) (hlo : (k.heads.get h).first a ≤ v)
    (hhi : v ≤ (k.heads.get h).last a) (hp : p ≤ k.resist) (he : p = 0 ↔ e = none) :
    ((k.setCoord a v).setPush p e).placedIn h := by
  obtain ⟨⟨-, hin, hapart, hcarry, -⟩, hhead⟩ := hk
  obtain ⟨fhead, fheads, fx, fy, -, -, fresist⟩ := k.setCoord_frame (a := a) v
  have hstands := hin h hhead
  refine ⟨⟨?_, fun g hg => ?_, ?_, ?_, ?_, he⟩, ?_⟩
  · simp [CP.setPush, fhead, hhead]
  · obtain rfl : h = g := by simpa [CP.setPush, fhead, hhead] using hg
    simpa only [CP.setPush, fheads] using ⟨hstands.1, CP.setCoord_contains hstands.2 hlo hhi⟩
  · simpa only [CP.setPush, fheads] using hapart
  · simpa only [CP.setPush, fx, fy] using hcarry
  · simpa only [CP.setPush, fresist] using hp
  · simp only [CP.setPush, fhead, hhead]

/-- A neighbour is VALID, lies next to the edge, and covers the coordinate (R4). -/
theorem CP.neighbour_eq_some {e : Edge} {v : Nat} (hb : k.neighbour h e v = some b) :
    (k.heads.get b).validity = .valid ∧ (k.heads.get h).neighbours (k.heads.get b) e v = true := by
  have hfound := List.find?_some hb
  simp only [Bool.and_eq_true, decide_eq_true_eq] at hfound
  exact ⟨hfound.1.2, hfound.2⟩

/-- A neighbour at a side covers the row, one above or below the column, at which it was looked for (R4). -/
theorem HeadRec.neighbours_covers_y {p q : HeadRec} {v : Nat} (hn : p.neighbours q (Axis.x.edge high) v = true) :
    q.cy ≤ v ∧ v < q.cy + q.h := by
  cases high <;> simp [HeadRec.neighbours, Axis.edge] at hn <;> omega

theorem HeadRec.neighbours_covers_x {p q : HeadRec} {v : Nat} (hn : p.neighbours q (Axis.y.edge high) v = true) :
    q.cx ≤ v ∧ v < q.cx + q.w := by
  cases high <;> simp [HeadRec.neighbours, Axis.edge] at hn <;> omega

/-- A crossing puts the pointer into the neighbour (R26). -/
theorem CP.cross_placed (hk : k.placedIn h) (hb : k.neighbour h (a.edge high) (k.other a) = some b) :
    (k.cross b a high).placedIn b := by
  obtain ⟨⟨-, -, hapart, -, -⟩, -⟩ := hk
  obtain ⟨hvalid, hnext⟩ := CP.neighbour_eq_some hb
  have hsize := hapart.1 b hvalid
  have hin : (k.heads.get b).contains (k.cross b a high).x (k.cross b a high).y = true := by
    rw [HeadRec.contains_iff]
    cases a with
    | x =>
      obtain ⟨hlo, hhi⟩ := HeadRec.neighbours_covers_y (v := k.y) hnext
      cases high <;> simp only [CP.cross, CP.setCoord, CP.setPush, HeadRec.first, HeadRec.last, if_true,
        Bool.false_eq_true, if_false] <;> omega
    | y =>
      obtain ⟨hlo, hhi⟩ := HeadRec.neighbours_covers_x (v := k.x) hnext
      cases high <;> simp only [CP.cross, CP.setCoord, CP.setPush, HeadRec.first, HeadRec.last, if_true,
        Bool.false_eq_true, if_false] <;> omega
  have hheads : (k.cross b a high).heads = k.heads := by cases a <;> rfl
  refine ⟨⟨rfl, fun g hg => ?_, ?_, ?_, ?_, ?_⟩, rfl⟩
  · obtain rfl : b = g := Option.some.inj hg
    rw [hheads]
    exact ⟨hvalid, hin⟩
  · rwa [hheads]
  · simp [CP.cross]
  · cases a <;> exact Nat.zero_le _
  · cases a <;> simp [CP.cross, CP.setPush, CP.setCoord]

/-- An excess beyond an end of the head leaves the pointer there, or in a neighbour (R25, R26, R28). -/
theorem CP.pushAgainst_placed (hk : k.placedIn h) {n : Nat} (hn : 0 < n) :
    (k.pushAgainst h a high n).1.placed true
      ∧ ((k.pushAgainst h a high n).2 = false → (k.pushAgainst h a high n).1.placedIn h) := by
  have hends : (k.heads.get h).first a ≤ (k.heads.get h).last a := by
    obtain ⟨⟨-, hin, -⟩, hhead⟩ := hk
    have hc := (HeadRec.contains_iff ..).1 (hin h hhead).2
    cases a <;> simp only [HeadRec.first, HeadRec.last] <;> omega
  have hheld {p : Nat} {e : Option Edge} (hp : p ≤ k.resist) (he : p = 0 ↔ e = none) :
      ((k.setCoord a (if high = true then (k.heads.get h).last a else
      (k.heads.get h).first a)).setPush p e).placedIn h := by
    refine CP.placedIn_setPush hk ?_ ?_ hp he <;> split <;> omega
  unfold CP.pushAgainst
  dsimp only
  split
  · have hclosed := hheld (Nat.zero_le _) (iff_of_true rfl rfl)
    exact ⟨hclosed.1, fun _ => hclosed⟩
  · next b hopen =>
    have hb : k.neighbour h (a.edge high) (k.other a) = some b := by
      unfold CP.openTo at hopen
      split at hopen
      · cases hopen
      · exact hopen
    have hpos : 0 < (if k.edge = some (a.edge high) then k.push else 0) + n := Nat.add_pos_right _ hn
    generalize (if k.edge = some (a.edge high) then k.push else 0) + n = p at hpos
    split
    · exact ⟨(CP.cross_placed hk hb).1, fun hnot => absurd hnot (by simp)⟩
    · next hle =>
      have hbuilt := hheld (e := some (a.edge high)) (Nat.not_lt.1 hle) (iff_of_false (by omega) (by simp))
      exact ⟨hbuilt.1, fun _ => hbuilt⟩

theorem CP.moveAxis_placed (hk : k.placedIn h) (whole : Int) :
    (k.moveAxis h a whole).1.placed true
      ∧ ((k.moveAxis h a whole).2 = false → (k.moveAxis h a whole).1.placedIn h) := by
  by_cases hrest : whole = 0
  · rw [hrest, CP.moveAxis_rest]
    exact ⟨hk.1, fun _ => hk⟩
  obtain hhi | hhi := lt_or_ge ((k.heads.get h).last a : Int) (k.coord a + whole)
  · simp only [CP.moveAxis, if_neg hrest, if_pos hhi]
    exact CP.pushAgainst_placed hk (by omega)
  obtain hlo | hlo := lt_or_ge ((k.coord a : Int) + whole) ((k.heads.get h).first a)
  · simp only [CP.moveAxis, if_neg hrest, if_neg (Int.not_lt.2 hhi), if_pos hlo]
    exact CP.pushAgainst_placed hk (by omega)
  · rw [CP.moveAxis_inside hrest hlo hhi]
    have hmoved : (k.slid a (k.coord a + whole).toNat).placedIn h := by
      obtain ⟨⟨-, -, -, -, hpush, hedge⟩, -⟩ := id hk
      refine CP.placedIn_setPush hk (by omega) (by omega) ?_ ?_
      · split
        · exact Nat.zero_le _
        · exact hpush
      · split
        · exact iff_of_true rfl rfl
        · exact hedge
    exact ⟨hmoved.1, fun _ => hmoved⟩

/-- A motion taken keeps the pointer unit in order (R16, R21 to R28). -/
theorem CP.move_placed (hk : k.placedIn h) (dx dy : Int) : (k.move h dx dy).placed true := by
  have hcarried : (k.carried dx dy).placedIn h := by
    obtain ⟨⟨hsome, hin, hapart, -, hpush⟩, hhead⟩ := hk
    obtain ⟨hxlo, hxhi, -⟩ := carryLeft_bounds (dx * k.gains.choose (max dx.natAbs dy.natAbs) + k.carryX)
    obtain ⟨hylo, hyhi, -⟩ := carryLeft_bounds (dy * k.gains.choose (max dx.natAbs dy.natAbs) + k.carryY)
    exact ⟨⟨hsome, hin, hapart, ⟨hxlo, hxhi, hylo, hyhi⟩, hpush⟩, hhead⟩
  rw [CP.move_eq]
  dsimp only
  have hx := CP.moveAxis_placed (a := .x) hcarried
    (wholePixels (dx * k.gains.choose (max dx.natAbs dy.natAbs) + k.carryX))
  split
  · exact hx.1
  · next hstays => exact (CP.moveAxis_placed (hx.2 (by simpa using hstays)) _).1

end Move

/-! ### FU's work on the wheel sum (R57, R62, R68) -/

section Ops
variable {s : State} {b : Bool} (h : s.cp.sound b)
include h

theorem State.leftHolding_sound (p : Nat) : (s.leftHolding p).cp.sound b := by
  unfold State.leftHolding
  dsimp only
  split
  · exact ⟨h.1, by simp⟩
  · exact h

theorem State.moveRecord_sound (r : SrcRec) (st : RecState) : (s.moveRecord r st).cp.sound b := by
  have hput : (s.putRecord (r.enter st s.now)).cp.sound b := h
  have hleft := State.leftHolding_sound hput r.station
  unfold State.moveRecord
  dsimp only
  (repeat' split) <;> simp [h, hleft]

theorem State.requestSource_sound (p : Nat) : (s.requestSource p).cp.sound b := by
  unfold State.requestSource
  split
  · exact h
  · split
    · exact h
    · exact h
    · exact State.moveRecord_sound (by simpa using h) _ _
    · exact State.moveRecord_sound (by simpa using h) _ _

theorem State.runLeave_sound (r : SrcRec) (k : LeaveKind) : (s.runLeave r k).cp.sound b := by
  cases k with
  | clear => simpa [State.runLeave] using h
  | release => exact State.moveRecord_sound (by simpa using h) _ _

theorem State.leave_sound (r : SrcRec) (k : LeaveKind) : (s.leave r k).cp.sound b := by
  unfold State.leave
  split
  · exact State.runLeave_sound h r k
  · simpa using h

theorem State.releaseSource_sound (p : Nat) : (s.releaseSource p).cp.sound b := by
  unfold State.releaseSource
  split
  · exact h
  · split
    · exact h
    · exact State.moveRecord_sound (by simpa using h) _ _
    · exact State.moveRecord_sound (by simpa using h) _ _
    · exact State.leave_sound h _ _

theorem State.leaveFocus_sound (p : Option Nat) : (s.leaveFocus p).cp.sound b := by
  unfold State.leaveFocus
  (repeat' split) <;> simp [h, State.leave_sound h]

theorem State.autoRequest_sound (q : Option Nat) : (s.autoRequest q).cp.sound b := by
  unfold State.autoRequest
  (repeat' split) <;> simp [h, State.requestSource_sound h]

theorem State.focusFrom_sound (p : Option Nat) : (s.focusFrom p).cp.sound b := by
  have hleft := State.leaveFocus_sound h p
  have hsound (f : FU) (q : Option Nat) : ((((s.leaveFocus p).setFU f).setCP
      { (s.leaveFocus p).cp with wheel := 0 }).autoRequest q).cp.sound b :=
    State.autoRequest_sound (s := ((s.leaveFocus p).setFU f).setCP { (s.leaveFocus p).cp with wheel := 0 })
      ⟨hleft.1, by simp⟩ q
  unfold State.focusFrom State.focusChange
  split
  · exact h
  · simp only [State.showLamps_frame]
    exact hsound _ _

theorem State.runLeaves_sound (l : List Nat) : (State.runLeaves l s).cp.sound b := by
  induction l generalizing s with
  | nil => exact h
  | cons p l ih =>
    unfold State.runLeaves
    (repeat' split) <;> simp [h, ih, State.runLeave_sound h]

theorem State.judgeInput_sound : s.judgeInput.cp.sound b := by
  have hleaves := State.runLeaves_sound h s.fu.leaveOrder
  have hshare := wheelShare_eq (State.runLeaves s.fu.leaveOrder s).cp.wheel
  unfold State.judgeInput
  dsimp only
  split
  · exact hleaves
  · split
    · obtain ⟨hplaced, hlo, hhi⟩ := hleaves
      rw [State.buildInput_cp]
      exact ⟨hplaced, by dsimp only; omega, by dsimp only; omega⟩
    · exact hleaves

theorem State.judgeAtDesk_sound : s.judgeAtDesk.cp.sound b := by
  unfold State.judgeAtDesk
  split
  · exact State.judgeInput_sound h
  · exact h

theorem State.reconcile_sound (r : SrcRec) (i : Option Byte) (w : Bool) : (s.reconcile r i w).cp.sound b := by
  unfold State.reconcile
  (repeat' split) <;> simp [h, State.moveRecord_sound h]

theorem State.takeVerdict_sound (r : SrcRec) (v : Verdict) : (s.takeVerdict r v).cp.sound b := by
  unfold State.takeVerdict
  (repeat' split) <;> simp [h, State.moveRecord_sound h]

theorem State.updateRecords_sound : s.updateRecords.cp.sound b := by
  have hremoved (l : List SrcRec) : ∀ {u : State}, u.cp.sound b → (l.foldl State.removeRecord u).cp.sound b := by
    induction l with
    | nil => exact id
    | cons r l ih =>
      intro u hu
      refine ih ?_
      unfold State.removeRecord State.dropRecord
      dsimp only
      (repeat' split) <;> simp [hu, State.runLeave_sound hu]
  simpa [State.updateRecords] using hremoved _ h

/-! ### SR's work on the pointer field (R33) -/

omit h in
@[simp] theorem State.recomputeField_sound : s.recomputeField.cp.sound b ↔ s.cp.sound b := Iff.rfl

theorem State.streamsChanged_sound : s.streamsChanged.cp.sound b := by
  simp [State.streamsChanged, h]

theorem State.close_sound (m : RxMsg) : (s.close m).cp.sound b := by
  unfold State.close
  split
  · exact h
  · next u hu =>
    have hseq : u.cp.sound b := by simpa [State.takeSeq_frame hu] using h
    unfold State.takeClose
    dsimp only
    (repeat' split) <;> simp [hseq, State.streamsChanged]

theorem State.hearSource_sound (m : RxMsg) : (s.hearSource m).cp.sound b := by
  have hheard : (s.setSR { s.sr with ctxs := s.sr.ctxs.map fun c => c.heard m.sender m.payload }).cp.sound b := h
  exact State.streamsChanged_sound hheard

theorem State.takeBySr_sound (m : RxMsg) : (s.takeBySr m).cp.sound b := by
  unfold State.takeBySr
  split <;> simp [h, State.close_sound h, State.hearSource_sound h]

theorem State.drainStreams_sound (l : List Stream) : (s.drainStreams l).cp.sound b := by
  have htaken (es : List RxEntry) : ∀ {u : State}, u.cp.sound b →
      (es.foldl (fun s e => s.takeBySr e.msg) u).cp.sound b := by
    induction es with
    | nil => exact id
    | cons e es ih => exact fun hu => ih (State.takeBySr_sound hu e.msg)
  unfold State.drainStreams
  exact htaken _ h

/-! ### Layout changes, commands and keys -/

theorem State.changeLayout_sound (n : Nat) : (s.changeLayout n).cp.sound b := by
  have hdrained (l : List Stream) : (((s.drainStreams l).setCP { (s.drainStreams l).cp with layout := n }).updateCtxs
      l).cp.sound b := by
    have hselected : CP.sound b { (s.drainStreams l).cp with layout := n } := State.drainStreams_sound h l
    simpa using hselected
  simpa [State.changeLayout] using State.focusFrom_sound (State.updateRecords_sound (hdrained _)) _

theorem State.command_sound (c : Command) : (s.command c).cp.sound b := by
  cases c with
  | select n =>
    exact iteInduction (motive := fun u : State => u.cp.sound b) (fun _ => h) fun _ => State.changeLayout_sound h n
  | request => unfold State.command; dsimp only; split <;> simp [h, State.requestSource_sound h]
  | release => unfold State.command; dsimp only; split <;> simp [h, State.releaseSource_sound h]
  | acknowledge => simpa [State.command] using h
  | confine => exact h
  | leave => exact h

theorem State.rawChanged_sound (consumed : Bool) : (s.rawChanged consumed).cp.sound b := by
  by_cases hraw : s.ii.unionKeys = s.ii.raw
  · rwa [State.rawChanged_of_same consumed hraw]
  · rw [State.rawChanged_of_ne consumed hraw]
    exact State.command_sound (by simpa using h) _

theorem State.clearPort_sound (i : Fin 2) (p : HostPort) : (s.clearPort i p).cp.sound b := by
  have hemptied : (s.portEmptied i p).cp.sound b := h
  rw [State.clearPort_eq]
  exact State.judgeInput_sound (by simpa using State.rawChanged_sound hemptied false)

theorem State.transferFails_sound (i : Fin 2) (x : Transfer) : (s.transferFails i x).cp.sound b :=
  iteInduction (motive := fun u : State => u.cp.sound b) (fun _ => State.clearPort_sound h i _) fun _ => h

theorem State.takeMotion_sound (i : Fin 2) (m : MouseMotion) : (s.takeMotion i m).cp.sound b := by
  cases hhead : s.cp.head with
  | none => simpa [State.takeMotion, hhead] using h
  | some k =>
    rw [State.takeMotion_of_head hhead]
    refine State.judgeInput_sound (State.focusFrom_sound ?_ _)
    obtain ⟨hplaced, hlo, hhi⟩ := h
    obtain rfl : true = b := by rw [← hplaced.1, hhead]; rfl
    rw [State.mouseMoved_cp]
    have hmoved := CP.move_placed (k := s.cp.setButtons i m.buttons) ⟨hplaced, hhead⟩ m.dx m.dy
    refine ⟨hmoved, ?_, ?_⟩ <;> dsimp only <;> split <;> omega

end Ops

/-! ### Every command -/

theorem exec_sound {s : State} {b : Bool} (h : s.cp.sound b) {c : Instr} (hstart : ofStart c = false) :
    Ends (fun t => t.cp.sound b) (exec c s) := by
  by_cases hsource : ofSource c = true
  · intro t ht
    obtain ⟨-, hcp, -⟩ := exec_sameDesk_of_source hsource s t ht
    rwa [hcp]
  have hjudged {u : State} (e : u.cp = s.cp) : u.judgeInput.cp.sound b := State.judgeInput_sound (e ▸ h)
  cases c
  -- the link
  case linkDown => exact Ends.ite (fun _ => .next (State.judgeAtDesk_sound h)) fun _ => .next h
  case linkUp | transmitArbiterTake | presenceTimerExpiry =>
    have hroom {u : State} (hu : u.cp = s.cp) : u.judgeAtDesk.cp.sound b := State.judgeAtDesk_sound (hu ▸ h)
    simp only [exec, execLinkUp, execTransmitArbiterTake, execPresenceTimerExpiry]
    (repeat' split) <;> simp [h, hroom]
  -- messages to FU and SR
  case presenceTakenByFu | presenceTakenBySr | tileTaken | frameCloseTaken | controlVerdictTaken | controlWithdrawnTaken
      | lampsTaken =>
    simp only [exec, execPresenceTakenByFu, execPresenceTakenBySr, execTileTaken, execFrameCloseTaken,
      execControlVerdictTaken, execControlWithdrawnTaken, execLampsTaken]
    split
    · split
      · simp [h]
      · next m u e =>
        have hu : u.cp.sound b := by simpa [(State.take_eq e).1] using h
        (repeat' split) <;> simp [hu, State.judgeInput_sound, State.close_sound, State.hearSource_sound,
          State.moveRecord_sound, State.takeVerdict_sound, State.reconcile_sound]
    · simp [h]
  -- II and CP
  case hostDeviceConnect | hostDeviceDisconnect | enumerationComplete | enumerationFailure | transferUnanswered
      | pollTransferFailure | pollAnsweredWithNoData | leadSeenTimerExpiry | commandTimerExpiry | lampReportComplete
      | lampRetryExpiry =>
    simp only [exec, execHostDeviceConnect, execHostDeviceDisconnect, execEnumerationComplete, execEnumerationFailure,
      execTransferUnanswered, execPollTransferFailure, execPollAnsweredWithNoData,
      execLeadSeenTimerExpiry, execCommandTimerExpiry, execLampReportComplete, execLampRetryExpiry]
    (repeat' split) <;> simp [h, State.clearPort_sound h, State.transferFails_sound h]
  case keyboardReport =>
    have hchanged {u : State} (hu : u.cp = s.cp) (c : Bool) : (u.rawChanged c).judgeInput.cp.sound b :=
      State.judgeInput_sound (State.rawChanged_sound (hu ▸ h) c)
    simp only [exec, execKeyboardReport]
    (repeat' split) <;> simp [h, hchanged, State.takeKeys]
  case mouseReport =>
    have hmoved {u : State} (hu : u.cp = s.cp) (i : Fin 2) (m : MouseMotion) : (u.takeMotion i m).cp.sound b :=
      State.takeMotion_sound (hu ▸ h) i m
    simp only [exec, execMouseReport]
    (repeat' split) <;> simp [h, hmoved]
  -- FU
  case inputIntervalExpiry => exact Ends.ite (fun _ => .next (hjudged rfl)) fun _ => .next h
  case askTimerExpiry | refusedTimerExpiry | absenceTimerExpiry | holdOffTimerExpiry =>
    simp only [exec, execAskTimerExpiry, execRefusedTimerExpiry, execAbsenceTimerExpiry, execHoldOffTimerExpiry]
    (repeat' split) <;> simp [h, State.judgeInput_sound, State.moveRecord_sound]
  -- SR and HU
  case staleTimerExpiry | lostTimerExpiry | repairTimerExpiry | minuteTimerExpiry | headLineStart =>
    simp only [exec, execStaleTimerExpiry, execLostTimerExpiry, execRepairTimerExpiry, execMinuteTimerExpiry,
      execHeadLineStart]
    (repeat' split) <;> simp [State.streamsChanged_sound, h, State.judgeInput_sound]
  case reset | imageReadComplete | listenTimerExpiry | frameReceived => cases hstart
  all_goals exact absurd rfl hsource

/-- Outside the start a command keeps the start state and the role (R179, R183). -/
theorem exec_keepsStart {s t : State} {c : Instr} (hstart : ofStart c = false) (ht : exec c s = .next t) :
    t.sa.start = s.sa.start ∧ t.role = s.role := by
  obtain ⟨hsa, -⟩ := exec_ordinary (k := False) hstart False.elim t ht
  obtain ⟨-, hrole⟩ := exec_keepsClock (fun r hr => by rw [hr] at hstart; cases hstart) ht
  exact ⟨(congrArg SA.start hsa :), hrole⟩

/-- The pointer unit in order, with a pointer where the start says so. -/
def State.pointerKept (s : State) : Prop :=
  s.cp.sound s.cp.head.isSome ∧ (s.sa.start = .reading → s.cp.head.isSome = false)
    ∧ (s.role = .desk → s.sa.start = .listening ∨ s.sa.start = .serving → s.cp.head.isSome = true)

/-- What leaves the start and the role alone, and the pointer unit in order, keeps the whole. -/
theorem State.pointerKept_of_sound {s t : State} (h : s.pointerKept) (hstart : t.sa.start = s.sa.start)
    (hrole : t.role = s.role) (hsound : t.cp.sound s.cp.head.isSome) : t.pointerKept := by
  obtain ⟨-, hreading, hdesk⟩ := h
  have hhead : t.cp.head.isSome = s.cp.head.isSome := hsound.1.1
  unfold State.pointerKept
  rw [hstart, hrole, hhead]
  exact ⟨hsound, hreading, hdesk⟩

/-- What a HALTED endpoint needs is its pointer unit in order. -/
theorem State.pointerKept_of_halted {t : State} (hstart : t.sa.start = .halted) (hsound : t.cp.sound t.cp.head.isSome) :
    t.pointerKept :=
  ⟨hsound, fun h => absurd (hstart.symm.trans h) (by decide), fun _ h => by simp [hstart] at h⟩

/-- The pointer at the centre of a VALID head (R16, R181). -/
theorem CP.accept_sound {c : CP} {b : List Byte} {k : Fin 4} (hk : (c.heads.get k).validity = .valid)
    (hapart : headsApart c.heads) : (c.accept b k).sound true := by
  have hsize := hapart.1 k hk
  refine ⟨⟨rfl, fun g hg => ?_, hapart, ?_, Nat.zero_le _, iff_of_true rfl rfl⟩, ?_⟩
  · obtain rfl : k = g := Option.some.inj hg
    refine ⟨hk, (HeadRec.contains_iff ..).2 ?_⟩
    simp only [CP.accept]
    omega
  · simp [CP.accept]
  · simp [CP.accept]

theorem State.pointerKept_of_accepted {t : State} {c : CP} {b : List Byte} {k : Fin 4}
    (hstart : t.sa.start = .listening) (hcp : t.cp = CP.accept { c with heads := readHeads b } b k)
    (hk : ((readHeads b).get k).validity = .valid) : t.pointerKept := by
  have hsound : t.cp.sound true := hcp ▸ CP.accept_sound hk (readHeads_apart b)
  have hhead : t.cp.head.isSome = true := hsound.1.1
  unfold State.pointerKept
  rw [hhead, hstart]
  exact ⟨hsound, by simp, fun _ _ => rfl⟩

theorem CP.reset_sound : CP.reset.sound false := by
  refine ⟨⟨rfl, by simp [CP.reset], ⟨?_, ?_⟩, by decide, by decide, by decide⟩, by decide⟩ <;> decide

theorem State.beginDesk_sound {s : State} {b : Bool} (h : s.cp.sound b) : s.beginDesk.cp.sound b := by
  have hmade : (s.cp.streams.foldl State.makeCtx s).placeAll.fillRecords.cp.sound b := by simpa using h
  simpa [State.beginDesk] using State.focusFrom_sound hmade none

theorem exec_pointerKept {s : State} (h : s.pointerKept) (c : Instr) : Ends (fun t => t.pointerKept) (exec c s) := by
  cases hstart : ofStart c with
  | false =>
    intro t ht
    obtain ⟨hsame, hrole⟩ := exec_keepsStart hstart ht
    exact State.pointerKept_of_sound h hsame hrole (exec_sound h.1 hstart t ht)
  | true =>
    cases c
    case reset r =>
      refine .next ⟨CP.reset_sound, fun _ => rfl, fun _ hst => ?_⟩
      obtain hst | hst := hst <;> cases hst
    case imageReadComplete flash =>
      refine exec_imageReadComplete_ends (fun _ => h) (fun _ => ?_) (fun b hreading _ => ?_) (fun b k lead _ _ hk => ?_)
        (fun b _ hrole => ?_) flash
      · exact State.pointerKept_of_halted rfl h.1
      · refine State.pointerKept_of_halted rfl ?_
        have hheads : (s.headsRead b).refuse.cp = { s.cp with heads := readHeads b } := by
          simp [State.refuse, (s.headsRead_accepts b).1]
        obtain ⟨⟨-, -, -, hrest⟩, hwheel⟩ := h.1
        have hnone : s.cp.head = none := by simpa using h.2.1 hreading
        rw [hheads]
        exact ⟨⟨rfl, fun g hg => absurd (hnone.symm.trans hg) (by simp), readHeads_apart b, hrest⟩, hwheel⟩
      · obtain ⟨-, -, hcp, -⟩ := (s.headsRead b).acceptDesk_blocks b k lead
        rw [(s.headsRead_accepts b).1] at hcp
        have hvalid : ((readHeads b).get k).validity = .valid := by simpa using List.find?_some hk
        exact State.pointerKept_of_accepted rfl hcp hvalid
      · have hstart : (s.acceptSource b).sa.start = .listening := rfl
        have hsame : (s.acceptSource b).role = .source := hrole
        refine ⟨h.1, fun hst => ?_, fun hr => ?_⟩
        · rw [hstart] at hst
          cases hst
        · rw [hsame] at hr
          cases hr
    case listenTimerExpiry =>
      have hbegun {t : State} (hlistening : s.sa.start = .listening) (hgoes : s.stagesSet.Ordinary False t)
          (hrole : t.role = s.role) (hsound : t.cp.sound s.cp.head.isSome) : t.pointerKept := by
        have hst : t.sa.start = .serving := (congrArg SA.start hgoes.1 :)
        have hhead : t.cp.head.isSome = s.cp.head.isSome := hsound.1.1
        unfold State.pointerKept
        rw [hhead, hrole, hst]
        exact ⟨hsound, by simp, fun hr _ => h.2.2 hr (.inl hlistening)⟩
      have hstages : s.stagesSet.cp.sound s.cp.head.isSome := h.1
      have hrole : s.stagesSet.role = s.role := rfl
      refine exec_listenTimerExpiry_ends h (fun hlistening _ => ?_) fun hlistening _ => ?_
      · exact hbegun hlistening (State.askPresence_ordinary (State.beginDesk_ordinary (.refl ..))) (by simp [hrole])
          (by simpa using State.beginDesk_sound hstages)
      · exact hbegun hlistening (State.askPresence_ordinary (State.wpBegin_ordinary (.refl ..))) (by simp [hrole])
          (by simpa using hstages)
    case frameReceived fcs f =>
      refine exec_frameReceived_ends h (fun c => ?_) (fun _ => ?_) (fun m _ _ => ?_) fcs f
      · exact h
      · exact State.pointerKept_of_halted rfl h.1
      · exact h
    all_goals cases hstart

/-- Settles O13. -/
theorem pointerKept : Obligations.PointerKept := by
  refine ⟨fun s t hrule hrange hstep => ?_, fun s hrule hserving => ?_⟩
  · refine t.pointerRule_iff.2 ?_
    exact step_keeps (P := State.pointerKept) (fun _ _ => id) (fun _ => id) (fun c _ h => exec_pointerKept h c)
      (s.pointerRule_iff.1 ⟨hrule, hrange⟩) hstep
  · obtain ⟨-, hsome, hin, -, hapart⟩ := hrule
    obtain ⟨hrole, hstart⟩ : s.role = .desk ∧ s.sa.start = .serving := by
      simpa [State.servingAs, and_comm] using hserving
    obtain ⟨k, hk⟩ := Option.isSome_iff_exists.1 (hsome hrole (.inr hstart))
    obtain ⟨hvalid, hcontains⟩ := hin k hk
    exact ⟨k, ⟨hvalid, hcontains⟩, fun j hj => hapart j k hj.1 hvalid (HeadRec.overlaps_of_contains hj.2 hcontains)⟩

end Sys2Proof.Machine
end

section
/-!
PROOF. The blank timer runs, stops and blanks as it should (R163, R164): what leaves it alone, and then the commands.
-/

namespace Sys2Proof.Machine

/-! ### What leaves the blank timer alone -/

/-- HU's blank timer, its count and its flag, with T_blank (R163). -/
def HU.blanking (u : HU) : HU :=
  { HU.reset with tBlank := u.tBlank, minute := u.minute, count := u.count, blank := u.blank }

section Blanking
variable (s : State)

@[simp] theorem State.recomputeHeads_blanking : s.recomputeHeads.hu.blanking = s.hu.blanking := rfl

@[simp] theorem State.streamsChanged_blanking : s.streamsChanged.hu.blanking = s.hu.blanking := by
  simp [State.streamsChanged]

@[simp] theorem State.close_blanking (m : RxMsg) : (s.close m).hu.blanking = s.hu.blanking := by
  unfold State.close
  split
  · rfl
  · next u hu =>
    unfold State.takeClose
    dsimp only
    (repeat' split) <;> simp [State.takeSeq_frame hu]

@[simp] theorem State.hearSource_blanking (m : RxMsg) : (s.hearSource m).hu.blanking = s.hu.blanking := by
  simp [State.hearSource]

@[simp] theorem State.takeBySr_blanking (m : RxMsg) : (s.takeBySr m).hu.blanking = s.hu.blanking := by
  unfold State.takeBySr; split <;> simp

@[simp] theorem State.drainStreams_blanking (l : List Stream) : (s.drainStreams l).hu.blanking = s.hu.blanking := by
  unfold State.drainStreams
  exact List.foldlRecOn _ _ (motive := fun u : State => u.hu.blanking = s.hu.blanking) rfl
    fun u hu e _ => (u.takeBySr_blanking e.msg).trans hu

@[simp] theorem State.changeLayout_blanking (n : Nat) : (s.changeLayout n).hu.blanking = s.hu.blanking := by
  simp [State.changeLayout]

@[simp] theorem State.command_blanking (c : Command) : (s.command c).hu.blanking = s.hu.blanking := by
  cases c with
  | select n =>
    exact iteInduction (motive := fun u : State => u.hu.blanking = s.hu.blanking) (fun _ => rfl)
      fun _ => s.changeLayout_blanking n
  | request => unfold State.command; dsimp only; split <;> simp
  | release => unfold State.command; dsimp only; split <;> simp
  | acknowledge => simp [State.command]
  | confine => rfl
  | leave => rfl

@[simp] theorem State.rawChanged_blanking (b : Bool) : (s.rawChanged b).hu.blanking = s.hu.blanking := by
  by_cases hraw : s.ii.unionKeys = s.ii.raw
  · rw [State.rawChanged_of_same b hraw]
  · simp [State.rawChanged_of_ne b hraw]

@[simp] theorem State.clearPort_blanking (i : Fin 2) (p : HostPort) :
    (s.clearPort i p).hu.blanking = s.hu.blanking := by
  have hemptied : (s.portEmptied i p).hu = s.hu := rfl
  simp [State.clearPort_eq, hemptied]

@[simp] theorem State.transferFails_blanking (i : Fin 2) (x : Transfer) :
    (s.transferFails i x).hu.blanking = s.hu.blanking := by
  unfold State.transferFails; dsimp only; split <;> simp

end Blanking

/-! ### The blank timer in order (R163) -/

/-- The blank timer in order; `b` says whether the endpoint is a serving desk. -/
def HU.blankOk (b : Bool) (u : HU) : Prop :=
  (b = false ∨ u.tBlank = 0 → u.minute = none ∧ u.blank = false)
    ∧ (u.blank = true → u.minute = none ∧ u.count = u.tBlank) ∧ (u.minute.isSome = true → u.count < u.tBlank)

theorem HU.blankOk_of_blanking_eq {b : Bool} {u v : HU} (h : u.blankOk b) (e : v.blanking = u.blanking) :
    v.blankOk b :=
  (congrArg (HU.blankOk b) e).mpr h

/-- Outside a serving desk nothing runs and nothing is blank. -/
theorem HU.blankOk_off {b : Bool} {u : HU} (hm : u.minute = none) (hb : u.blank = false) : u.blankOk b := by
  simp [HU.blankOk, hm, hb]

/-- Activity at a serving desk wakes it or restarts its timer (R163, R164). -/
theorem State.activity_blankOk {s : State} (h : s.hu.blankOk true) : s.activity.hu.blankOk true := by
  obtain ⟨hnone, hblank, -⟩ := h
  by_cases ht : s.hu.tBlank = 0
  · obtain ⟨hm, hb⟩ := hnone (.inr ht)
    rw [State.activity_of_no_timer hb ht]
    exact HU.blankOk_off hm hb
  have htimed {u : HU} (e : u.tBlank = s.hu.tBlank) (hb : u.blank = false) (hc : u.count = 0) : u.blankOk true := by
    refine ⟨fun hnot => absurd hnot (by simp [e, ht]), by simp [hb], fun _ => ?_⟩
    rw [hc, e]
    exact Nat.pos_of_ne_zero ht
  cases hb : s.hu.blank with
  | true =>
    obtain ⟨hwoken, hcount, -⟩ := State.activity_wakes hb
    exact htimed s.activity_tBlank hwoken hcount
  | false =>
    rw [State.activity_restarts hb ht]
    exact htimed rfl hb rfl

/-- The blank timer at SERVING starts where T_blank is not 0 (R163). -/
def HU.begun (u : HU) (now : Time) : HU :=
  { u.blanking with count := 0, minute := if u.tBlank = 0 then none else some now }

theorem State.beginDesk_blanking (s : State) : s.beginDesk.hu.blanking = s.hu.begun s.now := by
  have hhu : (s.tablesMade.focusFrom none).hu = s.hu := by simp [State.tablesMade]
  have hnow : (s.tablesMade.focusFrom none).now = s.now := by simp [State.tablesMade]
  calc s.beginDesk.hu.blanking = (s.tablesMade.focusFrom none).hu.begun (s.tablesMade.focusFrom none).now := rfl
    _ = s.hu.begun s.now := by rw [hhu, hnow]

theorem State.beginDesk_serving {s : State} (hrole : s.role = .desk) :
    s.stagesSet.beginDesk.askPresence.servingAs .desk = true := by
  have hgoes : s.stagesSet.Ordinary False s.stagesSet.beginDesk.askPresence :=
    State.askPresence_ordinary (State.beginDesk_ordinary (.refl ..))
  have hst : s.stagesSet.beginDesk.askPresence.sa.start = .serving := (congrArg SA.start hgoes.1 :)
  have hsame : s.stagesSet.role = .desk := hrole
  simp [State.servingAs, hst, hsame]

theorem HU.begun_blankOk {b : Bool} {u : HU} (now : Time) (hb : u.blank = false) (hserving : b = true) :
    (u.begun now).blankOk b := by
  by_cases ht : u.tBlank = 0
  · exact HU.blankOk_off (by simp [HU.begun, ht]) hb
  · refine ⟨fun hnot => ?_, fun hblank => ?_, fun _ => Nat.pos_of_ne_zero ht⟩
    · exact absurd hnot (by simp [HU.begun, HU.blanking, ht, hserving])
    · exact absurd (hb.symm.trans hblank) (by simp)

/-! ### Every command -/

/-- A step from where `P` holds leads to where `Q` holds, if the idle step and every command do. -/
theorem step_leads {P Q : State → Prop} (hqueue : ∀ s q, P s → P { s with pending := q }) (htick : ∀ s, P s → Q s.tick)
    (hexec : ∀ c s, P s → Ends Q (exec c s)) {s t : State} (h : P s) (hstep : step s = .next t) : Q t := by
  unfold step at hstep
  split at hstep
  · cases hstep
    exact htick s h
  · next c r _ => exact hexec c _ (hqueue s r h) t hstep

/-- A host port runs at a serving desk alone (R35). -/
theorem State.serving_of_port_on {s : State} (h : s.TablesRule) {i : Fin 2} (hon : (s.ii.ports.get i).state ≠ .off) :
    s.servingAs .desk = true := by
  by_contra hnot
  rw [State.TablesRule, if_neg hnot] at h
  obtain ⟨-, -, -, hzero, hone, -⟩ := h
  match i with
  | 0 => exact hon hzero
  | 1 => exact hon hone

theorem exec_blankOk {s : State} (htables : s.TablesRule) (h : s.hu.blankOk (s.servingAs .desk)) {c : Instr}
    (hstart : ofStart c = false) : Ends (fun t => t.hu.blankOk (s.servingAs .desk)) (exec c s) := by
  by_cases hsource : ofSource c = true
  · intro t ht
    obtain ⟨-, -, -, -, hhu⟩ := exec_sameDesk_of_source hsource s t ht
    rwa [hhu]
  have hkept {u : State} (e : u.hu.blanking = s.hu.blanking) : u.hu.blankOk (s.servingAs .desk) :=
    HU.blankOk_of_blanking_eq h e
  cases c
  -- the link, messages and the timers of FU and SR
  case linkUp | linkDown | transmitArbiterTake | presenceTimerExpiry =>
    simp only [exec, execLinkUp, execLinkDown, execTransmitArbiterTake, execPresenceTimerExpiry]
    (repeat' split) <;> simp [hkept]
  case presenceTakenByFu | presenceTakenBySr | tileTaken | frameCloseTaken | controlVerdictTaken | controlWithdrawnTaken
      | lampsTaken =>
    simp only [exec, execPresenceTakenByFu, execPresenceTakenBySr, execTileTaken, execFrameCloseTaken,
      execControlVerdictTaken, execControlWithdrawnTaken, execLampsTaken]
    split
    · split
      · simp [h]
      · next m u e =>
        obtain ⟨rfl, -⟩ := State.take_eq e
        (repeat' split) <;> simp [hkept]
    · simp [h]
  case inputIntervalExpiry | askTimerExpiry | refusedTimerExpiry | absenceTimerExpiry | holdOffTimerExpiry
      | staleTimerExpiry | lostTimerExpiry | repairTimerExpiry =>
    simp only [exec, execInputIntervalExpiry, execAskTimerExpiry, execRefusedTimerExpiry, execAbsenceTimerExpiry,
      execHoldOffTimerExpiry, execStaleTimerExpiry, execLostTimerExpiry, execRepairTimerExpiry]
    (repeat' split) <;> simp [hkept]
  -- II and CP
  case hostDeviceConnect | hostDeviceDisconnect | enumerationComplete | enumerationFailure | transferUnanswered
      | pollTransferFailure | pollAnsweredWithNoData | leadSeenTimerExpiry | commandTimerExpiry | lampReportComplete
      | lampRetryExpiry =>
    simp only [exec, execHostDeviceConnect, execHostDeviceDisconnect, execEnumerationComplete, execEnumerationFailure,
      execTransferUnanswered, execPollTransferFailure, execPollAnsweredWithNoData,
      execLeadSeenTimerExpiry, execCommandTimerExpiry, execLampReportComplete, execLampRetryExpiry]
    (repeat' split) <;> simp [hkept]
  case keyboardReport i l =>
    by_cases hserved : (s.ii.ports.get i).state = .polling ∧ (s.ii.ports.get i).keyboard.isSome = true
    · have hserving := State.serving_of_port_on htables (i := i) (by simp [hserved.1])
      obtain hlen | hlen := Nat.lt_or_ge l.length 8
      · rw [exec_keyboardReport_of_short hserved.1 hserved.2 hlen]
        exact .next h
      · rw [exec_keyboardReport_of_whole hserved.1 hserved.2 hlen]
        have hheard : (s.reportHeard i (l.take 8)).hu.blankOk (s.servingAs .desk) := by
          rw [State.reportHeard_hu, hserving]
          rw [hserving] at h
          split
          · exact h
          · exact State.activity_blankOk h
        exact .next (HU.blankOk_of_blanking_eq hheard (by simp [State.reportTaken]))
    · simpa [exec, execKeyboardReport, hserved] using h
  case mouseReport i l =>
    refine Ends.ite (fun hon => ?_) fun _ => .next h
    simp only [Bool.and_eq_true, decide_eq_true_eq] at hon
    have hserving := State.serving_of_port_on htables (i := i) (by simp [hon.1])
    have hwoken : (s.putPort i (s.ii.ports.get i).answered).activity.hu.blankOk (s.servingAs .desk) := by
      rw [hserving] at h ⊢
      exact State.activity_blankOk (s := s.putPort i (s.ii.ports.get i).answered) h
    (repeat' split) <;> simp [hkept, hwoken]
  -- HU
  case minuteTimerExpiry =>
    refine Ends.ite (fun hdue => ?_) fun _ => .next h
    obtain ⟨hnone, hblank, hcount⟩ := h
    obtain ⟨u, hu, -⟩ := (timerDue_iff ..).1 hdue
    have hruns : ¬(s.servingAs .desk = false ∨ s.hu.tBlank = 0) := fun hnot => by simp [(hnone hnot).1] at hu
    have hlt := hcount (by simp [hu])
    refine Ends.ite (fun hlast => .next ?_) fun hnext => .next ?_
    · refine HU.blankOk_of_blanking_eq (u := { s.hu with count := s.hu.count + 1, minute := none, blank := true }) ?_
        (State.recomputeHeads_blanking _)
      exact ⟨fun hnot => absurd hnot hruns, fun _ => ⟨rfl, hlast⟩, by simp⟩
    · refine ⟨fun hnot => absurd hnot hruns, fun hb => ?_, fun _ => lt_of_le_of_ne hlt hnext⟩
      simp [(hblank hb).1] at hu
  case headLineStart k => exact Ends.ite (fun _ => .next (hkept rfl)) fun _ => .next h
  case reset | imageReadComplete | listenTimerExpiry | frameReceived => cases hstart
  all_goals exact absurd rfl hsource

/-- The blank timer at its endpoint. -/
theorem State.blankRule_iff (s : State) : s.BlankRule ↔ s.hu.blankOk (s.servingAs .desk) := Iff.rfl

theorem exec_blankRule {s : State} (htables : s.TablesRule) (h : s.BlankRule) (c : Instr) :
    Ends State.BlankRule (exec c s) := by
  cases hstart : ofStart c with
  | false =>
    intro t ht
    obtain ⟨hsa, hrole⟩ := exec_keepsStart hstart ht
    have hsame : t.servingAs .desk = s.servingAs .desk := by rw [State.servingAs, State.servingAs, hsa, hrole]
    rw [State.blankRule_iff, hsame]
    exact exec_blankOk htables h hstart t ht
  | true =>
    have hoff (hs : s.sa.start ≠ .serving) : s.hu.minute = none ∧ s.hu.blank = false :=
      h.1 (.inl (by simp [State.servingAs, hs]))
    have hkept {t : State} (hs : s.sa.start ≠ .serving) (e : t.hu.blanking = s.hu.blanking) : t.BlankRule := by
      obtain ⟨hm, hb⟩ := hoff hs
      exact HU.blankOk_of_blanking_eq (HU.blankOk_off hm hb) e
    cases c
    case reset r => exact .next (HU.blankOk_off rfl rfl)
    case imageReadComplete flash =>
      refine exec_imageReadComplete_ends (fun _ => h) (fun hs => ?_) (fun b hs _ => ?_) (fun b k lead hs _ _ => ?_)
        (fun b hs _ => ?_) flash
      · exact hkept (by simp [hs]) rfl
      · exact hkept (by simp [hs]) (by simp [State.refuse])
      · obtain ⟨hm, hb⟩ := hoff (by simp [hs])
        exact HU.blankOk_off (by simpa [State.acceptDesk, HU.accept] using hm)
          (by simpa [State.acceptDesk, HU.accept] using hb)
      · exact hkept (by simp [hs]) rfl
    case listenTimerExpiry =>
      refine exec_listenTimerExpiry_ends h (fun hs hrole => ?_) fun hs _ => hkept (by simp [hs]) (by simp)
      obtain ⟨-, hb⟩ := hoff (by simp [hs])
      have hbegun := HU.begun_blankOk (u := s.stagesSet.hu) s.now hb (State.beginDesk_serving hrole)
      refine HU.blankOk_of_blanking_eq hbegun ?_
      have hsame : s.stagesSet.beginDesk.askPresence.hu = s.stagesSet.beginDesk.hu := by simp
      exact (congrArg HU.blanking hsame).trans s.stagesSet.beginDesk_blanking
    case frameReceived fcs f =>
      refine exec_frameReceived_ends h (fun c => h) (fun hs => hkept (by simp [hs]) rfl) (fun m _ _ => h) fcs f
    all_goals cases hstart

/-- Settles O18. -/
theorem blankKept : Obligations.BlankKept := by
  intro s t htables h hstep
  exact step_leads (P := fun s => s.TablesRule ∧ s.BlankRule) (Q := State.BlankRule) (fun _ _ => id) (fun _ hs => hs.2)
    (fun c _ hs => exec_blankRule hs.1 hs.2 c) ⟨htables, h⟩ hstep

end Sys2Proof.Machine
end

section
/-!
PROOF. RESET (R179): what it answers, and that the reset state meets every invariant.
-/

namespace Sys2Proof.Machine

theorem State.reset_attnRule : State.reset.AttnRule := by
  simp [State.AttnRule, State.reset, SA.reset]

theorem CA.reset_tablesOk : CA.reset.tablesOk := by
  simp [CA.tablesOk, CA.reset, ranksFall]

/-- A table of records and an order of leaves without entries is in order (R52, R61). -/
theorem FU.reset_recordsOk : FU.reset.recordsOk := by
  simp [FU.recordsOk, FU.reset]

/-- The reset state's pointer stands in no head, and no head is VALID (R3, R16). -/
theorem State.reset_pointerRule : State.reset.PointerRule ∧ State.reset.cp.inRange = true :=
  State.reset.pointerRule_iff.2 ⟨CP.reset_sound, fun _ => rfl, fun _ hstart => by
    simp [State.reset, SA.reset] at hstart⟩

/-- No head is VALID before an image gives it a record (R1). -/
theorem CP.reset_invalid : ∀ k, (CP.reset.heads.get k).validity ≠ .valid := by decide

/-- In the reset state no desk serves, so its tables hold nothing (R137). -/
theorem State.reset_tablesRule : State.reset.TablesRule := by
  simp [State.TablesRule, State.NoTables, State.servingAs, State.reset, SA.reset, SR.reset, FP.reset, FU.reset,
    II.reset,
    HostPort.reset]

/-- With no VALID head in the reset state nothing is placed, nothing is shown, and every head is OFF (R12, R33, R49,
R153). -/
theorem State.reset_derivedRule : State.reset.DerivedRule := by
  refine ⟨rfl, rfl, rfl, fun h => ?_⟩
  fin_cases h <;> rfl

/-- Nothing runs and nothing is blank in the reset state (R163). -/
theorem State.reset_blankRule : State.reset.BlankRule := by
  simp [State.BlankRule, State.reset, HU.reset]

/-- Settles O20: RESET answers by its definition, and each invariant is checked on the reset values of its block. -/
theorem resetResult : Obligations.ResetResult := by
  unfold Obligations.ResetResult
  refine ⟨fun _ _ => rfl, State.reset_attnRule, rfl, rfl, rfl, rfl, rfl, CA.reset_tablesOk, State.reset_pointerRule.1,
    State.reset_pointerRule.2, State.reset_tablesRule, State.reset_derivedRule, FU.reset_recordsOk, ?_, ?_,
    State.reset_blankRule, (State.tiled_false_iff _).1 (State.reset_tiled False)⟩
  · exact II.reset_inOrder.1
  · exact II.reset_inOrder.2

end Sys2Proof.Machine
end

section
/-!
PROOF. SR's work on its contexts (R137, R138, R140 to R149): what taking a message can do to SR, whatever the message
is, and contexts made in the regions that are free.
-/

namespace Sys2Proof.Machine

/-! ### What taking a message does to SR (R140 to R149) -/

/-- SR with a context put, its region black, and the heads that show its stream on canvas `c` placed in the mode `z`
(R145). -/
def SR.placed (c : CP) (r : SR) (d : Ctx) (z : Size) : SR :=
  { r.put d with
    store := r.store.clearRegion d.region.val
    places := Quad.ofFn fun h => if c.shown h = some d.stream
      then some (placement d.region z (c.heads.get h).w (c.heads.get h).h) else r.places.get h }

theorem State.placedSR_eq {s : State} {c : CP} (h : s.cp.lasting = c.lasting) (d : Ctx) (z : Size) :
    s.placedSR d z = s.sr.placed c d z := by
  have hshown (h' : Fin 4) : s.cp.shown h' = c.shown h' := (congrArg (CP.shown · h') h :)
  have hheads : s.cp.heads = c.heads := (congrArg CP.heads h :)
  simp only [State.placedSR, SR.placed, hshown, hheads]

/-- What SR's work on canvas `c` keeps: it holds still when a context is put that keeps its region and mode, when the
store changes, when a PRESENCE is heard, and when a context takes a new epoch. -/
structure KeptBySr (c : CP) (Q : SR → Prop) : Prop where
  put : ∀ {r : SR} {x : Stream} {k q : Ctx}, Q r → r.ctx x = some k → q.stream = k.stream → q.region = k.region →
    q.mode = k.mode → Q (r.put q)
  store : ∀ {r : SR} (m), Q r → Q { r with store := m }
  heard : ∀ {r : SR} (n : Nat) (p : List Byte), Q r → Q { r with ctxs := r.ctxs.map fun k => k.heard n p }
  placed : ∀ {r : SR} {x : Stream} {k q : Ctx} (z : Size), Q r → r.ctx x = some k → q.stream = k.stream →
    q.region = k.region → q.mode = some z → Q (r.placed c q z)

/-- A sequence taken puts its context alone, with the state, region and mode it had (R141, R142, R143). -/
theorem State.takeSeq_eq_some {u v : State} {x : Stream} {n : BitVec 16} (h : u.takeSeq x n = some v) :
    ∃ k q : Ctx, u.sr.ctx x = some k ∧ v.sr = u.sr.put q ∧ q.stream = k.stream ∧ q.region = k.region ∧ q.mode = k.mode
      ∧ q.state = k.state := by
  unfold State.takeSeq at h
  split at h
  · cases h
  · next k hk =>
    split at h
    · cases h
    · next need _ =>
      have hnoted : (u.putCtx (k.noted n)).sr.ctx x = some (k.noted n) :=
        SR.ctx_put_same hk (by simp [SR.stream_of_ctx hk])
      cases need with
      | false =>
        obtain rfl : u.putCtx (k.noted n) = v := by simpa [Ctx.noted] using h
        exact ⟨k, k.noted n, hk, rfl, rfl, rfl, rfl, rfl⟩
      | true =>
        obtain rfl : (u.putCtx (k.noted n)).needRepair x = v := by simpa [Ctx.noted] using h
        refine ⟨k, (k.noted n).needing u.now, hk, ?_, rfl, rfl, rfl, rfl⟩
        rw [State.needRepair_sr hnoted, State.putCtx_sr, SR.put_put (by simp)]
        rfl

section Kept
variable {c : CP} {Q : SR → Prop} (hQ : KeptBySr c Q) {s : State}
include hQ

theorem KeptBySr.needRepair (h : Q s.sr) (x : Stream) : Q (s.needRepair x).sr := by
  cases hk : s.sr.ctx x with
  | none => simpa [State.needRepair, hk] using h
  | some k =>
    rw [State.needRepair_sr hk]
    exact hQ.put h hk rfl rfl rfl

theorem KeptBySr.takeTile (h : Q s.sr) (x : Stream) (p : List Byte) : Q (s.takeTile x p).sr := by
  have hneed : Q ((s.latch .malformed).needRepair x).sr := hQ.needRepair (s := s.latch .malformed) h x
  unfold State.takeTile
  split
  · exact h
  · split
    · exact h
    · split
      · split
        · exact hneed
        · exact hQ.store _ h
      · exact h

theorem KeptBySr.takeClose (hc : s.cp.lasting = c.lasting) (h : Q s.sr) (x : Stream) (f : CloseContent) :
    Q (s.takeClose x f).sr := by
  cases hok : f.ok with
  | false => simpa [State.takeClose_of_malformed hok] using h
  | true =>
    cases hk : s.sr.ctx x with
    | none => simpa [State.takeClose, hok, hk] using h
    | some k =>
      obtain ⟨hstream, hregion⟩ := Ctx.closed_frame (c := k) (f := f) (now := s.now)
      have hmode : (k.closed f s.now).mode = some f.mode := by rw [Ctx.closed_eq]
      by_cases hsame : k.hasEpoch f
      · rw [State.takeClose_sr_of_same hk hok hsame]
        exact hQ.put h hk hstream hregion (hmode.trans hsame.2.symm)
      · rw [State.takeClose_sr_of_new hk hok hsame, State.placedSR_eq hc]
        exact hQ.placed _ h hk hstream hregion hmode

theorem KeptBySr.tile (h : Q s.sr) (m : RxMsg) : Q (s.tile m).sr := by
  unfold State.tile
  split
  · exact h
  · next u hu =>
    obtain ⟨k, q, hk, hput, hstream, hregion, hmode, -⟩ := State.takeSeq_eq_some hu
    exact hQ.takeTile (hput ▸ hQ.put h hk hstream hregion hmode) _ _

theorem KeptBySr.close (hc : s.cp.lasting = c.lasting) (h : Q s.sr) (m : RxMsg) : Q (s.close m).sr := by
  unfold State.close
  split
  · exact h
  · next u hu =>
    obtain ⟨k, q, hk, hput, hstream, hregion, hmode, -⟩ := State.takeSeq_eq_some hu
    have hcp : u.cp.lasting = c.lasting := by simpa [State.takeSeq_frame hu] using hc
    exact hQ.takeClose hcp (hput ▸ hQ.put h hk hstream hregion hmode) _ _

theorem KeptBySr.hearSource (h : Q s.sr) (m : RxMsg) : Q (s.hearSource m).sr := by
  simpa [State.hearSource] using hQ.heard m.sender m.payload h

theorem KeptBySr.takeBySr (hc : s.cp.lasting = c.lasting) (h : Q s.sr) (m : RxMsg) : Q (s.takeBySr m).sr := by
  unfold State.takeBySr
  split
  · exact hQ.tile h m
  · exact hQ.close hc h m
  · exact hQ.hearSource h m
  · exact h

theorem KeptBySr.drainStreams (hc : s.cp.lasting = c.lasting) (h : Q s.sr) (l : List Stream) :
    Q (s.drainStreams l).sr := by
  have htaken (es : List RxEntry) : ∀ {u : State}, u.cp.lasting = c.lasting → Q u.sr →
      Q (es.foldl (fun s e => s.takeBySr e.msg) u).sr := by
    induction es with
    | nil => exact fun _ => id
    | cons e es ih =>
      exact fun hu hq => ih ((State.takeBySr_lasting _ e.msg).trans hu) (hQ.takeBySr hu hq e.msg)
  unfold State.drainStreams
  exact htaken _ hc h

end Kept

/-! ### The regions of a stream's contexts (R137, R138) -/

/-- The streams that have a context, each with its region. -/
def SR.slots (r : SR) : List (Stream × Fin 4) := r.ctxs.map fun k => (k.stream, k.region)

theorem SR.slots_streams (r : SR) : r.slots.map Prod.fst = r.ctxs.map Ctx.stream := by simp [SR.slots]

theorem SR.slots_regions (r : SR) : r.slots.map Prod.snd = r.ctxs.map Ctx.region := by simp [SR.slots]

/-- With one context for a stream, what keeps a context's stream and region keeps the slots. -/
theorem SR.slots_put {r : SR} (hnodup : (r.ctxs.map Ctx.stream).Nodup) {x : Stream} {k q : Ctx} (hk : r.ctx x = some k)
    (hstream : q.stream = k.stream) (hregion : q.region = k.region) : (r.put q).slots = r.slots := by
  have hmem : k ∈ r.ctxs := List.mem_of_find?_eq_some hk
  simp only [SR.slots, SR.put, List.map_map]
  refine List.map_congr_left fun d hd => ?_
  simp only [Function.comp]
  split
  · next heq =>
    have hsame : d = k := List.inj_on_of_nodup_map hnodup hd hmem (heq.trans hstream)
    rw [hsame, hstream, hregion]
  · rfl

theorem slots_kept (c : CP) {l : List (Stream × Fin 4)} (hnodup : (l.map Prod.fst).Nodup) :
    KeptBySr c fun r => r.slots = l := by
  have hput {r : SR} {x : Stream} {k q : Ctx} (h : r.slots = l) (hk : r.ctx x = some k) (hs : q.stream = k.stream)
      (hr : q.region = k.region) : (r.put q).slots = l := by
    rw [SR.slots_put (by rw [← SR.slots_streams, h]; exact hnodup) hk hs hr, h]
  refine ⟨fun h hk hs hr _ => hput h hk hs hr, fun _ h => h, fun n p h => ?_, fun _ h hk hs hr _ => hput h hk hs hr⟩
  have hheard (k : Ctx) : (k.heard n p).stream = k.stream ∧ (k.heard n p).region = k.region := by
    unfold Ctx.heard; split <;> exact ⟨rfl, rfl⟩
  rw [← h]
  simp only [SR.slots, List.map_map, Function.comp_def, hheard]

/-! ### The layout's streams and sources, each once (R7) -/

theorem nodup_and_mem_distinct {α : Type} [DecidableEq α] (l : List α) :
    (distinct l).Nodup ∧ ∀ x, x ∈ distinct l ↔ x ∈ l := by
  have key (l acc : List α) (hacc : acc.Nodup) :
      let d := l.foldl (fun acc x => if acc.contains x then acc else acc ++ [x]) acc
      d.Nodup ∧ ∀ x, x ∈ d ↔ x ∈ acc ∨ x ∈ l := by
    induction l generalizing acc with
    | nil => simpa using hacc
    | cons a r ih =>
      by_cases ha : a ∈ acc
      · obtain ⟨hnodup, hmem⟩ := ih acc hacc
        simp only [List.foldl_cons, List.contains_eq_mem, ha, decide_true, if_true] at hnodup hmem ⊢
        refine ⟨hnodup, fun x => (hmem x).trans ?_⟩
        rw [List.mem_cons]
        exact ⟨fun h => h.imp_right .inr, fun h => h.elim .inl fun h => h.elim (fun e => .inl (e ▸ ha)) .inr⟩
      · obtain ⟨hnodup, hmem⟩ := ih (acc ++ [a]) (List.nodup_append.2 ⟨hacc, by simp, fun b hb d hd e =>
          ha (List.mem_singleton.1 hd ▸ e ▸ hb)⟩)
        simp only [List.foldl_cons, List.contains_eq_mem, ha, decide_false] at hnodup hmem ⊢
        refine ⟨hnodup, fun x => (hmem x).trans ?_⟩
        rw [List.mem_append, List.mem_singleton, List.mem_cons, or_assoc]
  obtain ⟨hnodup, hmem⟩ := key l [] .nil
  exact ⟨hnodup, fun x => (hmem x).trans (by simp)⟩

/-- What stays of one list in another, and what is new in it, are that other list's elements, each once. -/
theorem nodup_and_mem_kept_append_new {α : Type} [DecidableEq α] {a l : List α} (ha : a.Nodup) (hl : l.Nodup) :
    ((a.filter fun x => x ∈ l) ++ l.filter fun x => x ∉ a).Nodup
      ∧ ∀ x, x ∈ (a.filter fun x => x ∈ l) ++ l.filter (fun x => x ∉ a) ↔ x ∈ l := by
  constructor
  · refine List.nodup_append.2 ⟨ha.filter _, hl.filter _, fun x hx y hy e => ?_⟩
    rw [List.mem_filter, decide_eq_true_eq] at hx hy
    exact hy.2 (e ▸ hx.1)
  · intro x
    rw [List.mem_append, List.mem_filter, List.mem_filter, decide_eq_true_eq, decide_eq_true_eq]
    tauto

theorem CP.nodup_streams (c : CP) : c.streams.Nodup := (nodup_and_mem_distinct _).1

theorem CP.nodup_sources (c : CP) : c.sources.Nodup := (nodup_and_mem_distinct _).1

theorem CP.mem_sources {c : CP} {p : Nat} : p ∈ c.sources ↔ ∃ x ∈ c.streams, x.station = p :=
  ((nodup_and_mem_distinct _).2 p).trans List.mem_map

theorem mem_headNumbers : ∀ h : Fin 4, h ∈ headNumbers := by decide

theorem CP.mem_streams {c : CP} {x : Stream} : x ∈ c.streams ↔ ∃ h, c.shown h = some x := by
  refine ((nodup_and_mem_distinct _).2 x).trans (List.mem_filterMap.trans ?_)
  exact ⟨fun ⟨h, _, e⟩ => ⟨h, e⟩, fun ⟨h, e⟩ => ⟨h, mem_headNumbers h, e⟩⟩

/-! ### Contexts made (R138) -/

/-- The regions that no context has, from the lowest on (R138). -/
def SR.freeRegions (r : SR) : List (Fin 4) := headNumbers.filter fun n => !r.ctxs.any fun c => c.region = n

theorem SR.freeRegion_eq (r : SR) : r.freeRegion = r.freeRegions.head? := List.head?_filter.symm

theorem SR.nodup_freeRegions (r : SR) : r.freeRegions.Nodup := List.Nodup.filter _ (by decide)

theorem SR.mem_freeRegions {r : SR} {n : Fin 4} : n ∈ r.freeRegions ↔ n ∉ r.ctxs.map Ctx.region := by
  simp [SR.freeRegions, mem_headNumbers n]

/-- Four regions serve at most four contexts. -/
theorem SR.le_length_freeRegions (r : SR) : 4 ≤ r.freeRegions.length + r.ctxs.length := by
  have hall : Finset.univ ⊆ (r.freeRegions ++ r.ctxs.map Ctx.region).toFinset := fun n _ => by
    by_cases hn : n ∈ r.ctxs.map Ctx.region
    · exact List.mem_toFinset.2 (List.mem_append_right _ hn)
    · exact List.mem_toFinset.2 (List.mem_append_left _ (SR.mem_freeRegions.2 hn))
  have hcard := (Finset.card_le_card hall).trans (List.toFinset_card_le _)
  rwa [Finset.card_univ, Fintype.card_fin, List.length_append, List.length_map] at hcard

/-- Contexts made in given regions, each cleared. -/
def SR.making (r : SR) (l : List Stream) (ns : List (Fin 4)) : SR :=
  { r with
    ctxs := r.ctxs ++ (l.zip ns).map fun p => newCtx p.1 p.2
    store := (ns.take l.length).foldl (fun m n => m.clearRegion n.val) r.store }

/-- Streams for which there is room get contexts in the free regions, from the lowest on. -/
theorem State.foldl_makeCtx_eq (l : List Stream) : ∀ {s : State}, s.sr.ctxs.length + l.length ≤ 4 →
    (l.foldl State.makeCtx s).sr = s.sr.making l s.sr.freeRegions
      ∧ (l.foldl State.makeCtx s).fp = { s.fp with subs := s.fp.subs ++ l } := by
  induction l with
  | nil => intro s _; simp [SR.making]
  | cons x r ih =>
    intro s hroom
    rw [List.length_cons] at hroom
    obtain ⟨n, ns, hfree⟩ : ∃ n ns, s.sr.freeRegions = n :: ns :=
      List.exists_cons_of_length_pos (by have := s.sr.le_length_freeRegions; omega)
    have hn : s.sr.freeRegion = some n := by rw [SR.freeRegion_eq, hfree, List.head?_cons]
    have hsr : (s.makeCtx x).sr = { s.sr.clear n with ctxs := s.sr.ctxs ++ [newCtx x n] } := by
      simp [State.makeCtx, hn, SR.clear]
    have hfp : (s.makeCtx x).fp = { s.fp with subs := s.fp.subs ++ [x] } := by simp [State.makeCtx, hn]
    have hnot : n ∉ ns := (List.nodup_cons.1 (hfree ▸ s.sr.nodup_freeRegions)).1
    have hrest : (s.makeCtx x).sr.freeRegions = ns := by
      have hfilter : (s.makeCtx x).sr.freeRegions = s.sr.freeRegions.filter fun k => n ≠ k := by
        rw [hsr]
        simp only [SR.freeRegions, List.any_append, List.any_cons, List.any_nil, newCtx, List.filter_filter]
        refine List.filter_congr fun k _ => ?_
        by_cases hk : n = k <;> simp [hk]
      rw [hfilter, hfree, List.filter_cons_of_neg (by simp)]
      exact List.filter_eq_self.2 fun k hk => decide_eq_true fun e : n = k => hnot (e ▸ hk)
    obtain ⟨hmade, hport⟩ := ih (s := s.makeCtx x) (by rw [hsr]; simp; omega)
    rw [List.foldl_cons, hmade, hport, hrest, hfree, hfp, hsr]
    simp [SR.making, SR.clear]

/-- A byte after regions are cleared: black in them, as before outside. -/
theorem Memory.read_foldl_clearRegion (ns : List (Fin 4)) : ∀ (m : Memory) (a : Nat),
    ((∃ n ∈ ns, 16777216 * n.val ≤ a ∧ a < 16777216 * (n.val + 1)) →
      (ns.foldl (fun m n => m.clearRegion n.val) m).read a = 0)
    ∧ ((∀ n ∈ ns, a < 16777216 * n.val ∨ 16777216 * (n.val + 1) ≤ a) →
      (ns.foldl (fun m n => m.clearRegion n.val) m).read a = m.read a) := by
  induction ns with
  | nil => simp
  | cons n ns ih =>
    intro m a
    obtain ⟨hin, hout⟩ := ih (m.clearRegion n.val) a
    have hread : (m.clearRegion n.val).read a
        = if 16777216 * n.val ≤ a ∧ a < 16777216 * (n.val + 1) then 0 else m.read a := by
      simp only [Memory.clearRegion, Memory.read_clear, Config.regionBytes, Nat.mul_comm]
    rw [List.foldl_cons]
    constructor
    · rintro ⟨k, hk, hka⟩
      by_cases hlater : ∃ n ∈ ns, 16777216 * n.val ≤ a ∧ a < 16777216 * (n.val + 1)
      · exact hin hlater
      · obtain rfl | hk := List.mem_cons.1 hk
        · rw [hout fun n hn => by by_contra hno; exact hlater ⟨n, hn, by omega⟩, hread, if_pos hka]
        · exact absurd ⟨k, hk, hka⟩ hlater
    · intro hno
      have hhere := hno n List.mem_cons_self
      rw [hout fun k hk => hno k (List.mem_cons_of_mem _ hk), hread, if_neg (by omega)]

/-! ### SR's part of a layout change (R10, R139) -/

/-- The contexts of some streams removed. -/
theorem State.foldl_removeCtx_eq (l : List Stream) : ∀ s : State,
    (l.foldl State.removeCtx s).sr = { s.sr with ctxs := s.sr.ctxs.filter fun c => c.stream ∉ l }
      ∧ (l.foldl State.removeCtx s).fp = { s.fp with subs := s.fp.subs.filter fun x => x ∉ l } := by
  induction l with
  | nil => intro s; simp
  | cons x r ih =>
    intro s
    obtain ⟨hsr, hfp⟩ := ih (s.removeCtx x)
    rw [List.foldl_cons, hsr, hfp]
    simp [State.removeCtx, List.filter_filter, Bool.and_comm]

/-- The contexts of given streams alone. -/
def SR.keeping (r : SR) (l : List Stream) : SR := { r with ctxs := r.ctxs.filter fun k => k.stream ∈ l }

/-- The streams that have no context. -/
def SR.lacking (r : SR) (l : List Stream) : List Stream := l.filter fun x => (r.ctx x).isNone

/-- The contexts for given streams: those there are kept, and new ones made in the regions then free (R138, R139). -/
def SR.changed (r : SR) (l : List Stream) : SR := (r.keeping l).making (r.lacking l) (r.keeping l).freeRegions

theorem map_snd_zip_eq_take {α β : Type} : ∀ (l : List α) (ns : List β), (l.zip ns).map Prod.snd = ns.take l.length
  | [], _ => by simp
  | _ :: _, [] => by simp
  | _ :: l, _ :: ns => by simp [map_snd_zip_eq_take l ns]

section Changed
variable {r : SR} {l : List Stream}

theorem SR.making_streams {ns : List (Fin 4)} (h : l.length ≤ ns.length) :
    (r.making l ns).ctxs.map Ctx.stream = r.ctxs.map Ctx.stream ++ l := by
  simp only [SR.making, List.map_append, List.map_map]
  exact congrArg _ (List.map_fst_zip h)

theorem SR.making_regions {ns : List (Fin 4)} :
    (r.making l ns).ctxs.map Ctx.region = r.ctxs.map Ctx.region ++ ns.take l.length := by
  simp only [SR.making, List.map_append, List.map_map]
  exact congrArg _ (map_snd_zip_eq_take ..)

theorem SR.ctx_eq_none {x : Stream} : r.ctx x = none ↔ x ∉ r.ctxs.map Ctx.stream := by
  simp [SR.ctx, List.find?_eq_none]

theorem SR.keeping_ctx {x : Stream} (h : x ∈ l) : (r.keeping l).ctx x = r.ctx x := by
  simp only [SR.ctx, SR.keeping, List.find?_filter]
  congr 1
  funext k
  by_cases hk : k.stream = x <;> simp [hk, h]

theorem SR.mem_lacking {x : Stream} : x ∈ r.lacking l ↔ x ∈ l ∧ x ∉ r.ctxs.map Ctx.stream := by
  simp only [SR.lacking, List.mem_filter, Option.isNone_iff_eq_none, SR.ctx_eq_none]

theorem SR.keeping_streams : (r.keeping l).ctxs.map Ctx.stream = (r.ctxs.map Ctx.stream).filter fun x => x ∈ l := by
  simp [SR.keeping, List.filter_map, Function.comp_def]

theorem SR.lacking_eq : r.lacking l = l.filter fun x => x ∉ r.ctxs.map Ctx.stream := by
  refine List.filter_congr fun x _ => ?_
  rw [Bool.eq_iff_iff, Option.isNone_iff_eq_none, SR.ctx_eq_none, decide_eq_true_eq]

/-- There is a free region for each stream that lacks a context, the streams being at most 4. -/
theorem SR.room (hnodup : (r.ctxs.map Ctx.stream).Nodup) (hl : l.Nodup) (hfour : l.length ≤ 4) :
    (r.keeping l).ctxs.length + (r.lacking l).length ≤ 4 := by
  obtain ⟨hboth, hmem⟩ := nodup_and_mem_kept_append_new hnodup hl
  rw [← SR.keeping_streams, ← SR.lacking_eq] at hboth hmem
  have hsub := (List.subperm_of_subset hboth fun x hx => (hmem x).1 hx).length_le
  rw [List.length_append, List.length_map] at hsub
  exact hsub.trans hfour

theorem SR.changed_streams (hnodup : (r.ctxs.map Ctx.stream).Nodup) (hl : l.Nodup) (hfour : l.length ≤ 4) :
    (r.changed l).ctxs.map Ctx.stream = (r.keeping l).ctxs.map Ctx.stream ++ r.lacking l :=
  SR.making_streams (by
    have := SR.room hnodup hl hfour
    have := (r.keeping l).le_length_freeRegions
    omega)

theorem SR.changed_regions (hregions : (r.ctxs.map Ctx.region).Nodup) :
    ((r.changed l).ctxs.map Ctx.region).Nodup := by
  rw [SR.changed, SR.making_regions]
  refine List.nodup_append.2 ⟨?_, ((r.keeping l).nodup_freeRegions).sublist (List.take_sublist ..),
    fun a ha b hb e => ?_⟩
  · exact hregions.sublist (List.Sublist.map _ List.filter_sublist)
  · exact SR.mem_freeRegions.1 (List.mem_of_mem_take hb) (e ▸ ha)

end Changed

/-- SR's part of a layout change, the streams removed being those that the new layout lacks. -/
theorem State.updateCtxs_eq {s : State} {removed : List Stream} (hnodup : (s.sr.ctxs.map Ctx.stream).Nodup)
    (hremoved : ∀ x ∈ s.sr.ctxs.map Ctx.stream, x ∈ removed ↔ x ∉ s.cp.streams)
    (hsubs : s.fp.subs = s.sr.ctxs.map Ctx.stream) : let t := s.updateCtxs removed
    t.sr = { s.sr.changed s.cp.streams with places := Quad.ofFn t.placementOf }
      ∧ t.fp.subs = t.sr.ctxs.map Ctx.stream := by
  set v := removed.foldl State.removeCtx s with hv
  obtain ⟨hsr, hfp⟩ := State.foldl_removeCtx_eq removed s
  have hcp : v.cp = s.cp := by simp [hv]
  have hkept : v.sr = s.sr.keeping s.cp.streams := by
    have hctxs : (s.sr.ctxs.filter fun k => k.stream ∉ removed) = s.sr.ctxs.filter fun k => k.stream ∈ s.cp.streams :=
      List.filter_congr fun k hk => by simp [hremoved k.stream (List.mem_map_of_mem hk)]
    rw [hv, hsr, SR.keeping, hctxs]
  have hnew : (v.cp.streams.filter fun x => (v.sr.ctx x).isNone) = s.sr.lacking s.cp.streams := by
    rw [hcp, hkept]
    exact List.filter_congr fun x hx => by rw [SR.keeping_ctx hx]
  have hroom := SR.room hnodup s.cp.nodup_streams s.cp.length_streams_le
  obtain ⟨hmade, hport⟩ := State.foldl_makeCtx_eq (s.sr.lacking s.cp.streams) (s := v) (by rwa [hkept])
  have hchanged : ((s.sr.lacking s.cp.streams).foldl State.makeCtx v).sr = s.sr.changed s.cp.streams := by
    rw [hmade, hkept]; rfl
  have hupdated : s.updateCtxs removed
    = ((s.sr.lacking s.cp.streams).foldl State.makeCtx v).placeAll.recomputeLost := by
    rw [← hnew]; rfl
  dsimp only
  rw [hupdated]
  constructor
  · rw [← hchanged]; rfl
  · have hold : v.fp.subs = (s.sr.keeping s.cp.streams).ctxs.map Ctx.stream := by
      rw [hv, hfp, SR.keeping_streams, hsubs]
      exact List.filter_congr fun x hx => by simp [hremoved x hx]
    simp only [State.recomputeLost_frame, State.placeAll_frame, hport, hold]
    rw [← SR.changed_streams hnodup s.cp.nodup_streams s.cp.length_streams_le, ← hchanged]
    rfl

end Sys2Proof.Machine
end

section
/-!
PROOF. Contexts, subscriptions and records are those of the current layout (R7, R52, R63, R137, R139): which commands
leave the three tables' entries alone, what a layout change makes of them, and the statement.
-/

namespace Sys2Proof.Machine

/-! ### What FU's work leaves of the records' stations and of the subscriptions (R52, R139) -/

section Tables
variable (s : State)

@[simp] theorem State.putRecord_tables (r : SrcRec) :
    (s.putRecord r).fu.records.map SrcRec.station = s.fu.records.map SrcRec.station
      ∧ (s.putRecord r).fp.subs = s.fp.subs := by
  simp [State.putRecord, FU.put_stations]

@[simp] theorem State.moveRecord_tables (r : SrcRec) (st : RecState) :
    (s.moveRecord r st).fu.records.map SrcRec.station = s.fu.records.map SrcRec.station
      ∧ (s.moveRecord r st).fp.subs = s.fp.subs :=
  ⟨s.moveRecord_stations r st, by simp⟩

@[simp] theorem State.hand1_subs (m : OutInput) : (s.hand1 m).fp.subs = s.fp.subs := by
  unfold State.hand1; split <;> simp

@[simp] theorem State.sendRelease_tables (r : SrcRec) :
    (s.sendRelease r).fu.records.map SrcRec.station = s.fu.records.map SrcRec.station
      ∧ (s.sendRelease r).fp.subs = s.fp.subs := by simp [State.sendRelease]

@[simp] theorem State.sendInput_tables (r : SrcRec) (k : Snapshot) (b : Buttons) (f : Option PtrField) (w : Int) :
    (s.sendInput r k b f w).fu.records.map SrcRec.station = s.fu.records.map SrcRec.station
      ∧ (s.sendInput r k b f w).fp.subs = s.fp.subs := by
  simp [State.sendInput]

@[simp] theorem State.runLeave_tables (r : SrcRec) (k : LeaveKind) :
    (s.runLeave r k).fu.records.map SrcRec.station = s.fu.records.map SrcRec.station
      ∧ (s.runLeave r k).fp.subs = s.fp.subs := by
  cases k <;> simp [State.runLeave]

@[simp] theorem State.leave_tables (r : SrcRec) (k : LeaveKind) :
    (s.leave r k).fu.records.map SrcRec.station = s.fu.records.map SrcRec.station
      ∧ (s.leave r k).fp.subs = s.fp.subs := by
  unfold State.leave
  split
  · simp
  · obtain ⟨j, -, -, heq, -⟩ := s.setPending_eq r k
    rw [heq]
    exact ⟨FU.put_stations _ _, rfl⟩

@[simp] theorem State.requestSource_tables (p : Nat) :
    (s.requestSource p).fu.records.map SrcRec.station = s.fu.records.map SrcRec.station
      ∧ (s.requestSource p).fp.subs = s.fp.subs := by
  unfold State.requestSource; (repeat' split) <;> simp

@[simp] theorem State.releaseSource_tables (p : Nat) :
    (s.releaseSource p).fu.records.map SrcRec.station = s.fu.records.map SrcRec.station
      ∧ (s.releaseSource p).fp.subs = s.fp.subs := by
  unfold State.releaseSource; (repeat' split) <;> simp

@[simp] theorem State.leaveFocus_tables (p : Option Nat) :
    (s.leaveFocus p).fu.records.map SrcRec.station = s.fu.records.map SrcRec.station
      ∧ (s.leaveFocus p).fp.subs = s.fp.subs := by
  unfold State.leaveFocus; (repeat' split) <;> simp

@[simp] theorem State.focusFrom_tables (p : Option Nat) :
    (s.focusFrom p).fu.records.map SrcRec.station = s.fu.records.map SrcRec.station
      ∧ (s.focusFrom p).fp.subs = s.fp.subs := by
  unfold State.focusFrom State.focusChange; split <;> simp

@[simp] theorem State.focusFrom_lasting (p : Option Nat) : (s.focusFrom p).cp.lasting = s.cp.lasting :=
  CP.lasting_of_withWheel_eq (s.focusFrom_pointer_keys p).1

@[simp] theorem State.runLeaves_tables (l : List Nat) : ∀ s : State,
    (State.runLeaves l s).fu.records.map SrcRec.station = s.fu.records.map SrcRec.station
      ∧ (State.runLeaves l s).fp.subs = s.fp.subs := by
  induction l with
  | nil => exact fun _ => ⟨rfl, rfl⟩
  | cons p l ih => intro s; unfold State.runLeaves; (repeat' split) <;> simp [ih]

@[simp] theorem State.judgeInput_tables :
    s.judgeInput.fu.records.map SrcRec.station = s.fu.records.map SrcRec.station
      ∧ s.judgeInput.fp.subs = s.fp.subs := by
  unfold State.judgeInput State.buildInput; dsimp only; (repeat' split) <;> simp

@[simp] theorem State.arbiterTake_subs : s.arbiterTake.fp.subs = s.fp.subs := by
  unfold State.arbiterTake
  split
  · rfl
  · rfl
  · next d _ _ _ _ => cases d <;> rfl
  · rfl
  · rfl

@[simp] theorem State.reconcile_tables (r : SrcRec) (i : Option Byte) (w : Bool) :
    (s.reconcile r i w).fu.records.map SrcRec.station = s.fu.records.map SrcRec.station
      ∧ (s.reconcile r i w).fp.subs = s.fp.subs := by
  unfold State.reconcile; (repeat' split) <;> simp

@[simp] theorem State.takeVerdict_tables (r : SrcRec) (v : Verdict) :
    (s.takeVerdict r v).fu.records.map SrcRec.station = s.fu.records.map SrcRec.station
      ∧ (s.takeVerdict r v).fp.subs = s.fp.subs := by
  unfold State.takeVerdict; (repeat' split) <;> simp

@[simp] theorem State.reconcile_withWheel (r : SrcRec) (i : Option Byte) (w : Bool) :
    (s.reconcile r i w).cp.withWheel 0 = s.cp.withWheel 0 := by
  unfold State.reconcile; (repeat' split) <;> simp

@[simp] theorem State.takeVerdict_withWheel (r : SrcRec) (v : Verdict) :
    (s.takeVerdict r v).cp.withWheel 0 = s.cp.withWheel 0 := by
  unfold State.takeVerdict; (repeat' split) <;> simp

@[simp] theorem State.takeMotion_tables (i : Fin 2) (m : MouseMotion) :
    (s.takeMotion i m).fu.records.map SrcRec.station = s.fu.records.map SrcRec.station
      ∧ (s.takeMotion i m).fp.subs = s.fp.subs := by
  unfold State.takeMotion; split <;> simp

/-! ### A layout change (R10, R63) -/

@[simp] theorem State.dropRecord_tables (r : SrcRec) :
    (s.dropRecord r).fu.records.map SrcRec.station = s.fu.records.map SrcRec.station
      ∧ (s.dropRecord r).fp.subs = s.fp.subs := by
  unfold State.dropRecord; (repeat' split) <;> simp

theorem State.removeRecord_tables (r : SrcRec) :
    (s.removeRecord r).fu.records.map SrcRec.station = (s.fu.records.map SrcRec.station).filter (fun p => p ≠ r.station)
      ∧ (s.removeRecord r).fp.subs = s.fp.subs := by
  obtain ⟨hstations, -⟩ := s.dropRecord_tables r
  refine ⟨?_, by simp [State.removeRecord]⟩
  rw [← hstations, List.filter_map]
  rfl

theorem State.foldl_removeRecord_tables (l : List SrcRec) : ∀ s : State,
    (l.foldl State.removeRecord s).fu.records.map SrcRec.station
        = (s.fu.records.map SrcRec.station).filter (fun p => p ∉ l.map SrcRec.station)
      ∧ (l.foldl State.removeRecord s).fp.subs = s.fp.subs := by
  induction l with
  | nil => intro s; simp
  | cons r l ih =>
    intro s
    obtain ⟨hstations, hsubs⟩ := ih (s.removeRecord r)
    obtain ⟨hfirst, hfirst'⟩ := s.removeRecord_tables r
    rw [List.foldl_cons, hstations, hsubs, hfirst, hfirst', List.filter_filter]
    exact ⟨List.filter_congr fun p _ => by simp [Bool.and_comm], rfl⟩

theorem State.fillRecords_tables :
    s.fillRecords.fu.records.map SrcRec.station = s.fu.records.map SrcRec.station
        ++ s.cp.sources.filter (fun p => p ∉ s.fu.records.map SrcRec.station)
      ∧ s.fillRecords.fp.subs = s.fp.subs := by
  refine ⟨?_, rfl⟩
  simp only [State.fillRecords, State.setFU_fu, List.map_append, List.map_map, Function.comp_def, newRecord,
    List.map_id',
    List.any_map]
  refine congrArg _ (List.filter_congr fun p _ => ?_)
  rw [Bool.eq_iff_iff]
  simp

/-- The records whose sources the layout lacks (R63). -/
def State.goneRecords (s : State) : List SrcRec := s.fu.records.filter fun r => !s.cp.sources.contains r.station

/-- The state with those records dealt with and removed (R63). -/
def State.recordsDropped (s : State) : State := s.goneRecords.foldl State.removeRecord s

theorem State.updateRecords_eq : s.updateRecords = s.recordsDropped.fillRecords := rfl

theorem State.recordsDropped_cp : s.recordsDropped.cp.withWheel 0 = s.cp.withWheel 0 := by
  have hfill : s.recordsDropped.fillRecords.cp = s.recordsDropped.cp := by simp
  exact hfill ▸ s.updateRecords_sansFlights.2

/-- The records' stations after the update: those kept, and the new sources'. -/
theorem State.updateRecords_tables :
    s.updateRecords.fu.records.map SrcRec.station
        = (s.fu.records.map SrcRec.station).filter (fun p => p ∈ s.cp.sources)
          ++ s.cp.sources.filter (fun p => p ∉ s.fu.records.map SrcRec.station)
      ∧ s.updateRecords.fp.subs = s.fp.subs := by
  obtain ⟨hdropped, hsubs⟩ := State.foldl_removeRecord_tables s.goneRecords s
  obtain ⟨hfilled, hsubs'⟩ := s.recordsDropped.fillRecords_tables
  have hkept : s.recordsDropped.fu.records.map SrcRec.station
      = (s.fu.records.map SrcRec.station).filter fun p => p ∈ s.cp.sources := by
    refine hdropped.trans (List.filter_congr fun p hp => ?_)
    obtain ⟨r, hr, rfl⟩ := List.mem_map.1 hp
    rw [Bool.eq_iff_iff, decide_eq_true_eq, decide_eq_true_eq, List.mem_map, not_iff_comm]
    constructor
    · exact fun hnot => ⟨r, List.mem_filter.2 ⟨hr, by simpa using hnot⟩, rfl⟩
    · rintro ⟨q, hq, e⟩
      obtain ⟨-, hq⟩ := List.mem_filter.1 hq
      simpa [e] using hq
  have hsources : s.recordsDropped.cp.sources = s.cp.sources := (congrArg CP.sources s.recordsDropped_cp :)
  rw [State.updateRecords_eq, hfilled, hsubs', hkept, hsources]
  refine ⟨congrArg _ (List.filter_congr fun p hp => ?_), hsubs⟩
  simp only [List.mem_filter, hp, decide_true, and_true]

end Tables

/-! ### The canvas (R2, R7) -/

/-- The canvas alone: the heads and the layouts. -/
def CP.canvas (c : CP) : CP := { CP.reset with heads := c.heads, layouts := c.layouts, layout := c.layout }

theorem CP.canvas_of_withWheel_eq {c d : CP} (h : c.withWheel 0 = d.withWheel 0) : c.canvas = d.canvas :=
  (congrArg CP.canvas h :)

theorem CP.canvas_of_lasting_eq {c d : CP} (h : c.lasting = d.lasting) : c.canvas = d.canvas := (congrArg CP.canvas h :)

/-- The canvas says what every head shows. -/
theorem CP.shown_of_canvas_eq {c d : CP} (h : c.canvas = d.canvas) : c.shown = d.shown := (congrArg CP.shown h :)

theorem CP.streams_of_canvas_eq {c d : CP} (h : c.canvas = d.canvas) : c.streams = d.streams :=
  (congrArg CP.streams h :)

theorem CP.heads_of_canvas_eq {c d : CP} (h : c.canvas = d.canvas) : c.heads = d.heads := (congrArg CP.heads h :)

section Move
variable (c : CP) (h : Fin 4) (a : Axis)

@[simp] theorem CP.setCoord_canvas (v : Nat) : (c.setCoord a v).canvas = c.canvas := by cases a <;> rfl

@[simp] theorem CP.setPush_canvas (n : Nat) (e : Option Edge) : (c.setPush n e).canvas = c.canvas := rfl

theorem CP.pushAgainst_canvas (high : Bool) (n : Nat) : (c.pushAgainst h a high n).1.canvas = c.canvas := by
  unfold CP.pushAgainst
  dsimp only
  split
  · simp
  · exact iteInduction (motive := fun q : CP × Bool => q.1.canvas = c.canvas) (fun _ => c.setCoord_canvas a _)
      fun _ => by simp

theorem CP.moveAxis_canvas (w : Int) : (c.moveAxis h a w).1.canvas = c.canvas := by
  refine iteInduction (motive := fun q : CP × Bool => q.1.canvas = c.canvas) (fun _ => rfl) fun _ =>
    iteInduction (motive := fun q : CP × Bool => q.1.canvas = c.canvas) (fun _ => c.pushAgainst_canvas h a true _)
      fun _ => iteInduction (motive := fun q : CP × Bool => q.1.canvas = c.canvas)
        (fun _ => c.pushAgainst_canvas h a false _) fun _ => ?_
  split
  · simp
  · dsimp only
    split <;> simp

theorem CP.move_canvas (dx dy : Int) : (c.move h dx dy).canvas = c.canvas := by
  have hx {d e : CP} {w : Int} {b : Bool} (he : d.moveAxis h .x w = (e, b)) (hd : d.canvas = c.canvas) :
      e.canvas = c.canvas := by
    rw [← hd, ← d.moveAxis_canvas h .x w, he]
  unfold CP.move
  dsimp only
  split
  · next e he => exact hx he rfl
  · next e he => exact (e.moveAxis_canvas h .y _).trans (hx he rfl)

end Move

/-! ### The tables of the layout (R7, R52, R137, R139) -/

/-- The tables' entries and the layout's streams are all that the rule speaks of. -/
theorem State.TablesOfLayout.congr {s t : State} (h : s.TablesOfLayout) (hslots : t.sr.slots = s.sr.slots)
    (htables : t.fu.records.map SrcRec.station = s.fu.records.map SrcRec.station ∧ t.fp.subs = s.fp.subs)
    (hcp : t.cp.canvas = s.cp.canvas) : t.TablesOfLayout := by
  have hstreams : t.cp.streams = s.cp.streams := CP.streams_of_canvas_eq hcp
  have hsources : t.cp.sources = s.cp.sources := by rw [CP.sources, CP.sources, hstreams]
  unfold State.TablesOfLayout at *
  rwa [hstreams, hsources, htables.1, htables.2, ← SR.slots_streams, ← SR.slots_regions, hslots, SR.slots_streams,
    SR.slots_regions]

section Layout
variable (s : State) (n : Nat)

/-- The streams with a context that layout `n` lacks. -/
def State.streamsGone : List Stream :=
  (s.sr.ctxs.map Ctx.stream).filter fun x => !({ s.cp with layout := n } : CP).streams.contains x

/-- Layout `n` in effect, with the messages of the streams that it lacks taken (R139). -/
def State.selected : State :=
  (s.drainStreams (s.streamsGone n)).setCP { (s.drainStreams (s.streamsGone n)).cp with layout := n }

theorem State.changeLayout_stages : s.changeLayout n
    = ((((s.selected n).updateCtxs (s.streamsGone n)).updateRecords.focusFrom
        s.cp.focusSource).recomputeField.recomputeHeads).askPresence :=
  rfl

theorem State.selected_lasting : (s.selected n).cp.lasting = ({ s.cp with layout := n } : CP).lasting :=
  congrArg (fun c : CP => { c with layout := n }) (s.drainStreams_lasting (s.streamsGone n))

theorem State.drainStreams_subs (l : List Stream) : (s.drainStreams l).fp.subs = s.fp.subs :=
  List.foldlRecOn _ _ (motive := fun u : State => u.fp.subs = s.fp.subs) rfl
    fun u hu e _ => (u.takeBySr_class1_subs e.msg).2.trans hu

variable {s}

/-- The messages taken first leave the slots and the subscriptions. -/
theorem State.selected_tables (h : s.TablesOfLayout) :
    (s.selected n).sr.slots = s.sr.slots ∧ (s.selected n).fp.subs = s.fp.subs ∧ (s.selected n).fu = s.fu := by
  have hnodup : (s.sr.slots.map Prod.fst).Nodup := SR.slots_streams _ ▸ h.1
  exact ⟨KeptBySr.drainStreams (slots_kept s.cp hnodup) rfl rfl _, s.drainStreams_subs _, by simp [State.selected]⟩

theorem State.selected_streamsGone (h : s.TablesOfLayout) :
    ((s.selected n).sr.ctxs.map Ctx.stream).Nodup ∧ ((s.selected n).sr.ctxs.map Ctx.region).Nodup
      ∧ (∀ x ∈ (s.selected n).sr.ctxs.map Ctx.stream, x ∈ s.streamsGone n ↔ x ∉ (s.selected n).cp.streams)
      ∧ (s.selected n).fp.subs = (s.selected n).sr.ctxs.map Ctx.stream := by
  obtain ⟨hslots, hsubs, -⟩ := State.selected_tables n h
  obtain ⟨hnodup, -, hregions, hsubscribed, -⟩ := h
  have hstreams : (s.selected n).sr.ctxs.map Ctx.stream = s.sr.ctxs.map Ctx.stream := by
    rw [← SR.slots_streams, hslots, SR.slots_streams]
  have hlayout : (s.selected n).cp.streams = ({ s.cp with layout := n } : CP).streams :=
    (congrArg CP.streams (s.selected_lasting n) :)
  rw [hlayout, hsubs, ← SR.slots_regions, hslots, SR.slots_regions, hstreams]
  exact ⟨hnodup, hregions, fun x hx => by simp [State.streamsGone, hx], hsubscribed⟩

omit n in
/-- The contexts and subscriptions after SR's part are those of the layout in effect. -/
theorem State.updateCtxs_ofLayout {removed : List Stream} (hnodup : (s.sr.ctxs.map Ctx.stream).Nodup)
    (hregions : (s.sr.ctxs.map Ctx.region).Nodup)
    (hremoved : ∀ x ∈ s.sr.ctxs.map Ctx.stream, x ∈ removed ↔ x ∉ s.cp.streams)
    (hsubs : s.fp.subs = s.sr.ctxs.map Ctx.stream) :
    ((s.updateCtxs removed).sr.ctxs.map Ctx.stream).Nodup
      ∧ (∀ x, x ∈ (s.updateCtxs removed).sr.ctxs.map Ctx.stream ↔ x ∈ s.cp.streams)
      ∧ ((s.updateCtxs removed).sr.ctxs.map Ctx.region).Nodup
      ∧ (s.updateCtxs removed).fp.subs = (s.updateCtxs removed).sr.ctxs.map Ctx.stream := by
  obtain ⟨hsr, hport⟩ := State.updateCtxs_eq hnodup hremoved hsubs
  have hctxs : (s.updateCtxs removed).sr.ctxs = (s.sr.changed s.cp.streams).ctxs := (congrArg SR.ctxs hsr :)
  have hstreams := SR.changed_streams hnodup s.cp.nodup_streams s.cp.length_streams_le
  rw [SR.keeping_streams, SR.lacking_eq] at hstreams
  obtain ⟨hboth, hmem⟩ := nodup_and_mem_kept_append_new hnodup s.cp.nodup_streams
  rw [hport, hctxs, hstreams]
  exact ⟨hboth, hmem, SR.changed_regions hregions, rfl⟩

omit n in
/-- The records after FU's part are those of the layout in effect. -/
theorem State.updateRecords_ofLayout (hnodup : (s.fu.records.map SrcRec.station).Nodup) :
    (s.updateRecords.fu.records.map SrcRec.station).Nodup
      ∧ ∀ p, p ∈ s.updateRecords.fu.records.map SrcRec.station ↔ p ∈ s.cp.sources := by
  rw [s.updateRecords_tables.1]
  exact nodup_and_mem_kept_append_new hnodup s.cp.nodup_sources

/-- A layout change makes the tables those of the new layout. -/
theorem State.changeLayout_tablesOfLayout (h : s.TablesOfLayout) : (s.changeLayout n).TablesOfLayout := by
  obtain ⟨hnodup, hregions, hgone, hsubs⟩ := State.selected_streamsGone n h
  have hfu : ((s.selected n).updateCtxs (s.streamsGone n)).fu = s.fu := by simp [(State.selected_tables n h).2.2]
  have hctxs := State.updateCtxs_ofLayout hnodup hregions hgone hsubs
  have hcp : ((s.selected n).updateCtxs (s.streamsGone n)).cp = (s.selected n).cp := by simp
  rw [State.changeLayout_stages]
  generalize (s.selected n).updateCtxs (s.streamsGone n) = w at *
  have hrecords := State.updateRecords_ofLayout (s := w) (hfu ▸ h.2.2.2.2.1)
  have hlasting : w.updateRecords.cp.lasting = w.cp.lasting := CP.lasting_of_withWheel_eq w.updateRecords_sansFlights.2
  have hstreams : w.updateRecords.cp.streams = w.cp.streams := (congrArg CP.streams hlasting :)
  have hsources : w.updateRecords.cp.sources = w.cp.sources := (congrArg CP.sources hlasting :)
  have hupdated : w.updateRecords.TablesOfLayout := by
    unfold State.TablesOfLayout
    rw [hstreams, hsources, w.updateRecords_tables.2, hcp]
    simp only [State.updateRecords_frame]
    exact ⟨hctxs.1, hctxs.2.1, hctxs.2.2.1, hctxs.2.2.2, hrecords.1, hcp ▸ hrecords.2⟩
  have hfocus (p : Option Nat) : (w.updateRecords.focusFrom p).TablesOfLayout :=
    hupdated.congr (by simp) (by simp) (CP.canvas_of_withWheel_eq (w.updateRecords.focusFrom_pointer_keys p).1)
  exact (hfocus s.cp.focusSource).congr (by simp) (by simp) (CP.canvas_of_lasting_eq (by simp))

end Layout

/-! ### Commands and keys -/

section Ops
variable {s : State} (h : s.TablesOfLayout)
include h

/-- What the rule needs of work that leaves SR as it is. -/
theorem State.TablesOfLayout.keep {t : State} (hsr : t.sr = s.sr)
    (htables : t.fu.records.map SrcRec.station = s.fu.records.map SrcRec.station ∧ t.fp.subs = s.fp.subs)
    (hcp : t.cp.lasting = s.cp.lasting) : t.TablesOfLayout :=
  h.congr (congrArg SR.slots hsr) htables (CP.canvas_of_lasting_eq hcp)

theorem State.judgeInput_tablesOfLayout : s.judgeInput.TablesOfLayout :=
  h.keep (by simp) (by simp) (CP.lasting_of_withWheel_eq s.judgeInput_pointer_keys.1)

theorem State.command_tablesOfLayout (c : Command) : (s.command c).TablesOfLayout := by
  cases c with
  | select n =>
    exact iteInduction (motive := State.TablesOfLayout) (fun _ => h) fun _ => State.changeLayout_tablesOfLayout n h
  | request =>
    unfold State.command
    dsimp only
    split
    · exact h
    · next p _ =>
      exact h.keep (by simp) (by simp) (CP.lasting_of_withWheel_eq (s.requestSource_pointer_keys p).1)
  | release =>
    unfold State.command
    dsimp only
    split
    · exact h
    · next p _ => exact h.keep (by simp) (by simp) (CP.lasting_of_withWheel_eq (s.releaseSource_withWheel p))
  | acknowledge =>
    have hsent (u : State) : u.sendAttnClear.fp.subs = u.fp.subs := by
      unfold State.sendAttnClear; (repeat' split) <;> simp
    exact h.keep (by simp [State.command]) (by simp [State.command, hsent]) (by simp [State.command])
  | confine => exact h.congr rfl ⟨rfl, rfl⟩ rfl
  | leave => exact h

theorem State.rawChanged_tablesOfLayout (consumed : Bool) : (s.rawChanged consumed).TablesOfLayout := by
  by_cases hraw : s.ii.unionKeys = s.ii.raw
  · rwa [State.rawChanged_of_same consumed hraw]
  · rw [State.rawChanged_of_ne consumed hraw]
    have hheard : (s.keysHeard consumed).TablesOfLayout :=
      h.keep (by simp) ⟨by rw [State.keysHeard_records], by simp⟩ (by simp)
    exact State.command_tablesOfLayout hheard _

theorem State.clearPort_tablesOfLayout (i : Fin 2) (p : HostPort) : (s.clearPort i p).TablesOfLayout := by
  have hemptied : (s.portEmptied i p).TablesOfLayout := h.congr rfl ⟨rfl, rfl⟩ rfl
  rw [State.clearPort_eq]
  have hheard := State.rawChanged_tablesOfLayout hemptied false
  exact State.judgeInput_tablesOfLayout (hheard.keep (by simp) (by simp) (by simp))

theorem State.takeMotion_tablesOfLayout (i : Fin 2) (m : MouseMotion) : (s.takeMotion i m).TablesOfLayout := by
  cases hhead : s.cp.head with
  | none => simpa [State.takeMotion, hhead] using h
  | some k =>
    rw [State.takeMotion_of_head hhead]
    have hmoved : (s.mouseMoved i k m).TablesOfLayout := by
      refine h.congr (by simp) (by simp) ?_
      rw [State.mouseMoved_cp]
      exact (s.cp.setButtons i m.buttons).move_canvas k m.dx m.dy
    exact State.judgeInput_tablesOfLayout (hmoved.keep (by simp) (by simp)
      (CP.lasting_of_withWheel_eq ((s.mouseMoved i k m).focusFrom_pointer_keys _).1))

end Ops

/-! ### Every command -/

/-- What taking a message leaves of the tables. -/
theorem State.TablesOfLayout.take {s u : State} {m : RxMsg} {k : Kind} {a : Taker} (h : s.TablesOfLayout)
    (e : s.take a k = some (m, u)) : u.TablesOfLayout := by
  obtain ⟨rfl, -⟩ := State.take_eq e
  exact h.congr rfl ⟨rfl, rfl⟩ rfl

/-- The slots are kept by SR's work on a message. -/
theorem State.TablesOfLayout.slotsKept {s : State} (h : s.TablesOfLayout) :
    KeptBySr s.cp fun r => r.slots = s.sr.slots := slots_kept s.cp (SR.slots_streams _ ▸ h.1)

/-- A context put that keeps its stream, region and mode. -/
theorem State.TablesOfLayout.put {s t : State} {x : Stream} {k q : Ctx} (h : s.TablesOfLayout)
    (hk : s.sr.ctx x = some k)
    (hstream : q.stream = k.stream) (hregion : q.region = k.region) (hmode : q.mode = k.mode)
    (hsr : t.sr.ctxs = (s.sr.put q).ctxs) (hfu : t.fu = s.fu) (hsubs : t.fp.subs = s.fp.subs)
    (hcp : t.cp.lasting = s.cp.lasting) : t.TablesOfLayout := by
  have hslots : (s.sr.put q).slots = s.sr.slots := h.slotsKept.put rfl hk hstream hregion hmode
  exact h.congr ((congrArg (fun l => l.map fun k : Ctx => (k.stream, k.region)) hsr).trans hslots)
    ⟨by rw [hfu], hsubs⟩ (CP.canvas_of_lasting_eq hcp)

theorem exec_tablesOfLayout {s : State} (h : s.TablesOfLayout) {c : Instr} (hstart : ofStart c = false) :
    Ends State.TablesOfLayout (exec c s) := by
  by_cases hsource : ofSource c = true
  · intro t ht
    obtain ⟨-, hcp, hfu, hsr, -⟩ := exec_sameDesk_of_source hsource s t ht
    obtain ⟨-, hsubs⟩ := exec_source_class1_subs hsource s t ht
    exact h.keep hsr ⟨by rw [hfu], hsubs⟩ (by rw [hcp])
  have hsame {u : State} (hsr : u.sr = s.sr) (hfu : u.fu.records = s.fu.records) (hsubs : u.fp.subs = s.fp.subs)
      (hcp : u.cp = s.cp) : u.TablesOfLayout := h.keep hsr ⟨by rw [hfu], hsubs⟩ (by rw [hcp])
  have hjudged {u : State} (hsr : u.sr = s.sr) (hfu : u.fu.records = s.fu.records) (hsubs : u.fp.subs = s.fp.subs)
      (hcp : u.cp = s.cp) : u.judgeInput.TablesOfLayout := State.judgeInput_tablesOfLayout (hsame hsr hfu hsubs hcp)
  cases c
  -- the link
  case linkDown =>
    refine Ends.ite (fun _ => .next ?_) fun _ => .next h
    exact iteInduction (motive := State.TablesOfLayout) (fun _ => hjudged rfl rfl rfl rfl)
      fun _ => hsame rfl rfl rfl rfl
  case transmitArbiterTake =>
    refine Ends.ite (fun _ => .next ?_) fun _ => .next h
    exact iteInduction (motive := State.TablesOfLayout) (fun _ => hjudged (by simp) (by simp) (by simp) (by simp))
      fun _ => hsame (by simp) (by simp) (by simp) (by simp)
  case linkUp | presenceTimerExpiry =>
    simp only [exec, execLinkUp, execPresenceTimerExpiry]
    (repeat' split) <;> exact .next (hsame (by simp) (by simp) (by simp) (by simp))
  -- messages to FU and SR
  case presenceTakenByFu | controlVerdictTaken | controlWithdrawnTaken | lampsTaken =>
    simp only [exec, execPresenceTakenByFu, execControlVerdictTaken, execControlWithdrawnTaken, execLampsTaken]
    split
    · split
      · exact .next h
      · next m u e =>
        have hu : u.TablesOfLayout := h.take e
        have hdone {v : State} (hsr : v.sr = u.sr)
            (htables : v.fu.records.map SrcRec.station = u.fu.records.map SrcRec.station ∧ v.fp.subs = u.fp.subs)
            (hcp : v.cp.withWheel 0 = u.cp.withWheel 0) : v.TablesOfLayout :=
          hu.keep hsr htables (CP.lasting_of_withWheel_eq hcp)
        (repeat' split) <;> exact .next (hdone (by simp) (by simp) (by simp))
    · exact .next h
  case tileTaken =>
    refine Ends.ite (fun _ => ?_) fun _ => .next h
    split
    · exact .next h
    · next m u e =>
      have hu : u.TablesOfLayout := h.take e
      exact .next (hu.congr (hu.slotsKept.tile rfl m) (by simp) (by simp))
  case frameCloseTaken =>
    refine Ends.ite (fun _ => ?_) fun _ => .next h
    split
    · exact .next h
    · next m u e =>
      have hu : u.TablesOfLayout := h.take e
      exact .next (State.judgeInput_tablesOfLayout (hu.congr (hu.slotsKept.close rfl rfl m) (by simp)
        (CP.canvas_of_lasting_eq (by simp))))
  case presenceTakenBySr =>
    refine Ends.ite (fun _ => ?_) fun _ => .next h
    split
    · exact .next h
    · next m u e =>
      have hu : u.TablesOfLayout := h.take e
      have hheard : (u.hearSource m).cp.lasting = u.cp.lasting := by simp [State.hearSource]
      exact .next (State.judgeInput_tablesOfLayout (hu.congr (hu.slotsKept.hearSource rfl m) (by simp)
        (CP.canvas_of_lasting_eq hheard)))
  -- II and CP
  case leadSeenTimerExpiry | commandTimerExpiry =>
    exact Ends.ite (fun _ => .next (hsame rfl rfl rfl rfl)) fun _ => .next h
  case hostDeviceConnect | hostDeviceDisconnect | enumerationComplete | enumerationFailure | transferUnanswered
      | pollTransferFailure | pollAnsweredWithNoData | lampReportComplete | lampRetryExpiry =>
    have hfails (i : Fin 2) (x : Transfer) : (s.transferFails i x).TablesOfLayout :=
      iteInduction (motive := State.TablesOfLayout) (fun _ => State.clearPort_tablesOfLayout h i _)
        fun _ => hsame rfl rfl rfl rfl
    simp only [exec, execHostDeviceConnect, execHostDeviceDisconnect, execEnumerationComplete, execEnumerationFailure,
      execTransferUnanswered, execPollTransferFailure, execPollAnsweredWithNoData, execLampReportComplete,
      execLampRetryExpiry]
    (repeat' split) <;> simp [hsame, State.clearPort_tablesOfLayout h, hfails]
  case keyboardReport =>
    have hchanged {u : State} (hsr : u.sr = s.sr) (hfu : u.fu = s.fu) (hfp : u.fp = s.fp) (hcp : u.cp = s.cp)
      (c : Bool) :
        (u.rawChanged c).judgeInput.TablesOfLayout :=
      State.judgeInput_tablesOfLayout (State.rawChanged_tablesOfLayout (hsame hsr (by rw [hfu]) (by rw [hfp]) hcp) c)
    simp only [exec, execKeyboardReport]
    (repeat' split) <;> simp [hsame, hchanged, State.takeKeys]
  case mouseReport =>
    have hmoved {u : State} (hsr : u.sr = s.sr) (hfu : u.fu = s.fu) (hfp : u.fp = s.fp) (hcp : u.cp = s.cp) (i : Fin 2)
        (m : MouseMotion) : (u.takeMotion i m).TablesOfLayout :=
      State.takeMotion_tablesOfLayout (hsame hsr (by rw [hfu]) (by rw [hfp]) hcp) i m
    simp only [exec, execMouseReport]
    (repeat' split) <;> simp [h, hmoved, hsame]
  -- FU, SR and HU
  case inputIntervalExpiry => exact Ends.ite (fun _ => .next (hjudged rfl rfl rfl rfl)) fun _ => .next h
  case askTimerExpiry | refusedTimerExpiry | absenceTimerExpiry | holdOffTimerExpiry =>
    have hdone {v : State} (hsr : v.sr = s.sr)
        (htables : v.fu.records.map SrcRec.station = s.fu.records.map SrcRec.station ∧ v.fp.subs = s.fp.subs)
        (hcp : v.cp.withWheel 0 = s.cp.withWheel 0) : v.TablesOfLayout :=
      h.keep hsr htables (CP.lasting_of_withWheel_eq hcp)
    simp only [exec, execAskTimerExpiry, execRefusedTimerExpiry, execAbsenceTimerExpiry, execHoldOffTimerExpiry]
    (repeat' split) <;> exact .next (hdone (by simp) (by simp) (by simp))
  case staleTimerExpiry x =>
    simp only [exec, execStaleTimerExpiry]
    split
    · exact .next h
    · next k hk =>
      exact Ends.ite (fun _ => .next (State.judgeInput_tablesOfLayout
        (h.put (q := { k with stale := none, state := if k.state = .live then .stale else k.state }) hk rfl rfl rfl
          (by simp) (by simp) (by simp) (by simp)))) fun _ => .next h
  case lostTimerExpiry x =>
    simp only [exec, execLostTimerExpiry]
    split
    · exact .next h
    · next k hk =>
      exact Ends.ite (fun _ => .next (State.judgeInput_tablesOfLayout
        (h.put (q := { k with lost := none, state := .lost }) hk rfl rfl rfl (by simp [SR.clear]) (by simp) (by simp)
          (by simp)))) fun _ => .next h
  case repairTimerExpiry x =>
    simp only [exec, execRepairTimerExpiry]
    split
    · exact .next h
    · next k hk =>
      refine Ends.ite (fun _ => Ends.ite (fun _ => .next ?_) fun _ => .next ?_) fun _ => .next h
      · exact h.put (q := { k with repair := some s.now, owed := false }) hk rfl rfl rfl (by simp [State.requestRepair])
          (by simp) (by simp) (by simp)
      · exact h.put (q := { k with repair := none }) hk rfl rfl rfl rfl rfl rfl rfl
  case minuteTimerExpiry =>
    exact Ends.ite (fun _ => Ends.ite (fun _ => .next (hsame (by simp) (by simp) (by simp) (by simp)))
      fun _ => .next (hsame rfl rfl rfl rfl)) fun _ => .next h
  case headLineStart => exact Ends.ite (fun _ => .next (hsame rfl rfl rfl rfl)) fun _ => .next h
  case reset | imageReadComplete | listenTimerExpiry | frameReceived => cases hstart
  all_goals exact absurd rfl hsource

/-! ### Without tables (R137, R168) -/

/-- The host ports' states. -/
def II.portStates (i : II) : HostState × HostState := (i.ports.zero.state, i.ports.one.state)

theorem II.portStates_of_sansFlights_eq {i j : II} (h : i.sansFlights = j.sansFlights) :
    i.portStates = j.portStates := by
  obtain ⟨-, -, -, -, -, -, -, hkept⟩ := II.eq_of_sansFlights_eq h
  exact Prod.ext (HostPort.eq_of_sansFlight_eq (hkept 0)).1 (HostPort.eq_of_sansFlight_eq (hkept 1)).1

theorem II.portStates_set (i : II) (k : Fin 2) {p : HostPort} (h : p.state = (i.ports.get k).state) :
    II.portStates { i with ports := i.ports.set k p } = i.portStates := by
  match k with
  | 0 => exact Prod.ext h rfl
  | 1 => exact Prod.ext rfl h

/-- The rule speaks of the tables, the host ports' states and, at a source, the heads. -/
theorem State.NoTables.congr {s t : State} (h : s.NoTables) (hctxs : t.sr.ctxs = s.sr.ctxs)
    (hrecords : t.fu.records.map SrcRec.station = s.fu.records.map SrcRec.station) (hsubs : t.fp.subs = s.fp.subs)
    (hports : t.ii.portStates = s.ii.portStates) (hrole : t.role = s.role)
    (hheads : t.role = .source → t.cp.heads = s.cp.heads) : t.NoTables := by
  obtain ⟨hnoctx, hnosub, hnorecord, hzero, hone, hvalid⟩ := h
  obtain ⟨hzero', hone'⟩ := Prod.ext_iff.1 hports
  refine ⟨hctxs.trans hnoctx, hsubs.trans hnosub, ?_, hzero'.trans hzero, hone'.trans hone, fun hr k => ?_⟩
  · rwa [hnorecord, List.map_nil, List.map_eq_nil_iff] at hrecords
  · rw [hheads hr]
    exact hvalid (hrole ▸ hr) k

theorem exec_noTables {s : State} (h : s.NoTables) (hnot : s.servingAs .desk = false) {c : Instr}
    (hstart : ofStart c = false) : Ends State.NoTables (exec c s) := by
  by_cases hsource : ofSource c = true
  · intro t ht
    obtain ⟨hii, hcp, hfu, hsr, -⟩ := exec_sameDesk_of_source hsource s t ht
    obtain ⟨-, hsubs⟩ := exec_source_class1_subs hsource s t ht
    obtain ⟨-, hrole⟩ := exec_keepsStart hstart ht
    exact h.congr (by rw [hsr]) (by rw [hfu]) hsubs (by rw [hii]) hrole fun _ => by rw [hcp]
  have hsame {u : State} (hsr : u.sr = s.sr) (hfu : u.fu.records = s.fu.records) (hsubs : u.fp.subs = s.fp.subs)
      (hii : u.ii.portStates = s.ii.portStates) (hcp : u.cp = s.cp) (hrole : u.role = s.role) : u.NoTables :=
    h.congr (by rw [hsr]) (by rw [hfu]) hsubs hii hrole fun _ => by rw [hcp]
  have hjudged {u : State} (hsr : u.sr = s.sr) (hfu : u.fu.records = s.fu.records) (hsubs : u.fp.subs = s.fp.subs)
      (hii : u.ii = s.ii) (hcp : u.cp = s.cp) (hrole : u.role = s.role) : u.judgeInput.NoTables := by
    have hheads : u.judgeInput.cp.heads = u.cp.heads := (congrArg CP.heads u.judgeInput_pointer_keys.1 :)
    exact h.congr (by simp [hsr]) (by simp [hfu]) (by simp [hsubs])
      (II.portStates_of_sansFlights_eq (by simp [hii])) (by simp [hrole]) fun _ => hheads.trans (by rw [hcp])
  obtain ⟨hctxs, -, hrecords, hzero, hone, -⟩ := id h
  have hoff (i : Fin 2) : (s.ii.ports.get i).state = .off := by
    match i with
    | 0 => exact hzero
    | 1 => exact hone
  have hrecord (p : Nat) : s.fu.record p = none := by simp [FU.record, hrecords]
  have hctx (x : Stream) : s.sr.ctx x = none := by simp [SR.ctx, hctxs]
  cases c
  case linkDown =>
    refine Ends.ite (fun _ => .next ?_) fun _ => .next h
    exact iteInduction (motive := State.NoTables) (fun _ => hjudged rfl rfl rfl rfl rfl rfl)
      fun _ => hsame rfl rfl rfl rfl rfl rfl
  case transmitArbiterTake =>
    refine Ends.ite (fun _ => .next ?_) fun _ => .next h
    exact iteInduction (motive := State.NoTables)
      (fun _ => hjudged (by simp) (by simp) (by simp) (by simp) (by simp) (by simp))
      fun _ => hsame (by simp) (by simp) (by simp) (by simp) (by simp) (by simp)
  case linkUp | presenceTimerExpiry =>
    simp only [exec, execLinkUp, execPresenceTimerExpiry]
    (repeat' split) <;> exact .next (hsame (by simp) (by simp) (by simp) (by simp) (by simp) (by simp))
  -- a desk that does not serve takes no message
  case presenceTakenByFu | controlVerdictTaken | controlWithdrawnTaken | lampsTaken | presenceTakenBySr | tileTaken
      | frameCloseTaken =>
    simp [exec, execPresenceTakenByFu, execControlVerdictTaken, execControlWithdrawnTaken, execLampsTaken,
      execPresenceTakenBySr, execTileTaken, execFrameCloseTaken, hnot, h]
  -- its ports are OFF, and it has no record and no context
  case hostDeviceConnect | hostDeviceDisconnect | enumerationComplete | enumerationFailure | transferUnanswered
      | pollTransferFailure | pollAnsweredWithNoData | keyboardReport | mouseReport =>
    simp [exec, execHostDeviceConnect, execHostDeviceDisconnect, execEnumerationComplete, execEnumerationFailure,
      execTransferUnanswered, execPollTransferFailure, execPollAnsweredWithNoData, execKeyboardReport, execMouseReport,
      HostPort.makes, hoff, h]
  case askTimerExpiry | refusedTimerExpiry | absenceTimerExpiry | holdOffTimerExpiry =>
    simp [exec, execAskTimerExpiry, execRefusedTimerExpiry, execAbsenceTimerExpiry, execHoldOffTimerExpiry, hrecord, h]
  case staleTimerExpiry | lostTimerExpiry | repairTimerExpiry =>
    simp [exec, execStaleTimerExpiry, execLostTimerExpiry, execRepairTimerExpiry, hctx, h]
  case inputIntervalExpiry => exact Ends.ite (fun _ => .next (hjudged rfl rfl rfl rfl rfl rfl)) fun _ => .next h
  -- what is left to II and HU
  case leadSeenTimerExpiry | commandTimerExpiry =>
    exact Ends.ite (fun _ => .next (hsame rfl rfl rfl rfl rfl rfl)) fun _ => .next h
  case lampReportComplete i =>
    simp only [exec, execLampReportComplete]
    split
    · exact .next h
    · refine .next (hsame rfl rfl rfl (II.portStates_set _ _ ?_) rfl rfl)
      obtain e | ⟨-, e⟩ := HostPort.offerLamps_eq _ _ <;> rw [e] <;> rfl
  case lampRetryExpiry i =>
    refine Ends.ite (fun _ => Ends.ite (fun _ => .next ?_) fun _ => .next ?_) fun _ => .next h
    · exact hsame rfl rfl rfl (II.portStates_set _ _ rfl) rfl rfl
    · exact hsame rfl rfl rfl (II.portStates_set _ _ rfl) rfl rfl
  case minuteTimerExpiry =>
    exact Ends.ite (fun _ => Ends.ite
      (fun _ => .next (hsame (by simp) (by simp) (by simp) (by simp) (by simp) (by simp)))
      fun _ => .next (hsame rfl rfl rfl rfl rfl rfl)) fun _ => .next h
  case headLineStart => exact Ends.ite (fun _ => .next (hsame rfl rfl rfl rfl rfl rfl)) fun _ => .next h
  case reset | imageReadComplete | listenTimerExpiry | frameReceived => cases hstart
  all_goals exact absurd rfl hsource

/-! ### The start (R137, R180, R183) -/

theorem State.tablesRule_of_serving {s : State} (hs : s.servingAs .desk = true) (h : s.TablesOfLayout) :
    s.TablesRule := by rwa [State.TablesRule, if_pos hs]

theorem State.tablesRule_of_not_serving {s : State} (hs : s.servingAs .desk = false) (h : s.NoTables) :
    s.TablesRule := by rwa [State.TablesRule, if_neg (by simp [hs])]

section Image
variable {s : State} (h : s.NoTables)
include h

theorem State.refuse_tablesRule : s.refuse.TablesRule :=
  State.tablesRule_of_not_serving rfl (h.congr rfl rfl h.2.1.symm rfl rfl fun _ => rfl)

theorem State.headsRead_noTables (hrole : s.role = .desk) (b : List Byte) :
    (s.headsRead b).NoTables ∧ (s.headsRead b).role = .desk := by
  obtain ⟨-, -, -, -, -, -, -, -, hii, hfu, hsr, -⟩ := s.headsRead_frame b
  obtain ⟨-, hfp, -⟩ := s.headsRead_accepts b
  have hsame : (s.headsRead b).role = s.role := by unfold State.headsRead; dsimp only; split <;> rfl
  have hdesk : (s.headsRead b).role = .desk := hsame.trans hrole
  exact ⟨h.congr (by rw [hsr]) (by rw [hfu]) (by rw [hfp]) (by rw [hii]) hsame
    fun hr => absurd (hdesk.symm.trans hr) (by decide), hdesk⟩

theorem State.acceptDesk_tablesRule (hrole : s.role = .desk) (b : List Byte) (k : Fin 4) (lead : Lead) :
    (s.acceptDesk b k lead).TablesRule :=
  State.tablesRule_of_not_serving rfl (h.congr rfl rfl rfl rfl rfl
    fun hr => absurd (hrole.symm.trans hr) (by decide))

end Image

/-- At the end of the listen the desk's tables are those of its start layout (R183). -/
theorem State.beginDesk_tablesOfLayout {s : State} (h : s.NoTables) : s.beginDesk.TablesOfLayout := by
  obtain ⟨hstreams, -, hsubs, -, -, hstations, -⟩ := State.beginDesk_of_none h
  have hcp : s.beginDesk.cp.canvas = s.cp.canvas := CP.canvas_of_lasting_eq (by simp [State.beginDesk])
  have hregions : (s.beginDesk.sr.ctxs.map Ctx.region).Nodup := by
    obtain ⟨hctxs, -⟩ := h
    obtain ⟨hsr, -⟩ := State.foldl_makeCtx_eq s.cp.streams (s := s) (by simpa [hctxs] using s.cp.length_streams_le)
    have hmade : s.beginDesk.sr.ctxs = (s.sr.making s.cp.streams s.sr.freeRegions).ctxs := by
      rw [s.beginDesk_tables.2.2.2, ← hsr]
      simp [State.tablesMade, State.placeAll]
    rw [hmade, SR.making_regions, hctxs]
    exact s.sr.nodup_freeRegions.sublist (List.take_sublist ..)
  have hlayout := CP.streams_of_canvas_eq hcp
  have hsources : s.beginDesk.cp.sources = s.cp.sources := by rw [CP.sources, CP.sources, hlayout]
  unfold State.TablesOfLayout
  rw [hlayout, hsources, hstreams, hsubs, hstations]
  exact ⟨s.cp.nodup_streams, fun _ => Iff.rfl, hregions, rfl, s.cp.nodup_sources, fun _ => Iff.rfl⟩

theorem exec_tablesRule {s : State} (h : s.TablesRule) (c : Instr) : Ends State.TablesRule (exec c s) := by
  cases hstart : ofStart c with
  | false =>
    intro t ht
    obtain ⟨hsa, hrole⟩ := exec_keepsStart hstart ht
    have hsame : t.servingAs .desk = s.servingAs .desk := by rw [State.servingAs, State.servingAs, hsa, hrole]
    cases hserving : s.servingAs .desk with
    | true =>
      rw [State.TablesRule, if_pos hserving] at h
      exact State.tablesRule_of_serving (hsame.trans hserving) (exec_tablesOfLayout h hstart t ht)
    | false =>
      rw [State.TablesRule, if_neg (by simp [hserving])] at h
      exact State.tablesRule_of_not_serving (hsame.trans hserving) (exec_noTables h hserving hstart t ht)
  | true =>
    have hnone (hs : s.sa.start ≠ .serving) : s.NoTables := by
      rwa [State.TablesRule, if_neg (by simp [State.servingAs, hs])] at h
    cases c
    case reset r =>
      exact .next (State.tablesRule_of_not_serving rfl ⟨rfl, rfl, rfl, rfl, rfl, fun _ => CP.reset_invalid⟩)
    case imageReadComplete flash =>
      refine exec_imageReadComplete_ends (fun _ => h) (fun hs => ?_) (fun b hs hrole => ?_)
        (fun b k lead hs hrole _ => ?_) (fun b hs hrole => ?_) flash
      · exact State.refuse_tablesRule (hnone (by simp [hs]))
      · exact State.refuse_tablesRule (State.headsRead_noTables (hnone (by simp [hs])) hrole b).1
      · obtain ⟨hread, hdesk⟩ := State.headsRead_noTables (hnone (by simp [hs])) hrole b
        exact State.acceptDesk_tablesRule hread hdesk b k lead
      · exact State.tablesRule_of_not_serving rfl (hnone (by simp [hs]))
    case listenTimerExpiry =>
      refine exec_listenTimerExpiry_ends h (fun hs hrole => ?_) fun hs hrole => ?_
      · have hbegun : s.stagesSet.beginDesk.TablesOfLayout := State.beginDesk_tablesOfLayout (hnone (by simp [hs]))
        exact State.tablesRule_of_serving (State.beginDesk_serving hrole)
          (hbegun.keep (by simp) (by simp) (by simp))
      · have hnot : s.stagesSet.wpBegin.askPresence.servingAs .desk = false := by
          have hsame : s.stagesSet.wpBegin.askPresence.role = .source := by simpa [State.stagesSet] using hrole
          rw [State.servingAs, hsame]
          simp
        exact State.tablesRule_of_not_serving hnot ((hnone (by simp [hs])).congr (by simp) (by simp) (by simp)
          (by simp) (by simp [State.stagesSet]) (by simp))
    case frameReceived fcs f =>
      refine exec_frameReceived_ends h (fun c => h) (fun hs => ?_) (fun m _ _ => h) fcs f
      have hnot := hnone (by simp [hs])
      exact State.tablesRule_of_not_serving rfl (hnot.congr rfl rfl hnot.2.1.symm rfl rfl fun _ => rfl)
    all_goals cases hstart

/-- Settles O14: at a serving desk every command keeps the tables of the layout in effect, a layout change makes them
those of the new one, and an endpoint without tables gets them at the end of the listen alone. -/
theorem deskTablesKept : Obligations.DeskTablesKept := by
  intro s t h hstep
  exact step_keeps (P := State.TablesRule) (fun _ _ => id) (fun _ => id) (fun c _ h => exec_tablesRule h c) h hstep

end Sys2Proof.Machine
end

section
/-!
PROOF. The shown lamp value (R49): it is what the focus record gives, and FU's work either leaves both alone or shows
the lamps anew.
-/

namespace Sys2Proof.Machine

/-- The shown lamp value is up to date (R49). -/
def State.lit (s : State) : Prop := s.ii.shown = s.lampsShown

/-- What the lamps read of a station's record. -/
def FU.lampView (f : FU) (p : Nat) : Option (RecState × Lamps) := (f.record p).map fun r => (r.state, r.lamps)

theorem State.lampsShown_eq (s : State) : s.lampsShown
    = (s.cp.focusSource.bind s.fu.lampView).elim 0 fun v => if v.1 = .holding then v.2 else 0 := by
  unfold State.lampsShown State.focusRecord
  cases s.cp.focusSource with
  | none => rfl
  | some p =>
    simp only [Option.bind_some, FU.lampView]
    cases s.fu.record p <;> rfl

/-- The focus source's record is all that the lamps read. -/
theorem State.lampsShown_congr {s t : State} (hfocus : t.cp.focusSource = s.cp.focusSource)
    (hview : ∀ p, s.cp.focusSource = some p → t.fu.lampView p = s.fu.lampView p) : t.lampsShown = s.lampsShown := by
  rw [State.lampsShown_eq, State.lampsShown_eq, hfocus]
  cases hp : s.cp.focusSource with
  | none => rfl
  | some p => rw [Option.bind_some, Option.bind_some, hview p hp]

theorem State.lit.congr {s t : State} (h : s.lit) (hshown : t.ii.shown = s.ii.shown)
    (hfocus : t.cp.focusSource = s.cp.focusSource)
    (hview : ∀ p, s.cp.focusSource = some p → t.fu.lampView p = s.fu.lampView p) : t.lit := by
  rw [State.lit, hshown, State.lampsShown_congr hfocus hview]
  exact h

/-- The records are all of FU that the lamps read. -/
theorem State.lit.keep {s t : State} (h : s.lit) (hshown : t.ii.shown = s.ii.shown)
    (hfocus : t.cp.focusSource = s.cp.focusSource) (hrecords : t.fu.records = s.fu.records) : t.lit :=
  h.congr hshown hfocus fun p _ => by rw [FU.lampView, FU.lampView, FU.record, FU.record, hrecords]

theorem State.showLamps_lit (s : State) : s.showLamps.lit := rfl

@[simp] theorem State.moveRecord_lit (s : State) (r : SrcRec) (st : RecState) : (s.moveRecord r st).lit :=
    State.showLamps_lit _

/-- A record put that has the state and the lamps of the one it replaces. -/
theorem FU.lampView_put {f : FU} {q r : SrcRec} (hq : f.record r.station = some q) (hstate : r.state = q.state)
    (hlamps : r.lamps = q.lamps) (p : Nat) : (f.put r).lampView p = f.lampView p := by
  unfold FU.lampView
  rw [FU.record_put]
  split
  · next h =>
    rw [h, hq]
    exact congrArg some (Prod.ext hstate hlamps)
  · rfl

section Work
variable {s : State} (h : s.lit)
include h

theorem State.putRecord_lit {q r : SrcRec} (hq : s.fu.record r.station = some q) (hstate : r.state = q.state)
    (hlamps : r.lamps = q.lamps) : (s.putRecord r).lit :=
  h.congr rfl rfl fun p _ => FU.lampView_put hq hstate hlamps p

theorem State.requestSource_lit (p : Nat) : (s.requestSource p).lit := by
  unfold State.requestSource
  split
  · exact h
  · split
    · exact h
    · exact h
    · exact State.moveRecord_lit _ _ _
    · exact State.moveRecord_lit _ _ _

theorem State.sendInput_lit {r : SrcRec} (hr : s.fu.record r.station = some r) (k : Snapshot) (b : Buttons)
    (f : Option PtrField) (w : Int) : (s.sendInput r k b f w).lit := by
  refine h.congr (by simp [State.sendInput]) (by simp [State.sendInput]) fun p _ => ?_
  unfold FU.lampView
  rw [State.sendInput_record]
  split
  · next hp => rw [hp, hr]; rfl
  · rfl

theorem State.leaveSent_lit {r : SrcRec} (hr : s.fu.record r.station = some r) : (s.leaveSent r).lit := by
  refine h.congr (by simp [State.leaveSent]) (by simp [State.leaveSent]) fun p _ => ?_
  unfold FU.lampView
  rw [State.leaveSent_record]
  split
  · next hp => rw [hp, hr]; rfl
  · rfl

theorem State.runLeave_lit {r : SrcRec} (hr : s.fu.record r.station = some r) (k : LeaveKind) :
    (s.runLeave r k).lit := by
  cases k with
  | clear => exact State.leaveSent_lit h hr
  | release => exact State.moveRecord_lit _ _ _

theorem State.leave_lit {r : SrcRec} (hr : s.fu.record r.station = some r) (k : LeaveKind) : (s.leave r k).lit := by
  refine iteInduction (motive := State.lit) (fun _ => State.runLeave_lit h hr k) fun _ => ?_
  obtain ⟨j, -, -, heq, -⟩ := s.setPending_eq r k
  rw [heq]
  exact h.congr rfl rfl fun p _ => FU.lampView_put (r := { r with leave := some j }) hr rfl rfl p

theorem State.releaseSource_lit (p : Nat) : (s.releaseSource p).lit := by
  unfold State.releaseSource
  split
  · exact h
  · next r hr =>
    split
    · exact h
    · exact State.moveRecord_lit _ _ _
    · exact State.moveRecord_lit _ _ _
    · exact State.leave_lit h (FU.station_of_record hr ▸ hr) .release

/-- After a change of the focus source the lamps are shown anew. -/
theorem State.focusFrom_lit_of {p : Option Nat} {t : State} (hshown : t.ii.shown = s.ii.shown)
    (hrecords : t.fu.records = s.fu.records) (hp : p = s.cp.focusSource) : (t.focusFrom p).lit :=
  iteInduction (motive := State.lit) (fun hsame => h.keep hshown (hsame.trans hp) hrecords)
    fun _ => State.showLamps_lit _

theorem State.runLeaves_lit (l : List Nat) : (State.runLeaves l s).lit := by
  induction l generalizing s with
  | nil => exact h
  | cons p l ih =>
    unfold State.runLeaves
    split
    · split
      · exact ih h
      · next r hr =>
        split
        · exact ih h
        · exact ih (State.runLeave_lit h (FU.station_of_record hr ▸ hr) _)
    · exact h

theorem State.buildInput_lit {r : SrcRec} (hr : s.focusRecord = some r) : (s.buildInput r).lit := by
  obtain ⟨-, hrecord⟩ := State.focusRecord_eq_some hr
  exact (State.sendInput_lit h hrecord s.inputSnapshot s.cp.buttons s.cp.field (wheelShare s.cp.wheel)).keep rfl rfl rfl

theorem State.judgeInput_lit : s.judgeInput.lit := by
  have hleaves := State.runLeaves_lit h s.fu.leaveOrder
  unfold State.judgeInput
  dsimp only
  split
  · exact hleaves
  · next r hr =>
    split
    · exact State.buildInput_lit hleaves hr
    · exact hleaves

theorem State.judgeAtDesk_lit : s.judgeAtDesk.lit :=
  iteInduction (motive := State.lit) (fun _ => State.judgeInput_lit h) fun _ => h

theorem State.reconcile_lit {r : SrcRec} (hr : s.fu.record r.station = some r) (i : Option Byte) (w : Bool) :
    (s.reconcile r i w).lit := by
  have hsent : (s.sendRelease r).lit := h.keep (by simp) (by simp) (by simp)
  unfold State.reconcile
  split
  · exact hsent
  · exact iteInduction (motive := State.lit) (fun _ => hsent) fun _ => h
  · exact State.moveRecord_lit _ _ _
  · exact h
  · exact State.moveRecord_lit _ _ _
  · exact iteInduction (motive := State.lit) (fun _ => h) fun _ => State.moveRecord_lit _ _ _
  · exact State.putRecord_lit h hr rfl rfl
  · exact State.moveRecord_lit _ _ _

theorem State.takeVerdict_lit (r : SrcRec) (v : Verdict) : (s.takeVerdict r v).lit := by
  unfold State.takeVerdict
  split <;> simp [h]

end Work

/-! ### The records of a layout change (R63) -/

section Records
variable (s : State)

theorem State.removeRecord_record (r : SrcRec) (p : Nat) :
    (s.removeRecord r).fu.record p = if p = r.station then none else (s.dropRecord r).fu.record p := by
  have hrecords : (s.removeRecord r).fu.records = (s.dropRecord r).fu.records.filter fun q => q.station ≠ r.station :=
    rfl
  rw [FU.record, hrecords, List.find?_filter]
  split
  · next h => simp [h]
  · next h =>
    rw [FU.record]
    congr 1
    funext q
    by_cases hq : q.station = p <;> simp [hq, h]

theorem State.foldl_removeRecord_record (l : List SrcRec) (p : Nat) : ∀ s : State,
    (l.foldl State.removeRecord s).fu.record p = if p ∈ l.map SrcRec.station then none else s.fu.record p := by
  induction l with
  | nil => simp
  | cons r l ih =>
    intro s
    rw [List.foldl_cons, ih, State.removeRecord_record]
    by_cases hr : p = r.station
    · simp [hr]
    · simp [hr, s.dropRecord_record_other hr]

/-- The records of the sources in the layout stay; the others are gone. -/
theorem State.recordsDropped_record (p : Nat) :
    s.recordsDropped.fu.record p = if p ∈ s.cp.sources then s.fu.record p else none := by
  rw [State.recordsDropped, State.foldl_removeRecord_record]
  by_cases hp : p ∈ s.cp.sources
  · have hkept : p ∉ s.goneRecords.map SrcRec.station := by
      simp only [State.goneRecords, List.mem_map, List.mem_filter]
      rintro ⟨r, ⟨-, hr⟩, rfl⟩
      simp [hp] at hr
    rw [if_neg hkept, if_pos hp]
  · rw [if_neg hp]
    cases hr : s.fu.record p with
    | none => exact ite_self _
    | some r =>
      have hst := FU.station_of_record hr
      exact if_pos (List.mem_map.2 ⟨r, List.mem_filter.2 ⟨List.mem_of_find?_eq_some hr, by simp [hst, hp]⟩, hst⟩)

omit s in
/-- Among records made for some stations, a station has the one made for it. -/
theorem find?_map_station {f : Nat → SrcRec} (hf : ∀ q, (f q).station = q) (l : List Nat) (p : Nat) :
    (l.map f).find? (fun r => r.station = p) = if p ∈ l then some (f p) else none := by
  induction l with
  | nil => rfl
  | cons q l ih =>
    by_cases hq : q = p
    · simp [hf, hq]
    · simpa [hf, hq, Ne.symm hq] using ih

/-- The records kept take the watched channels of the layout, and each new source gets a record (R52). -/
theorem State.fillRecords_record (p : Nat) : s.fillRecords.fu.record p
    = match s.fu.record p with
      | some r => some { r with watched := s.cp.watched p }
      | none => if p ∈ s.cp.sources then some (newRecord p (s.cp.watched p) s.now) else none := by
  have hkept : (s.fu.records.map fun r => { r with watched := s.cp.watched r.station }).find? (fun r => r.station = p)
      = (s.fu.record p).map fun r => { r with watched := s.cp.watched r.station } := by
    rw [List.find?_map]
    rfl
  have hfind : s.fillRecords.fu.record p
      = ((s.fu.records.map fun r => { r with watched := s.cp.watched r.station }).find? fun r => r.station = p).or
        (((s.cp.sources.filter fun p => !(s.fu.records.map fun r =>
          { r with watched := s.cp.watched r.station }).any fun r => r.station = p).map fun p =>
            newRecord p (s.cp.watched p) s.now).find? fun r => r.station = p) := List.find?_append
  rw [hfind, hkept]
  cases hr : s.fu.record p with
  | some r => simp [FU.station_of_record hr]
  | none =>
    have hnew : (s.fu.records.map fun r => { r with watched := s.cp.watched r.station }).any (fun r => r.station = p)
        = false := by simpa [FU.record] using hr
    rw [Option.map_none, Option.none_or, find?_map_station fun _ => rfl]
    simp only [List.mem_filter, hnew, Bool.not_false, and_true]

end Records

/-! ### The lamps over a layout change, commands and keys (R10, R49) -/

@[simp] theorem II.keysHeard_shown (i : II) (consumed : Bool) (now : Time) :
    (i.keysHeard consumed now).shown = i.shown := by
  have hpassed : (i.takeRaw i.unionKeys consumed).passOn.shown = i.shown := by
    unfold II.passOn; split <;> rfl
  unfold II.keysHeard II.hotkeyAfter
  dsimp only
  (repeat' split) <;> exact hpassed

theorem CP.focusSource_of_lasting_eq {c d : CP} (h : c.lasting = d.lasting) : c.focusSource = d.focusSource :=
  (congrArg CP.focusSource h :)

/-- The focus source is one of the layout's sources. -/
theorem CP.focusSource_mem_sources {c : CP} {p : Nat} (h : c.focusSource = some p) : p ∈ c.sources := by
  unfold CP.focusSource at h
  split at h
  · cases h
  · next k _ =>
    obtain ⟨x, hx, hst⟩ := Option.map_eq_some_iff.1 h
    exact CP.mem_sources.2 ⟨x, CP.mem_streams.2 ⟨k, hx⟩, hst⟩

section Lit
variable {s : State} (h : s.lit)
include h

theorem State.dropRecord_lit (r : SrcRec) : (s.dropRecord r).lit := by
  have hsent : (s.sendRelease r).lit := h.keep (by simp) (by simp) (by simp)
  unfold State.dropRecord
  split
  · exact iteInduction (motive := State.lit) (fun _ => State.moveRecord_lit _ _ _) fun _ => hsent
  · exact hsent
  · exact h
  · exact h

/-- A record other than the focus record removed. -/
theorem State.removeRecord_lit {r : SrcRec} (hr : (s.dropRecord r).cp.focusSource ≠ some r.station) :
    (s.removeRecord r).lit := by
  refine (State.dropRecord_lit h r).congr rfl rfl fun p hp => ?_
  have hother : p ≠ r.station := fun e => hr (hp.trans (congrArg some e))
  rw [FU.lampView, State.removeRecord_record, if_neg hother]
  rfl

theorem State.recordsDropped_lit : s.recordsDropped.lit := by
  have key (l : List SrcRec) : ∀ u : State, u.lit → (∀ r ∈ l, u.cp.focusSource ≠ some r.station) →
      (l.foldl State.removeRecord u).lit := by
    induction l with
    | nil => exact fun _ hu _ => hu
    | cons r l ih =>
      intro u hu hl
      have hdrop : (u.dropRecord r).cp.focusSource = u.cp.focusSource :=
        CP.focusSource_of_withWheel_eq (u.removeRecord_sansFlights r).2
      have hremove : (u.removeRecord r).cp.focusSource = u.cp.focusSource :=
        CP.focusSource_of_withWheel_eq (u.removeRecord_sansFlights r).2
      exact ih _ (State.removeRecord_lit hu (hdrop ▸ hl r List.mem_cons_self))
        fun q hq => hremove ▸ hl q (List.mem_cons_of_mem _ hq)
  refine key _ s h fun r hr hfocus => ?_
  obtain ⟨-, hgone⟩ := List.mem_filter.1 hr
  simp [CP.focusSource_mem_sources hfocus] at hgone

theorem State.fillRecords_lit : s.fillRecords.lit := by
  have hsame : s.fillRecords.lampsShown = s.lampsShown := by
    rw [State.lampsShown_eq, State.lampsShown_eq]
    have hfocus : s.fillRecords.cp.focusSource = s.cp.focusSource := rfl
    rw [hfocus]
    cases hp : s.cp.focusSource with
    | none => rfl
    | some p =>
      simp only [Option.bind_some, FU.lampView, State.fillRecords_record]
      cases hr : s.fu.record p with
      | some r => rfl
      | none =>
        dsimp only
        split <;> rfl
  exact Eq.trans h hsame.symm

theorem State.updateRecords_lit : s.updateRecords.lit := State.fillRecords_lit (State.recordsDropped_lit h)

theorem State.changeLayout_lit (n : Nat) : (s.changeLayout n).lit := by
  rw [State.changeLayout_stages]
  set w := (s.selected n).updateCtxs (s.streamsGone n) with hw
  have hfocus : (w.updateRecords.focusFrom s.cp.focusSource).lit := by
    refine iteInduction (motive := State.lit) (fun hsame => ?_) fun _ => State.showLamps_lit _
    have hwfocus : w.updateRecords.cp.focusSource = w.cp.focusSource :=
      CP.focusSource_of_withWheel_eq w.updateRecords_sansFlights.2
    exact State.updateRecords_lit (h.keep (by simp [hw, State.selected]) (hwfocus.symm.trans hsame)
      (by simp [hw, State.selected]))
  exact hfocus.keep (by simp) (CP.focusSource_of_lasting_eq (by simp)) (by simp)

theorem State.command_lit (c : Command) : (s.command c).lit := by
  cases c with
  | select n => exact iteInduction (motive := State.lit) (fun _ => h) fun _ => State.changeLayout_lit h n
  | request =>
    unfold State.command
    dsimp only
    split
    · exact h
    · exact State.requestSource_lit h _
  | release =>
    unfold State.command
    dsimp only
    split
    · exact h
    · exact State.releaseSource_lit h _
  | acknowledge => exact h.keep (by simp [State.command]) (by simp [State.command]) (by simp [State.command])
  | confine => exact h.keep rfl rfl rfl
  | leave => exact h

theorem State.rawChanged_lit (consumed : Bool) : (s.rawChanged consumed).lit := by
  by_cases hraw : s.ii.unionKeys = s.ii.raw
  · rwa [State.rawChanged_of_same consumed hraw]
  · rw [State.rawChanged_of_ne consumed hraw]
    have hheard : (s.keysHeard consumed).lit := h.keep (by simp) (by simp) (s.keysHeard_records consumed)
    exact State.command_lit hheard _

theorem State.clearPort_lit (i : Fin 2) (p : HostPort) : (s.clearPort i p).lit := by
  have hemptied : (s.portEmptied i p).lit := h.keep rfl rfl rfl
  rw [State.clearPort_eq]
  exact State.judgeInput_lit ((State.rawChanged_lit hemptied false).keep (by simp) (by simp) (by simp))

theorem State.takeMotion_lit (i : Fin 2) (m : MouseMotion) : (s.takeMotion i m).lit := by
  cases hhead : s.cp.head with
  | none => simpa [State.takeMotion, hhead] using h
  | some k =>
    rw [State.takeMotion_of_head hhead]
    exact State.judgeInput_lit (State.focusFrom_lit_of h (by simp) (by simp) rfl)

end Lit

end Sys2Proof.Machine
end

section
/-!
PROOF. What the desk's blocks derive is up to date after every step (R15, R33, R49, R154).
-/

namespace Sys2Proof.Machine

/-! ### What is read of the contexts -/

/-- What CP and HU read of a stream's context. -/
def SR.view (r : SR) (x : Stream) : Option (CtxState × Fin 4 × Option Size) :=
  (r.ctx x).map fun k => (k.state, k.region, k.mode)

/-- What the placement records read of it. -/
def SR.site (r : SR) (x : Stream) : Option (Fin 4 × Option Size) := (r.ctx x).map fun k => (k.region, k.mode)

theorem SR.site_of_view_eq {r r' : SR} (h : r'.view = r.view) : r'.site = r.site := by
  have hsite (q : SR) : q.site = fun x => (q.view x).map Prod.snd := by
    funext x
    simp [SR.site, SR.view, Function.comp_def]
  rw [hsite, hsite, h]

/-- A head's placement record as canvas `c` and the contexts give it (R12). -/
def SR.placementOn (r : SR) (c : CP) (h : Fin 4) : Option Placement :=
  (c.shown h).bind fun x => (r.site x).bind fun v =>
    v.2.map fun z => placement v.1 z (c.heads.get h).w (c.heads.get h).h

theorem State.placementOf_eq (s : State) : s.placementOf = s.sr.placementOn s.cp := by
  funext h
  unfold State.placementOf SR.placementOn SR.site
  cases s.cp.shown h with
  | none => rfl
  | some x =>
    simp only [Option.bind_some]
    cases s.sr.ctx x <;> rfl

theorem State.mapPointer_eq (s : State) : s.mapPointer
    = s.cp.head.bind fun h => (s.cp.shown h).bind fun x => (s.sr.places.get h).bind fun p => (s.sr.view x).bind fun v =>
        if v.1 = .live then
          some ⟨x.channel, mapAxis s.cp.x (s.cp.heads.get h).cx p.ox p.dw p.k,
            mapAxis s.cp.y (s.cp.heads.get h).cy p.oy p.dh p.k⟩
        else none := by
  unfold State.mapPointer SR.view
  cases s.cp.head with
  | none => rfl
  | some h =>
    simp only [Option.bind_some]
    cases s.cp.shown h with
    | none => rfl
    | some x =>
      simp only [Option.bind_some]
      cases s.sr.places.get h with
      | none => rfl
      | some p =>
        simp only [Option.bind_some]
        cases s.sr.ctx x <;> rfl

theorem State.underlying_eq (s : State) (h : Fin 4) : s.underlying h
    = ((s.cp.shown h).bind s.sr.view).elim .noStream fun v => match v.1 with
        | .waiting | .lost => .noStream
        | .live => .active
        | .stale => .stale := by
  unfold State.underlying
  cases s.cp.shown h with
  | none => rfl
  | some x =>
    simp only [Option.bind_some, SR.view]
    cases s.sr.ctx x with
    | none => rfl
    | some k => cases hk : k.state <;> simp [hk]

/-! ### The three values, and what leaves them up to date -/

/-- The placement records are up to date with canvas `c` (R12). -/
def SR.wellPlaced (r : SR) (c : CP) : Prop := r.places = Quad.ofFn (r.placementOn c)

/-- The heads' states are up to date (R154). -/
def State.headsShown (s : State) : Prop := ∀ h, (s.hu.heads.get h).state = s.headState h

/-- Placement records, pointer field and heads' states are up to date. -/
def State.inView (s : State) : Prop := s.sr.wellPlaced s.cp ∧ s.cp.field = s.mapPointer ∧ s.headsShown

theorem State.derivedRule_iff (s : State) : s.DerivedRule ↔ s.inView ∧ s.lit := by
  unfold State.DerivedRule State.inView SR.wellPlaced State.lit State.headsShown
  rw [s.placementOf_eq]
  tauto

/-- What is read of CP, but for the pointer field. -/
def CP.sight (c : CP) : CP := { c.canvas with head := c.head, x := c.x, y := c.y }

theorem CP.canvas_of_sight_eq {c d : CP} (h : c.sight = d.sight) : c.canvas = d.canvas := (congrArg CP.canvas h :)

theorem SR.placementOn_congr {r r' : SR} {c c' : CP} (hsite : r'.site = r.site) (hcp : c'.canvas = c.canvas) :
    r'.placementOn c' = r.placementOn c := by
  funext h
  rw [SR.placementOn, SR.placementOn, hsite, CP.shown_of_canvas_eq hcp, CP.heads_of_canvas_eq hcp]

theorem SR.wellPlaced.congr {r r' : SR} {c c' : CP} (h : r.wellPlaced c) (hsite : r'.site = r.site)
    (hplaces : r'.places = r.places) (hcp : c'.canvas = c.canvas) : r'.wellPlaced c' := by
  rw [SR.wellPlaced, hplaces, SR.placementOn_congr hsite hcp]
  exact h

theorem State.mapPointer_congr_of_sight {s t : State} (hview : t.sr.view = s.sr.view)
    (hplaces : t.sr.places = s.sr.places)
    (hcp : t.cp.sight = s.cp.sight) : t.mapPointer = s.mapPointer := by
  have hcanvas := CP.canvas_of_sight_eq hcp
  have hhead : t.cp.head = s.cp.head := (congrArg CP.head hcp :)
  have hx : t.cp.x = s.cp.x := (congrArg CP.x hcp :)
  have hy : t.cp.y = s.cp.y := (congrArg CP.y hcp :)
  rw [State.mapPointer_eq, State.mapPointer_eq, hview, hplaces, CP.shown_of_canvas_eq hcanvas,
    CP.heads_of_canvas_eq hcanvas, hhead, hx, hy]

theorem State.headState_congr {s t : State} (hview : t.sr.view = s.sr.view) (hcp : t.cp.canvas = s.cp.canvas)
    (hblank : t.hu.blank = s.hu.blank) (hstart : t.sa.start = s.sa.start) (h : Fin 4) :
      t.headState h = s.headState h := by
  rw [State.headState, State.headState, State.underlying_eq, State.underlying_eq, hview, CP.shown_of_canvas_eq hcp,
    CP.heads_of_canvas_eq hcp, hblank, hstart]

theorem State.headsShown.congr {s t : State} (h : s.headsShown) (hview : t.sr.view = s.sr.view)
    (hcp : t.cp.canvas = s.cp.canvas) (hhu : t.hu = s.hu) (hstart : t.sa.start = s.sa.start) : t.headsShown := by
  intro k
  rw [State.headState_congr hview hcp (by rw [hhu]) hstart, hhu]
  exact h k

/-- Work that leaves the heads, and of the contexts, the canvas and the pointer what is read of them. -/
theorem State.inView.congr {s t : State} (h : s.inView) (hview : t.sr.view = s.sr.view)
    (hplaces : t.sr.places = s.sr.places) (hcp : t.cp.withWheel 0 = s.cp.withWheel 0) (hhu : t.hu = s.hu)
    (hstart : t.sa.start = s.sa.start) : t.inView := by
  obtain ⟨hplaced, hfield, hheads⟩ := h
  have hsight : t.cp.sight = s.cp.sight := (congrArg CP.sight hcp :)
  have hkept : t.cp.field = s.cp.field := (congrArg CP.field hcp :)
  have hcanvas := CP.canvas_of_sight_eq hsight
  exact ⟨hplaced.congr (SR.site_of_view_eq hview) hplaces hcanvas,
    hkept.trans (hfield.trans (State.mapPointer_congr_of_sight hview hplaces hsight).symm),
    hheads.congr hview hcanvas hhu hstart⟩

theorem State.recomputeHeads_headsShown (s : State) : s.recomputeHeads.headsShown := by
  intro h
  simp only [State.recomputeHeads, State.setHU_hu, Quad_get_ofFn]
  rfl

/-- CP and HU told of changed contexts bring the field and the heads up to date (R33, R154). -/
theorem State.streamsChanged_inView {s : State} (h : s.sr.wellPlaced s.cp) : s.streamsChanged.inView :=
  ⟨h, s.streamsChanged_field, State.recomputeHeads_headsShown _⟩

/-! ### SR's work (R140 to R149) -/

theorem SR.view_put {r : SR} {x : Stream} {k q : Ctx} (hk : r.ctx x = some k) (hstream : q.stream = k.stream)
    (hregion : q.region = k.region) (hmode : q.mode = k.mode) (hstate : q.state = k.state) :
      (r.put q).view = r.view := by
  funext y
  rw [SR.view, SR.view, SR.ctx_put, hstream, SR.stream_of_ctx hk]
  split
  · next h => rw [h, hk, Option.map_some, Option.map_some, Option.map_some, hstate, hregion, hmode]
  · rfl

theorem SR.site_put {r : SR} {x : Stream} {k q : Ctx} (hk : r.ctx x = some k) (hstream : q.stream = k.stream)
    (hregion : q.region = k.region) (hmode : q.mode = k.mode) : (r.put q).site = r.site := by
  funext y
  rw [SR.site, SR.site, SR.ctx_put, hstream, SR.stream_of_ctx hk]
  split
  · next h => rw [h, hk, Option.map_some, Option.map_some, Option.map_some, hregion, hmode]
  · rfl

/-- A PRESENCE heard moves no context's region or mode. -/
theorem SR.site_heard (r : SR) (n : Nat) (p : List Byte) :
    SR.site { r with ctxs := r.ctxs.map fun k => k.heard n p } = r.site := by
  have hheard (k : Ctx) : (k.heard n p).stream = k.stream ∧ (k.heard n p).region = k.region
      ∧ (k.heard n p).mode = k.mode := by
    unfold Ctx.heard; split <;> exact ⟨rfl, rfl, rfl⟩
  funext x
  simp only [SR.site, SR.ctx, List.find?_map, Function.comp_def, hheard, Option.map_map]

/-- The placement records stay up to date under SR's work. -/
theorem wellPlaced_kept (c : CP) : KeptBySr c fun r => r.wellPlaced c := by
  refine ⟨fun h hk hs hr hm => h.congr (SR.site_put hk hs hr hm) rfl rfl, fun _ h => h.congr rfl rfl rfl,
    fun n p h => h.congr (SR.site_heard _ n p) rfl rfl, fun {r x k q} z h hk hs hr hm => ?_⟩
  have hstream : q.stream = x := hs.trans (SR.stream_of_ctx hk)
  have hplaces : (r.placed c q z).places = Quad.ofFn fun g => if c.shown g = some q.stream
      then some (placement q.region z (c.heads.get g).w (c.heads.get g).h) else r.places.get g := rfl
  rw [SR.wellPlaced, hplaces]
  refine congrArg Quad.ofFn (funext fun g => ?_)
  have hsite : (r.placed c q z).site = (r.put q).site := rfl
  rw [SR.placementOn, hsite]
  split
  · next hshown =>
    have hq : (r.put q).ctx q.stream = some q := by rw [hstream]; exact SR.ctx_put_same hk hstream
    simp [hshown, SR.site, hq, hm]
  · next hshown =>
    rw [show r.places.get g = r.placementOn c g by rw [h, Quad_get_ofFn], SR.placementOn]
    refine Option.bind_congr fun y hy => ?_
    have hother : y ≠ x := fun e => hshown (by rw [hstream, ← e]; exact hy)
    rw [SR.site, SR.site, SR.ctx_put_other hstream hother]

/-- What an ordinary command's work leaves of the start (R183). -/
theorem State.Ordinary.start {s t : State} (h : s.Ordinary False t) : t.sa.start = s.sa.start :=
  (congrArg SA.start h.1 :)

section Ops
variable {s : State} (h : s.inView)
include h

/-- Work on FU's side alone. -/
theorem State.inView.keep {t : State} (hsr : t.sr = s.sr) (hcp : t.cp.withWheel 0 = s.cp.withWheel 0)
    (hhu : t.hu = s.hu)
    (hstart : t.sa.start = s.sa.start) : t.inView := h.congr (by rw [hsr]) (by rw [hsr]) hcp hhu hstart

theorem State.judgeInput_inView : s.judgeInput.inView :=
  h.keep (by simp) (by simp) (by simp) (State.judgeInput_ordinary (.refl ..)).start

theorem State.focusFrom_inView (p : Option Nat) : (s.focusFrom p).inView :=
  h.keep (by simp) (by simp) (by simp) (State.focusFrom_ordinary (.refl ..) p).start

omit h in
theorem State.needRepair_view (x : Stream) :
    (s.needRepair x).sr.view = s.sr.view ∧ (s.needRepair x).sr.places = s.sr.places := by
  cases hk : s.sr.ctx x with
  | none => simp [State.needRepair, hk]
  | some k =>
    rw [State.needRepair_sr hk]
    exact ⟨SR.view_put hk rfl rfl rfl rfl, rfl⟩

omit h in
theorem State.takeSeq_view {u : State} {x : Stream} {n : BitVec 16} (e : s.takeSeq x n = some u) :
    u.sr.view = s.sr.view ∧ u.sr.places = s.sr.places := by
  obtain ⟨k, q, hk, hput, hstream, hregion, hmode, hstate⟩ := State.takeSeq_eq_some e
  rw [hput]
  exact ⟨SR.view_put hk hstream hregion hmode hstate, rfl⟩

omit h in
/-- A TILE changes nothing that is read of a context (R146). -/
theorem State.tile_view (m : RxMsg) : (s.tile m).sr.view = s.sr.view ∧ (s.tile m).sr.places = s.sr.places := by
  have htaken (u : State) (x : Stream) (p : List Byte) :
      (u.takeTile x p).sr.view = u.sr.view ∧ (u.takeTile x p).sr.places = u.sr.places := by
    unfold State.takeTile
    split
    · exact ⟨rfl, rfl⟩
    · split
      · exact ⟨rfl, rfl⟩
      · split
        · split
          · exact (u.latch .malformed).needRepair_view x
          · exact ⟨rfl, rfl⟩
        · exact ⟨rfl, rfl⟩
  unfold State.tile
  split
  · exact ⟨rfl, rfl⟩
  · next u e =>
    obtain ⟨hview, hplaces⟩ := htaken u m.stream m.payload
    obtain ⟨hview', hplaces'⟩ := State.takeSeq_view e
    exact ⟨hview.trans hview', hplaces.trans hplaces'⟩

theorem State.tile_inView (m : RxMsg) : (s.tile m).inView :=
  h.congr (State.tile_view m).1 (State.tile_view m).2 (by simp) (by simp) (State.tile_ordinary (.refl ..) m).start

theorem State.takeSeq_inView {u : State} {x : Stream} {n : BitVec 16} (e : s.takeSeq x n = some u) : u.inView := by
  obtain ⟨hview, hplaces⟩ := State.takeSeq_view e
  exact h.congr hview hplaces (by simp [State.takeSeq_frame e]) (by simp [State.takeSeq_frame e])
    (State.takeSeq_ordinary (.refl ..) e).start

theorem State.takeClose_inView (x : Stream) (f : CloseContent) : (s.takeClose x f).inView := by
  have hplaced : (s.takeClose x f).sr.wellPlaced s.cp := (wellPlaced_kept s.cp).takeClose rfl h.1 x f
  cases hok : f.ok with
  | false =>
    rw [State.takeClose_of_malformed hok]
    exact h.keep rfl rfl rfl rfl
  | true =>
    cases hk : s.sr.ctx x with
    | none => simpa [State.takeClose, hok, hk] using h
    | some k =>
      obtain ⟨w, hw⟩ := State.takeClose_eq_streamsChanged hk hok
      have hcanvas : (s.takeClose x f).cp.canvas = s.cp.canvas := CP.canvas_of_lasting_eq (by simp)
      rw [hw] at hplaced hcanvas ⊢
      exact State.streamsChanged_inView (hplaced.congr rfl rfl hcanvas)

theorem State.close_inView (m : RxMsg) : (s.close m).inView := by
  unfold State.close
  split
  · exact h
  · next u e => exact State.takeClose_inView (State.takeSeq_inView h e) _ _

theorem State.hearSource_inView (m : RxMsg) : (s.hearSource m).inView :=
  State.streamsChanged_inView ((wellPlaced_kept s.cp).heard m.sender m.payload h.1)

/-- Contexts changed, regions and modes kept, and CP and HU told (R147). -/
theorem State.changed_inView {x : Stream} {k q : Ctx} {t : State} (hk : s.sr.ctx x = some k)
    (hstream : q.stream = k.stream)
    (hregion : q.region = k.region) (hmode : q.mode = k.mode) (hctxs : t.sr.ctxs = (s.sr.put q).ctxs)
    (hplaces : t.sr.places = s.sr.places) (hcp : t.cp = s.cp) : t.streamsChanged.inView := by
  have hput : (s.sr.put q).wellPlaced s.cp := (wellPlaced_kept s.cp).put h.1 hk hstream hregion hmode
  have hsite : t.sr.site = (s.sr.put q).site := by
    funext y
    simp only [SR.site, SR.ctx, hctxs]
  exact State.streamsChanged_inView (hput.congr hsite hplaces (by rw [hcp]))

end Ops

/-! ### Layout changes, commands, keys and the mouse (R10, R33, R42) -/

/-- The field and the heads recomputed, with the placement records up to date. -/
theorem State.recomputed_inView {s : State} (h : s.sr.wellPlaced s.cp) : s.recomputeField.recomputeHeads.inView :=
  ⟨h, rfl, State.recomputeHeads_headsShown _⟩

/-- SR's part of a layout change recomputes every placement record (R15). -/
theorem State.updateCtxs_wellPlaced (s : State) (l : List Stream) :
    (s.updateCtxs l).sr.wellPlaced (s.updateCtxs l).cp := by
  set u := ((l.foldl State.removeCtx s).cp.streams.filter fun x => ((l.foldl State.removeCtx s).sr.ctx x).isNone).foldl
    State.makeCtx (l.foldl State.removeCtx s) with hu
  have hplaced : (s.updateCtxs l).sr.places = Quad.ofFn u.placementOf := rfl
  rw [SR.wellPlaced, hplaced, u.placementOf_eq]
  rfl

/-- A layout change brings all three up to date (R10). -/
theorem State.changeLayout_inView (s : State) (n : Nat) : (s.changeLayout n).inView := by
  rw [State.changeLayout_stages]
  have hplaced := (s.selected n).updateCtxs_wellPlaced (s.streamsGone n)
  generalize (s.selected n).updateCtxs (s.streamsGone n) = w at *
  have hfocus : (w.updateRecords.focusFrom s.cp.focusSource).cp.canvas = w.cp.canvas :=
    (CP.canvas_of_lasting_eq (by simp)).trans (CP.canvas_of_withWheel_eq w.updateRecords_sansFlights.2)
  have hdone : (w.updateRecords.focusFrom s.cp.focusSource).sr.wellPlaced
    (w.updateRecords.focusFrom s.cp.focusSource).cp :=
    hplaced.congr (by simp) (by simp) hfocus
  exact (State.recomputed_inView hdone).keep (by simp) (by simp) (by simp) (State.askPresence_ordinary (.refl ..)).start

section Ops
variable {s : State} (h : s.inView)
include h

theorem State.command_inView (c : Command) : (s.command c).inView := by
  have hstart (hc : False → c ≠ .acknowledge) : (s.command c).sa.start = s.sa.start :=
    (State.command_ordinary (.refl ..) hc).start
  cases c with
  | select n => exact iteInduction (motive := State.inView) (fun _ => h) fun _ => s.changeLayout_inView n
  | request =>
    unfold State.command
    dsimp only
    split
    · exact h
    · next p _ => exact h.keep (by simp) (by simp) (by simp) (State.requestSource_ordinary (.refl ..) p).start
  | release =>
    unfold State.command
    dsimp only
    split
    · exact h
    · next p _ => exact h.keep (by simp) (by simp) (by simp) (State.releaseSource_ordinary (.refl ..) p).start
  | acknowledge =>
    exact h.keep (by simp [State.command]) (by simp [State.command]) (by simp [State.command]) (hstart False.elim)
  | confine =>
    obtain ⟨hplaced, hfield, hheads⟩ := h
    exact ⟨hplaced.congr rfl rfl rfl, hfield.trans (State.mapPointer_congr_of_sight rfl rfl rfl).symm,
      hheads.congr rfl rfl rfl rfl⟩
  | leave => exact h

theorem State.rawChanged_inView (consumed : Bool) : (s.rawChanged consumed).inView := by
  by_cases hraw : s.ii.unionKeys = s.ii.raw
  · rwa [State.rawChanged_of_same consumed hraw]
  · rw [State.rawChanged_of_ne consumed hraw]
    have hheard : (s.keysHeard consumed).inView := h.keep (by simp) (by simp) (by simp) (by simp)
    exact State.command_inView hheard _

theorem State.clearPort_inView (i : Fin 2) (p : HostPort) : (s.clearPort i p).inView := by
  obtain ⟨hplaced, -, hheads⟩ := h
  have hemptied : (s.portEmptied i p).inView :=
    ⟨hplaced.congr rfl rfl rfl, rfl, hheads.congr rfl rfl rfl rfl⟩
  rw [State.clearPort_eq]
  exact State.judgeInput_inView ((State.rawChanged_inView hemptied false).keep (by simp) (by simp) (by simp) rfl)

theorem State.takeMotion_inView (i : Fin 2) (m : MouseMotion) : (s.takeMotion i m).inView := by
  cases hhead : s.cp.head with
  | none => simpa [State.takeMotion, hhead] using h
  | some k =>
    rw [State.takeMotion_of_head hhead]
    obtain ⟨hplaced, -, hheads⟩ := h
    have hcanvas : (s.mouseMoved i k m).cp.canvas = s.cp.canvas := by
      rw [State.mouseMoved_cp]
      exact (s.cp.setButtons i m.buttons).move_canvas k m.dx m.dy
    have hmoved : (s.mouseMoved i k m).inView :=
      ⟨hplaced.congr (by simp) (by simp) hcanvas, s.mouseMoved_field i k m,
        hheads.congr (by simp) hcanvas (by simp) (by simp)⟩
    exact State.judgeInput_inView (State.focusFrom_inView hmoved _)

/-- A blanked desk woken has its heads' states recomputed (R154, R164). -/
theorem State.activity_inView : s.activity.inView := by
  obtain ⟨hplaced, hfield, hheads⟩ := h
  refine iteInduction (motive := State.inView) (fun _ => ?_) fun hnot =>
    iteInduction (motive := State.inView) (fun _ => ⟨hplaced, hfield, hheads⟩) fun _ => ?_
  · exact ⟨hplaced, hfield, State.recomputeHeads_headsShown _⟩
  · exact ⟨hplaced, hfield, hheads⟩

end Ops

/-! ### Every command at a serving desk -/

/-- All that the desk's blocks derive is up to date. -/
def State.derived (s : State) : Prop := s.inView ∧ s.lit

section Derived
variable {s : State} (h : s.derived)
include h

theorem State.judgeInput_derived : s.judgeInput.derived := ⟨State.judgeInput_inView h.1, State.judgeInput_lit h.2⟩

/-- What leaves alone all that is read and derived, save the wheel sum. -/
theorem State.derived.keep {t : State} (hsr : t.sr = s.sr) (hcp : t.cp.withWheel 0 = s.cp.withWheel 0)
    (hhu : t.hu = s.hu) (hstart : t.sa.start = s.sa.start) (hshown : t.ii.shown = s.ii.shown)
    (hrecords : t.fu.records = s.fu.records) : t.derived :=
  ⟨h.1.keep hsr hcp hhu hstart, h.2.keep hshown (CP.focusSource_of_withWheel_eq hcp) hrecords⟩

/-- Work on FU's side that shows the lamps as they then are. -/
theorem State.derived.onFu {t : State} (hlit : t.lit) (hsr : t.sr = s.sr)
    (hcp : t.cp.withWheel 0 = s.cp.withWheel 0) (hhu : t.hu = s.hu) (hgoes : s.Ordinary False t) : t.derived :=
  ⟨h.1.keep hsr hcp hhu hgoes.start, hlit⟩

theorem State.putRecord_derived {q r : SrcRec} (hq : s.fu.record r.station = some q) (hstate : r.state = q.state)
    (hlamps : r.lamps = q.lamps) : (s.putRecord r).derived :=
  ⟨h.1.keep rfl rfl rfl rfl, State.putRecord_lit h.2 hq hstate hlamps⟩

theorem State.moveRecord_derived (r : SrcRec) (st : RecState) : (s.moveRecord r st).derived :=
  h.onFu (s.moveRecord_lit r st) (by simp) (by simp) (by simp) (by simp)

theorem State.derived.take {u : State} {m : RxMsg} {k : Kind} {a : Taker} (e : s.take a k = some (m, u)) :
    u.derived := by
  obtain ⟨rfl, -⟩ := State.take_eq e
  exact h.keep rfl rfl rfl rfl rfl rfl

theorem State.activity_derived : s.activity.derived :=
  ⟨State.activity_inView h.1, h.2.keep (by simp) (by simp) (by simp)⟩

theorem State.askPresence_derived : s.askPresence.derived :=
  h.keep (by simp) (by simp) (by simp) (State.askPresence_ordinary (.refl ..)).start (by simp) (by simp)

theorem State.reportTaken_derived (i : Fin 2) (b : List Byte) : (s.reportTaken i b).derived := by
  have hanswered : (s.putPort i (s.ii.ports.get i).answered).derived := h.keep rfl rfl rfl rfl rfl rfl
  have hheard : (s.reportHeard i b).derived := by
    have htold : (if (s.ii.ports.get i).lastReport = some b then s.putPort i (s.ii.ports.get i).answered
        else (s.putPort i (s.ii.ports.get i).answered).activity).derived :=
      iteInduction (motive := State.derived) (fun _ => hanswered) fun _ => State.activity_derived hanswered
    exact htold.keep rfl rfl rfl rfl rfl rfl
  exact ⟨State.rawChanged_inView hheard.1 _, State.rawChanged_lit hheard.2 _⟩

end Derived

theorem exec_derived {s : State} (h : s.derived) {c : Instr} (hstart : ofStart c = false) :
    Ends State.derived (exec c s) := by
  by_cases hsource : ofSource c = true
  · intro t ht
    obtain ⟨hii, hcp, hfu, hsr, hhu⟩ := exec_sameDesk_of_source hsource s t ht
    obtain ⟨hsa, -⟩ := exec_keepsStart hstart ht
    exact h.keep hsr (by rw [hcp]) hhu hsa (by rw [hii]) (by rw [hfu])
  have hsame {u : State} (hsr : u.sr = s.sr) (hcp : u.cp = s.cp) (hhu : u.hu = s.hu) (hst : u.sa.start = s.sa.start)
      (hshown : u.ii.shown = s.ii.shown) (hrecords : u.fu.records = s.fu.records) : u.derived :=
    h.keep hsr (by rw [hcp]) hhu hst hshown hrecords
  cases c
  -- the link
  case linkDown =>
    refine Ends.ite (fun _ => .next ?_) fun _ => .next h
    have hdown : (s.setFP { s.fp.emptied with linkUp := false }).derived := hsame rfl rfl rfl rfl rfl rfl
    exact iteInduction (motive := State.derived) (fun _ => State.judgeInput_derived hdown) fun _ => hdown
  case transmitArbiterTake =>
    refine Ends.ite (fun _ => .next ?_) fun _ => .next h
    have hsent : s.arbiterTake.derived := hsame (by simp) (by simp) (by simp) (State.arbiterTake_ordinary id s).start
      (by simp) (by simp)
    exact iteInduction (motive := State.derived) (fun _ => State.judgeInput_derived hsent) fun _ => hsent
  case linkUp =>
    have hup : (s.setFP { s.fp with linkUp := true }).derived := hsame rfl rfl rfl rfl rfl rfl
    refine Ends.ite (fun _ => ?_) fun _ => .next h
    split
    · exact .next (hsame rfl rfl rfl rfl rfl rfl)
    · exact .next (State.askPresence_derived hup)
    · exact .next hup
    · exact .next hup
  case presenceTimerExpiry => exact Ends.ite (fun _ => .next (State.askPresence_derived h)) fun _ => .next h
  -- messages to FU and SR
  case presenceTakenByFu =>
    refine Ends.ite (fun _ => ?_) fun _ => .next h
    split
    · exact .next h
    · next m u e =>
      have hu := h.take e
      split
      · exact .next hu
      · next r hr =>
        have hr' : u.fu.record r.station = some r := FU.station_of_record hr ▸ hr
        have hput := State.putRecord_derived hu (r := { r with absence := some u.now, absent := false }) hr' rfl rfl
        have hq : (u.putRecord { r with absence := some u.now, absent := false }).fu.record r.station
            = some { r with absence := some u.now, absent := false } := by
          simp [State.putRecord, FU.record_put, hr']
        exact Ends.ite (fun _ => .next hput) fun _ => .next (State.judgeInput_derived
          (hput.onFu (State.reconcile_lit hput.2 hq _ _) (by simp) (by simp) (by simp) (by simp)))
  case controlVerdictTaken =>
    refine Ends.ite (fun _ => ?_) fun _ => .next h
    split
    · exact .next h
    · next m u e =>
      have hu := h.take e
      split
      · exact .next (hu.keep rfl rfl rfl rfl rfl rfl)
      · split
        · exact .next hu
        · next v _ _ r _ =>
          exact Ends.ite (fun _ => .next (State.judgeInput_derived
            (hu.onFu (State.takeVerdict_lit hu.2 r v) (by simp) (by simp) (by simp) (by simp)))) fun _ => .next hu
  case controlWithdrawnTaken =>
    refine Ends.ite (fun _ => ?_) fun _ => .next h
    split
    · exact .next h
    · next m u e =>
      have hu := h.take e
      split
      · exact .next (hu.keep rfl rfl rfl rfl rfl rfl)
      · split
        · exact .next hu
        · refine Ends.ite (fun _ => ?_) fun _ => .next hu
          split
          · exact .next hu
          · exact .next (State.judgeInput_derived (State.moveRecord_derived hu _ _))
  case lampsTaken =>
    refine Ends.ite (fun _ => ?_) fun _ => .next h
    split
    · exact .next h
    · next m u e =>
      have hu := h.take e
      split
      · exact .next hu
      · exact .next (hu.onFu (State.showLamps_lit _) (by simp) (by simp) (by simp) (by simp))
  case tileTaken =>
    refine Ends.ite (fun _ => ?_) fun _ => .next h
    split
    · exact .next h
    · next m u e =>
      obtain ⟨hview, hlit⟩ := h.take e
      exact .next ⟨State.tile_inView hview m, hlit.keep (by simp) (by simp) (by simp)⟩
  case frameCloseTaken =>
    refine Ends.ite (fun _ => ?_) fun _ => .next h
    split
    · exact .next h
    · next m u e =>
      obtain ⟨hview, hlit⟩ := h.take e
      exact .next (State.judgeInput_derived ⟨State.close_inView hview m,
        hlit.keep (by simp) (CP.focusSource_of_lasting_eq (by simp)) (by simp)⟩)
  case presenceTakenBySr =>
    refine Ends.ite (fun _ => ?_) fun _ => .next h
    split
    · exact .next h
    · next m u e =>
      obtain ⟨hview, hlit⟩ := h.take e
      exact .next (State.judgeInput_derived ⟨State.hearSource_inView hview m,
        hlit.keep (by simp) (CP.focusSource_of_lasting_eq (by simp [State.hearSource])) (by simp)⟩)
  -- II and CP
  case leadSeenTimerExpiry | commandTimerExpiry =>
    exact Ends.ite (fun _ => .next (hsame rfl rfl rfl rfl rfl rfl)) fun _ => .next h
  case hostDeviceConnect | hostDeviceDisconnect | enumerationComplete | enumerationFailure | transferUnanswered
      | pollTransferFailure | pollAnsweredWithNoData | lampReportComplete | lampRetryExpiry =>
    have hput (i : Fin 2) (p : HostPort) : (s.putPort i p).derived := hsame rfl rfl rfl rfl rfl rfl
    have hbad (i : Fin 2) (p : HostPort) : (s.unsupportedPort i p).derived := hsame rfl rfl rfl rfl rfl rfl
    have henum (i : Fin 2) : (s.enumerationFails i).derived :=
      iteInduction (motive := State.derived) (fun _ => hbad i _) fun _ => hput i _
    have hclear (i : Fin 2) (p : HostPort) : (s.clearPort i p).derived :=
      ⟨State.clearPort_inView h.1 i p, State.clearPort_lit h.2 i p⟩
    have hfails (i : Fin 2) (x : Transfer) : (s.transferFails i x).derived :=
      iteInduction (motive := State.derived) (fun _ => hclear i _) fun _ => hput i _
    simp only [exec, execHostDeviceConnect, execHostDeviceDisconnect, execEnumerationComplete, execEnumerationFailure,
      execTransferUnanswered, execPollTransferFailure, execPollAnsweredWithNoData, execLampReportComplete,
      execLampRetryExpiry]
    (repeat' split) <;> simp [h, hput, hbad, henum, hclear, hfails]
  case keyboardReport i l =>
    by_cases hserved : (s.ii.ports.get i).state = .polling ∧ (s.ii.ports.get i).keyboard.isSome = true
    · obtain hlen | hlen := Nat.lt_or_ge l.length 8
      · rw [exec_keyboardReport_of_short hserved.1 hserved.2 hlen]
        exact .next (hsame rfl rfl rfl rfl rfl rfl)
      · rw [exec_keyboardReport_of_whole hserved.1 hserved.2 hlen]
        exact .next (State.judgeInput_derived (State.reportTaken_derived h i _))
    · simpa [exec, execKeyboardReport, hserved] using h
  case mouseReport i l =>
    have hput : (s.putPort i (s.ii.ports.get i).answered).derived := hsame rfl rfl rfl rfl rfl rfl
    have hmoved {u : State} (hu : u.derived) (m : MouseMotion) : (u.takeMotion i m).derived :=
      ⟨State.takeMotion_inView hu.1 i m, State.takeMotion_lit hu.2 i m⟩
    have htold := State.activity_derived hput
    simp only [exec, execMouseReport]
    (repeat' split) <;> simp [h, hput, htold, hmoved]
  -- FU, SR and HU
  case inputIntervalExpiry =>
    have hran : (s.setFU { s.fu with interval := none }).derived := hsame rfl rfl rfl rfl rfl rfl
    exact Ends.ite (fun _ => .next (State.judgeInput_derived hran)) fun _ => .next h
  case askTimerExpiry p =>
    simp only [exec, execAskTimerExpiry]
    split
    · exact .next h
    · next r hr =>
      have hr' : s.fu.record r.station = some r := FU.station_of_record hr ▸ hr
      refine Ends.ite (fun _ => Ends.ite (fun _ => .next ?_) fun _ => .next ?_) fun _ => .next h
      · have hsent : (s.hand0 (.controlRequest p r.id r.watched)).derived :=
          h.keep (by simp) (by simp) (by simp) (State.hand0_ordinary (.refl ..) _).start (by simp) (by simp)
        exact State.putRecord_derived hsent (q := r) (by simpa using hr') rfl rfl
      · exact (State.moveRecord_derived h r .idle).keep rfl rfl rfl rfl rfl rfl
  case refusedTimerExpiry p | holdOffTimerExpiry p =>
    simp only [exec, execRefusedTimerExpiry, execHoldOffTimerExpiry]
    split
    · exact .next h
    · next r hr =>
      exact Ends.ite (fun _ => .next (State.putRecord_derived h (q := r) (FU.station_of_record hr ▸ hr) rfl rfl))
        fun _ => .next h
  case absenceTimerExpiry p =>
    simp only [exec, execAbsenceTimerExpiry]
    split
    · exact .next h
    · exact Ends.ite (fun _ => .next (State.judgeInput_derived (State.moveRecord_derived h _ _))) fun _ => .next h
  case staleTimerExpiry x =>
    simp only [exec, execStaleTimerExpiry]
    split
    · exact .next h
    · next k hk =>
      have hchanged := State.changed_inView h.1
        (q := { k with stale := none, state := if k.state = .live then .stale else k.state })
        (t := s.putCtx { k with stale := none, state := if k.state = .live then .stale else k.state })
        hk rfl rfl rfl rfl rfl rfl
      exact Ends.ite (fun _ => .next (State.judgeInput_derived ⟨hchanged, h.2.keep rfl rfl rfl⟩)) fun _ => .next h
  case lostTimerExpiry x =>
    simp only [exec, execLostTimerExpiry]
    split
    · exact .next h
    · next k hk =>
      have hchanged := State.changed_inView h.1 (q := { k with lost := none, state := .lost })
        (t := ((s.putCtx { k with lost := none, state := .lost }).setSR
          ((s.putCtx { k with lost := none, state := .lost }).sr.clear k.region)).raise .streamLost)
        hk rfl rfl rfl rfl rfl rfl
      exact Ends.ite (fun _ => .next (State.judgeInput_derived ⟨hchanged, h.2.keep rfl rfl rfl⟩)) fun _ => .next h
  case repairTimerExpiry x =>
    simp only [exec, execRepairTimerExpiry]
    split
    · exact .next h
    · next k hk =>
      have hput {q : Ctx} (hs : q.stream = k.stream) (hr : q.region = k.region) (hm : q.mode = k.mode)
          (hst : q.state = k.state) : (s.putCtx q).derived :=
        ⟨h.1.congr (SR.view_put hk hs hr hm hst) rfl rfl rfl rfl, h.2.keep rfl rfl rfl⟩
      refine Ends.ite (fun _ => Ends.ite (fun _ => .next ?_) fun _ => .next ?_) fun _ => .next h
      · exact (hput (q := { k with repair := some s.now, owed := false }) rfl rfl rfl rfl).keep
          (by simp [State.requestRepair]) (by simp) (by simp) (State.requestRepair_ordinary (.refl ..) k).start
          (by simp)
          (by simp)
      · exact hput rfl rfl rfl rfl
  case minuteTimerExpiry =>
    obtain ⟨hplaced, hfield, hheads⟩ := h.1
    refine Ends.ite (fun _ => Ends.ite (fun _ => .next ⟨?_, h.2⟩) fun _ => .next ⟨?_, h.2⟩) fun _ => .next h
    · exact ⟨hplaced, hfield, State.recomputeHeads_headsShown _⟩
    · exact ⟨hplaced, hfield, hheads⟩
  case headLineStart k =>
    obtain ⟨hplaced, hfield, hheads⟩ := h.1
    refine Ends.ite (fun _ => .next ⟨⟨hplaced, hfield, fun g => Eq.trans ?_ (hheads g)⟩, h.2⟩) fun _ => .next h
    simp only [State.setHU_hu, Quad_get_set]
    split
    · next e => rw [e]
    · rfl
  case reset | imageReadComplete | listenTimerExpiry | frameReceived => cases hstart
  all_goals exact absurd rfl hsource

/-! ### The start (R180, R183) -/

/-- Without contexts nothing is placed and nothing is mapped. -/
theorem State.nothing_mapped {s : State} (h : s.sr.ctxs = []) :
    (∀ c k, s.sr.placementOn c k = none) ∧ s.mapPointer = none := by
  have hview (x : Stream) : s.sr.view x = none := by simp [SR.view, SR.ctx, h]
  have hsite (x : Stream) : s.sr.site x = none := by simp [SR.site, SR.ctx, h]
  constructor
  · intro c k
    simp [SR.placementOn, hsite]
  · simp [State.mapPointer_eq, hview]

/-- Without records no lamps are shown. -/
theorem State.lampsShown_of_no_records {s : State} (h : s.fu.records = []) : s.lampsShown = 0 := by
  have hview (p : Nat) : s.fu.lampView p = none := by simp [FU.lampView, FU.record, h]
  have hbind : s.cp.focusSource.bind s.fu.lampView = none := by
    cases s.cp.focusSource with
    | none => rfl
    | some p => exact hview p
  rw [State.lampsShown_eq, hbind]
  rfl

theorem State.headState_of_start {s : State} {st : StartState} (h : s.sa.start = st) (hst : st ≠ .serving) (k : Fin 4) :
    s.headState k = .off := by
  simp [State.headState, h, hst]

/-- Where nothing serves and the tables hold nothing, nothing is placed, mapped or shown. -/
def State.dark (s : State) : Prop :=
  s.sr.ctxs = [] ∧ s.fu.records = [] ∧ s.sr.places = Quad.ofFn (fun _ => none) ∧ s.cp.field = none ∧ s.ii.shown = 0
    ∧ ∀ k, (s.hu.heads.get k).state = .off

theorem State.derived.dark {s : State} (h : s.derived) (hnone : s.NoTables) (hs : s.sa.start ≠ .serving) : s.dark := by
  obtain ⟨⟨hplaced, hmapped, hstates⟩, hlit⟩ := h
  obtain ⟨hctxs, -, hrecords, -⟩ := hnone
  obtain ⟨hnothing, hnopointer⟩ := State.nothing_mapped hctxs
  exact ⟨hctxs, hrecords, by rw [hplaced, funext (hnothing s.cp)], hmapped.trans hnopointer,
    Eq.trans hlit (State.lampsShown_of_no_records hrecords),
      fun k => (hstates k).trans (State.headState_of_start rfl hs k)⟩

theorem State.dark.derived {s : State} (h : s.dark) (hoff : ∀ k, s.headState k = .off) : s.derived := by
  obtain ⟨hctxs, hrecords, hplaces, hfield, hshown, hheads⟩ := h
  obtain ⟨hnothing, hnopointer⟩ := State.nothing_mapped hctxs
  exact ⟨⟨by rw [SR.wellPlaced, hplaces, funext (hnothing s.cp)], hfield.trans hnopointer.symm,
    fun k => (hheads k).trans (hoff k).symm⟩, hshown.trans (State.lampsShown_of_no_records hrecords).symm⟩

section Image
variable {s : State} (h : s.dark)
include h

theorem State.refuse_derived : s.refuse.derived :=
  State.dark.derived (s := s.refuse) h (State.headState_of_start (st := .halted) rfl (by decide))

theorem State.headsRead_dark (b : List Byte) : (s.headsRead b).dark := by
  obtain ⟨-, -, -, -, -, -, -, -, hii, hfu, hsr, hhu⟩ := s.headsRead_frame b
  obtain ⟨hcp, -⟩ := s.headsRead_accepts b
  unfold State.dark at *
  rw [hii, hfu, hsr, hhu, hcp]
  exact h

theorem State.acceptDesk_derived (b : List Byte) (k : Fin 4) (lead : Lead) : (s.acceptDesk b k lead).derived := by
  obtain ⟨hctxs, hrecords, hplaces, -, hshown, hheads⟩ := h
  have hdark : (s.acceptDesk b k lead).dark := ⟨hctxs, hrecords, hplaces, rfl, hshown, fun g => by
    have hstate : ((s.acceptDesk b k lead).hu.heads.get g).state = (s.hu.heads.get g).state := by
      simp [State.acceptDesk, HU.accept, State.acceptCommon]
    exact hstate.trans (hheads g)⟩
  exact hdark.derived (State.headState_of_start (st := .listening) rfl (by decide))

theorem State.acceptSource_derived (b : List Byte) : (s.acceptSource b).derived :=
  State.dark.derived (s := s.acceptSource b) h (State.headState_of_start (st := .listening) rfl (by decide))

end Image

/-- The host ports powered and the heads begun, with what CP and HU derive (R33, R35, R152, R154). -/
def State.powered (u : State) : State :=
  ((u.setII { u.ii with ports := ⟨u.ii.ports.zero.power, u.ii.ports.one.power⟩ }).setHU
    (u.hu.begin u.cp.heads u.now)).recomputeHeads.recomputeField

theorem State.beginDesk_eq (s : State) : s.beginDesk = (s.tablesMade.focusFrom none).powered := rfl

theorem State.powered_derived {u : State} (hplaced : u.sr.wellPlaced u.cp) (hlit : u.lit) : u.powered.derived := by
  set v := (u.setII { u.ii with ports := ⟨u.ii.ports.zero.power, u.ii.ports.one.power⟩ }).setHU
    (u.hu.begin u.cp.heads u.now) with hv
  have hheads : v.recomputeHeads.headsShown := State.recomputeHeads_headsShown v
  have hshown : v.recomputeHeads.recomputeField.headsShown := hheads.congr rfl rfl rfl rfl
  exact ⟨⟨hplaced, rfl, hshown⟩, hlit⟩

/-- At the end of the listen the desk derives all anew (R33, R154). -/
theorem State.beginDesk_derived {s : State} (hdark : s.ii.shown = 0) : s.beginDesk.derived := by
  rw [State.beginDesk_eq]
  refine State.powered_derived ?_ ?_
  · have hmade : s.tablesMade.sr.wellPlaced s.tablesMade.cp :=
      congrArg Quad.ofFn (s.cp.streams.foldl State.makeCtx s).placementOf_eq
    exact hmade.congr (by simp) (by simp) (CP.canvas_of_lasting_eq (by simp))
  · refine iteInduction (motive := State.lit) (fun hnone => ?_) fun _ => State.showLamps_lit _
    have hlamps : s.tablesMade.lampsShown = 0 := by
      rw [State.lampsShown_eq, hnone]
      rfl
    have hsame : s.tablesMade.ii.shown = s.ii.shown := by simp
    exact hsame.trans (hdark.trans hlamps.symm)

/-- A source has no VALID head, so nothing is shown once it has begun. -/
theorem State.wpBegin_derived {s : State} (h : s.dark) (hinvalid : ∀ k, (s.cp.heads.get k).validity ≠ .valid) :
    s.wpBegin.derived := by
  have hdark : s.wpBegin.dark := by
    unfold State.dark at *
    simpa using h
  exact hdark.derived fun k => by simp [State.headState, hinvalid k]

theorem exec_derivedRule {s : State} (htables : s.TablesRule) (h : s.derived) (c : Instr) :
    Ends State.derived (exec c s) := by
  cases hstart : ofStart c with
  | false => exact exec_derived h hstart
  | true =>
    have hnone (hs : s.sa.start ≠ .serving) : s.NoTables := by
      rwa [State.TablesRule, if_neg (by simp [State.servingAs, hs])] at htables
    have hdark (hs : s.sa.start ≠ .serving) : s.dark := h.dark (hnone hs) hs
    cases c
    case reset r =>
      refine .next ⟨⟨rfl, rfl, fun k => ?_⟩, rfl⟩
      match k with
      | 0 | 1 | 2 | 3 => rfl
    case imageReadComplete flash =>
      refine exec_imageReadComplete_ends (fun _ => h) (fun hs => ?_) (fun b hs _ => ?_) (fun b k lead hs _ _ => ?_)
        (fun b hs _ => ?_) flash
      · exact State.refuse_derived (hdark (by simp [hs]))
      · exact State.refuse_derived (State.headsRead_dark (hdark (by simp [hs])) b)
      · exact State.acceptDesk_derived (State.headsRead_dark (hdark (by simp [hs])) b) b k lead
      · exact State.acceptSource_derived (hdark (by simp [hs])) b
    case listenTimerExpiry =>
      refine exec_listenTimerExpiry_ends h (fun hs hrole => ?_) fun hs hrole => ?_
      · obtain ⟨-, -, -, -, hshown, -⟩ := hdark (by simp [hs])
        exact State.askPresence_derived (State.beginDesk_derived (s := s.stagesSet) hshown)
      · obtain ⟨-, -, -, -, -, hinvalid⟩ := hnone (by simp [hs])
        exact State.askPresence_derived
          (State.wpBegin_derived (s := s.stagesSet) (hdark (by simp [hs])) (hinvalid hrole))
    case frameReceived fcs f =>
      refine exec_frameReceived_ends h (fun c => ?_) (fun hs => ?_) (fun m _ _ => ?_) fcs f
      · exact h.keep rfl rfl rfl rfl rfl rfl
      · exact State.dark.derived (s := (s.latch .stationClash).enterHalted) (hdark (by simp [hs]))
          (State.headState_of_start (st := .halted) rfl (by decide))
      · exact h.keep rfl rfl rfl rfl rfl rfl
    all_goals cases hstart

/-- Settles O15: work on the contexts recomputes what is read of them, work on the records shows the lamps as they then
are, and the start derives all anew. -/
theorem derivedKept : Obligations.DerivedKept := by
  intro s t htables h hstep
  refine t.derivedRule_iff.2 ?_
  exact step_leads (P := fun s => s.TablesRule ∧ s.derived) (Q := State.derived) (fun _ _ => id) (fun _ hs => hs.2)
    (fun c _ hs => exec_derivedRule hs.1 hs.2 c) ⟨htables, s.derivedRule_iff.1 h⟩ hstep

end Sys2Proof.Machine
end

section
/-!
PROOF. A layout change at CP, HU and SR (R10, R137 to R139): what the messages taken first leave alone, the contexts
made, and STREAM-LOST.
-/

namespace Sys2Proof.Machine

/-! ### What the messages taken first leave alone -/

/-- HU without the heads' own states. -/
def HU.sansHeads (u : HU) : HU := { u with heads := HU.reset.heads }

theorem HU.eq_of_sansHeads_eq {u v : HU} (h : u.sansHeads = v.sansHeads) : u = { v with heads := u.heads } :=
  (congrArg (fun k : HU => { k with heads := u.heads }) h :)

section Taken
variable (s : State)

@[simp] theorem State.recomputeHeads_sansHeads : s.recomputeHeads.hu.sansHeads = s.hu.sansHeads := rfl

@[simp] theorem State.streamsChanged_sansHeads : s.streamsChanged.hu.sansHeads = s.hu.sansHeads := by
  simp [State.streamsChanged]

@[simp] theorem State.needRepair_linkUp (x : Stream) : (s.needRepair x).fp.linkUp = s.fp.linkUp := by
  unfold State.needRepair State.requestRepair; (repeat' split) <;> simp

theorem State.takeSeq_linkUp {u : State} {x : Stream} {q : BitVec 16} (e : s.takeSeq x q = some u) :
    u.fp.linkUp = s.fp.linkUp := by
  unfold State.takeSeq at e
  (repeat' split at e) <;> simp at e <;> subst e <;> simp

@[simp] theorem State.tile_kept (m : RxMsg) :
    (s.tile m).hu.sansHeads = s.hu.sansHeads ∧ (s.tile m).fp.linkUp = s.fp.linkUp := by
  refine ⟨by simp, ?_⟩
  unfold State.tile
  split
  · rfl
  · next u e =>
    unfold State.takeTile
    (repeat' split) <;> simp [State.takeSeq_linkUp s e]

@[simp] theorem State.close_kept (m : RxMsg) :
    (s.close m).hu.sansHeads = s.hu.sansHeads ∧ (s.close m).fp.linkUp = s.fp.linkUp := by
  unfold State.close
  split
  · exact ⟨rfl, rfl⟩
  · next u e =>
    unfold State.takeClose State.closeLive State.takeEpoch
    dsimp only
    (repeat' split) <;> simp [State.takeSeq_linkUp s e, State.takeSeq_frame e]

@[simp] theorem State.takeBySr_kept (m : RxMsg) :
    (s.takeBySr m).hu.sansHeads = s.hu.sansHeads ∧ (s.takeBySr m).fp.linkUp = s.fp.linkUp := by
  unfold State.takeBySr; split <;> simp [State.hearSource]

@[simp] theorem State.drainStreams_kept (l : List Stream) :
    (s.drainStreams l).hu.sansHeads = s.hu.sansHeads ∧ (s.drainStreams l).fp.linkUp = s.fp.linkUp :=
  List.foldlRecOn _ _ (motive := fun u : State => u.hu.sansHeads = s.hu.sansHeads ∧ u.fp.linkUp = s.fp.linkUp)
    ⟨rfl, rfl⟩ fun u ⟨hhu, hup⟩ e _ => ⟨(u.takeBySr_kept e.msg).1.trans hhu, (u.takeBySr_kept e.msg).2.trans hup⟩

/-- A layout change gives HU new head states alone. -/
theorem State.changeLayout_sansHeads (n : Nat) : (s.changeLayout n).hu.sansHeads = s.hu.sansHeads := by
  simp [State.changeLayout]

end Taken

/-! ### The messages of removed streams (R139, R171) -/

/-- Without a message of the streams the buffer is left as it is. -/
theorem State.drainStreams_of_none {s : State} {l : List Stream}
    (h : ∀ e ∈ s.fp.rx, e.msg.kind = .tile ∨ e.msg.kind = .frameClose → e.msg.stream ∉ l) : s.drainStreams l = s := by
  obtain ⟨hfirst, hrest⟩ := upToLastOf_of_none (l := l) (r := s.fp.rx) fun e he => by
    rw [← Bool.not_eq_true, e.isOf_iff]
    exact fun ⟨hkind, hmem⟩ => h e he hkind hmem
  unfold State.drainStreams
  rw [hfirst, hrest]
  rfl

/-- With one, SR takes what stands up to the last one. -/
theorem State.drainStreams_of_last {s : State} {l : List Stream} {a r : List RxEntry} {e : RxEntry}
    (hrx : s.fp.rx = a ++ e :: r) (hkind : e.msg.kind = .tile ∨ e.msg.kind = .frameClose) (hmem : e.msg.stream ∈ l)
    (hrest : ∀ d ∈ r, d.msg.kind = .tile ∨ d.msg.kind = .frameClose → d.msg.stream ∉ l) :
    s.drainStreams l = ((a ++ [e]).filter fun d => d.takers.contains .sr).foldl (fun s d => s.takeBySr d.msg)
      (s.setFP { s.fp with rx := (a ++ [e]).filterMap (fun d => d.without .sr) ++ r }) := by
  obtain ⟨hfirst, hbehind⟩ := upToLastOf_append ((e.isOf_iff l).2 ⟨hkind, hmem⟩) (r := r) (fun d hd => by
    rw [← Bool.not_eq_true, d.isOf_iff]
    exact fun ⟨hkind, hmem⟩ => hrest d hd hkind hmem) a
  unfold State.drainStreams
  rw [hrx, hfirst, hbehind]

/-- Each kind of message is taken as its own command takes it, the judging of INPUT apart (R140, R149). -/
theorem State.exec_of_take {s v : State} {m : RxMsg} (hs : s.servingAs .desk = true) :
    (s.take .sr .tile = some (m, v) → exec .tileTaken s = .next (v.takeBySr m))
    ∧ (s.take .sr .frameClose = some (m, v) → exec .frameCloseTaken s = .next (v.takeBySr m).judgeInput)
    ∧ (s.take .sr .presence = some (m, v) → exec .presenceTakenBySr s = .next (v.takeBySr m).judgeInput) := by
  refine ⟨fun h => ?_, fun h => ?_, fun h => ?_⟩ <;> obtain ⟨-, hkind, -⟩ := State.take_eq h
  · simp [exec, execTileTaken, hs, h, State.takeBySr, hkind]
  · simp [exec, execFrameCloseTaken, hs, h, State.takeBySr, hkind]
  · simp [exec, execPresenceTakenBySr, hs, h, State.takeBySr, hkind]

/-! ### Contexts kept and made (R138, R139) -/

/-- With one context for a stream, a context is the one of its stream. -/
theorem SR.ctx_of_mem {r : SR} (hnodup : (r.ctxs.map Ctx.stream).Nodup) {k : Ctx} (h : k ∈ r.ctxs) :
    r.ctx k.stream = some k := by
  cases hd : r.ctx k.stream with
  | none => exact absurd (List.mem_map_of_mem h) (SR.ctx_eq_none.1 hd)
  | some d =>
    have hmem : d ∈ r.ctxs := List.mem_of_find?_eq_some hd
    rw [List.inj_on_of_nodup_map hnodup hmem h (SR.stream_of_ctx hd)]

section Making
variable {r : SR} {l : List Stream} {ns : List (Fin 4)}

/-- A context there is stays. -/
theorem SR.making_ctx_of_some {x : Stream} {d : Ctx} (h : r.ctx x = some d) : (r.making l ns).ctx x = some d := by
  unfold SR.ctx SR.making at *
  rw [List.find?_append, h, Option.some_or]

/-- The streams get new contexts in the regions given, one after another. -/
theorem SR.making_ctx (hroom : l.length ≤ ns.length) (hnodup : ((r.making l ns).ctxs.map Ctx.stream).Nodup) :
    l.map (r.making l ns).ctx = (l.zip ns).map fun q => some (newCtx q.1 q.2) := by
  have hstreams : l = (l.zip ns).map Prod.fst := (List.map_fst_zip hroom).symm
  conv_lhs => rw [hstreams]
  rw [List.map_map, ← hstreams]
  refine List.map_congr_left fun q hq => ?_
  exact SR.ctx_of_mem hnodup (k := newCtx q.1 q.2) (List.mem_append_right _ (List.mem_map.2 ⟨q, hq, rfl⟩))

theorem SR.making_region_of_new (hroom : l.length ≤ ns.length) (hnodup : ((r.making l ns).ctxs.map Ctx.stream).Nodup) :
    l.map (fun x => ((r.making l ns).ctx x).map Ctx.region) = (ns.take l.length).map some := by
  have h := congrArg (List.map (Option.map Ctx.region)) (SR.making_ctx hroom hnodup)
  rw [List.map_map, List.map_map] at h
  rw [← map_snd_zip_eq_take, List.map_map]
  exact h

/-- A stream's new context stands in one of those regions, which is black. -/
theorem SR.making_new (hroom : l.length ≤ ns.length) (hnodup : ((r.making l ns).ctxs.map Ctx.stream).Nodup)
    {x : Stream} (hx : x ∈ l) : ∃ g, (r.making l ns).ctx x = some (newCtx x g)
      ∧ ∀ a, 16777216 * g.val ≤ a → a < 16777216 * (g.val + 1) → (r.making l ns).store.read a = 0 := by
  have hmem : (r.making l ns).ctx x ∈ l.map (r.making l ns).ctx := List.mem_map_of_mem hx
  rw [SR.making_ctx hroom hnodup] at hmem
  obtain ⟨⟨y, g⟩, hq, hctx⟩ := List.mem_map.1 hmem
  obtain rfl : y = x := SR.stream_of_ctx (c := newCtx y g) hctx.symm
  have hg : g ∈ ns.take l.length := map_snd_zip_eq_take l ns ▸ List.mem_map_of_mem (f := Prod.snd) hq
  exact ⟨g, hctx.symm, fun a hlow hhigh => (Memory.read_foldl_clearRegion _ _ a).1 ⟨g, hg, hlow, hhigh⟩⟩

/-- Outside those regions the store is as it was. -/
theorem SR.making_store (hroom : l.length ≤ ns.length) (hnodup : ((r.making l ns).ctxs.map Ctx.stream).Nodup) {a : Nat}
    (ha : ∀ x g, x ∈ l → ((r.making l ns).ctx x).map Ctx.region = some g →
      a < 16777216 * g.val ∨ 16777216 * (g.val + 1) ≤ a) : (r.making l ns).store.read a = r.store.read a := by
  refine (Memory.read_foldl_clearRegion _ _ a).2 fun g hg => ?_
  have hmem : some g ∈ (ns.take l.length).map some := List.mem_map_of_mem hg
  rw [← SR.making_region_of_new hroom hnodup] at hmem
  obtain ⟨x, hx, hregion⟩ := List.mem_map.1 hmem
  exact ha x g hx hregion

end Making

/-! ### What SR's part makes of FP and SA -/

/-- FP without its subscriptions. -/
def FP.sansSubs (f : FP) : FP := { f with subs := [] }

section Port
variable (s : State)

theorem State.makeCtx_sansSubs (x : Stream) : (s.makeCtx x).fp.sansSubs = s.fp.sansSubs := by
  unfold State.makeCtx; split <;> rfl

/-- The contexts' part of a layout change touches the subscriptions alone in FP. -/
theorem State.updateCtxs_sansSubs (l : List Stream) : (s.updateCtxs l).fp.sansSubs = s.fp.sansSubs := by
  have hremoved : (l.foldl State.removeCtx s).fp.sansSubs = s.fp.sansSubs :=
    List.foldlRecOn _ _ (motive := fun u : State => u.fp.sansSubs = s.fp.sansSubs) rfl fun u hu _ _ => hu
  exact List.foldlRecOn _ _ (motive := fun u : State => u.fp.sansSubs = s.fp.sansSubs) hremoved
    fun u hu x _ => (u.makeCtx_sansSubs x).trans hu

@[simp] theorem State.dropRecord_sansDrop (r : SrcRec) : (s.dropRecord r).sa.sansDrop = s.sa.sansDrop := by
  unfold State.dropRecord; (repeat' split) <;> simp

@[simp] theorem State.updateRecords_sansDrop : s.updateRecords.sa.sansDrop = s.sa.sansDrop :=
  List.foldlRecOn _ _ (motive := fun u : State => u.sa.sansDrop = s.sa.sansDrop) rfl
    fun u hu r _ => (u.dropRecord_sansDrop r).trans hu

@[simp] theorem State.leaveFocus_sansDrop (p : Option Nat) : (s.leaveFocus p).sa.sansDrop = s.sa.sansDrop := by
  unfold State.leaveFocus State.leave; (repeat' split) <;> simp

@[simp] theorem State.focusFrom_sansDrop (p : Option Nat) : (s.focusFrom p).sa.sansDrop = s.sa.sansDrop := by
  unfold State.focusFrom State.focusChange; split <;> simp

@[simp] theorem State.askPresence_sansDrop : s.askPresence.sa.sansDrop = s.sa.sansDrop := by
  obtain ⟨-, e⟩ | ⟨-, -, -, e⟩ | ⟨-, -, -, e⟩ := s.handPresence_cases <;> simp [State.askPresence, e]

theorem State.recomputeLost_has : s.recomputeLost.sa.current.has .streamLost = true
    ↔ ∃ d ∈ s.recomputeLost.sr.ctxs, d.state = .lost := by
  rw [State.recomputeLost, State.setCurrent_has]
  simp

/-- After a layout change STREAM-LOST stands as the contexts do (R148). -/
theorem State.changeLayout_lost (n : Nat) : (s.changeLayout n).sa.current.has .streamLost = true
    ↔ ∃ d ∈ (s.changeLayout n).sr.ctxs, d.state = .lost := by
  have hsa : (s.changeLayout n).sa.sansDrop = ((s.selected n).updateCtxs (s.streamsGone n)).sa.sansDrop := by
    rw [State.changeLayout_stages]; simp
  have hsr : (s.changeLayout n).sr = ((s.selected n).updateCtxs (s.streamsGone n)).sr := by
    rw [State.changeLayout_stages]; simp
  obtain ⟨-, -, -, -, hcurrent⟩ := SA.stages_of_sansDrop_eq hsa
  rw [hcurrent, hsr]
  exact State.recomputeLost_has _

end Port

end Sys2Proof.Machine
end

section
/-!
PROOF. A layout change at FU and FP (R52, R62, R63, R175): the records and what they send, and the statement.
-/

namespace Sys2Proof.Machine

/-! ### The records (R52, R63) -/

/-- A channel is watched exactly when its stream is shown (R52). -/
theorem CP.watched_getLsbD (c : CP) (p : Nat) (k : Fin 2) :
    (c.watched p).getLsbD k.val = true ↔ (⟨p, k⟩ : Stream) ∈ c.streams := by
  have hbit : ∀ i j : Fin 2, (channelBit i).getLsbD j.val = true ↔ i = j := by decide
  have key (l : List Stream) (w : Channels) : (l.foldl (fun w x => w ||| channelBit x.channel) w).getLsbD k.val = true
      ↔ w.getLsbD k.val = true ∨ ∃ x ∈ l, x.channel = k := by
    induction l generalizing w with
    | nil => simp
    | cons x l ih => simp [ih, BitVec.getLsbD_or, hbit, or_assoc]
  rw [CP.watched, key]
  constructor
  · rintro (h | ⟨⟨q, j⟩, hx, rfl⟩)
    · simp at h
    · obtain ⟨hx, hq⟩ := List.mem_filter.1 hx
      obtain rfl : q = p := by simpa using hq
      simpa using hx
  · exact fun h => .inr ⟨⟨p, k⟩, List.mem_filter.2 ⟨h, by simp⟩, rfl⟩

section Records
variable (s : State)

theorem State.hand0_settings (m : Out0) : (s.hand0 m).fu.settings = s.fu.settings := by simp

theorem State.runLeave_settings (r : SrcRec) (k : LeaveKind) : (s.runLeave r k).fu.settings = s.fu.settings := by
  have hsent : (s.leaveSent r).fu.settings = s.fu.settings := s.sendInput_settings r .released 0 none 0
  cases k with
  | clear => exact hsent
  | release =>
    rw [State.runLeave_release, State.moveRecord_settings, State.sendRelease, State.hand0_settings, hsent]

theorem State.dropRecord_settings (r : SrcRec) : (s.dropRecord r).fu.settings = s.fu.settings := by
  unfold State.dropRecord
  (repeat' split) <;> simp [State.runLeave_settings]

theorem State.updateRecords_settings : s.updateRecords.fu.settings = s.fu.settings :=
  List.foldlRecOn _ _ (motive := fun u : State => u.fu.settings = s.fu.settings) rfl
    fun u hu r _ => (u.dropRecord_settings r).trans hu

variable {s}

theorem State.requestSource_record_other {p q : Nat} (h : p ≠ q) :
    (s.requestSource q).fu.record p = s.fu.record p := by
  cases hr : s.fu.record q with
  | none => simp [State.requestSource, hr]
  | some r =>
    obtain ⟨hasks, hstays⟩ := State.requestSource_of_record hr
    obtain rfl := FU.station_of_record hr
    have hasked (hst : r.state = .idle ∨ r.state = .queued) :
      (s.requestSource r.station).fu.record p = s.fu.record p := by
      rw [hasks hst, State.moveRecord_record_other _ _ (by exact h)]
      simp [FU.record]
    cases hst : r.state with
    | idle => exact hasked (.inl hst)
    | queued => exact hasked (.inr hst)
    | asking => rw [hstays (.inl hst)]
    | holding => rw [hstays (.inr hst)]

theorem State.autoRequest_record_other {p : Nat} {q : Option Nat} (h : q ≠ some p) :
    (s.autoRequest q).fu.record p = s.fu.record p := by
  unfold State.autoRequest
  (repeat' split)
  · rfl
  · rfl
  · exact State.requestSource_record_other fun e => h (congrArg some e.symm)
  · rfl

/-- A focus change leaves the record alone of a source that it neither leaves nor asks for. -/
theorem State.focusFrom_record_other {P : Option Nat} {p : Nat}
    (hleft : P ≠ some p ∨ ∀ r, s.fu.record p = some r → r.state ≠ .holding)
    (hasked : s.cp.focusSource ≠ some p ∨ s.fu.autoRequest = false) : (s.focusFrom P).fu.record p = s.fu.record p := by
  by_cases hP : s.cp.focusSource = P
  · rw [State.focusFrom_of_eq hP]
  have hleave : (s.leaveFocus P).fu.record p = s.fu.record p := by
    obtain hleft | hleft := hleft
    · exact s.leaveFocus_record_other hleft
    · by_cases hp : P = some p
      · rw [State.leaveFocus_eq (a := s) (fun q r hq hr hst => ?_) fun _ => rfl]
        obtain rfl : p = q := Option.some.inj (hp.symm.trans hq)
        exact absurd hst (hleft r hr)
      · exact s.leaveFocus_record_other hp
  have hsettings : (s.leaveFocus P).fu.autoRequest = s.fu.autoRequest :=
    (congrArg FU.autoRequest (s.leaveFocus_settings P) :)
  rw [State.focusFrom_of_ne hP, State.focusChange_eq (Ne.symm hP) rfl, ← hleave]
  generalize s.leaveFocus P = a at *
  obtain hasked | hasked := hasked
  · exact State.autoRequest_record_other hasked
  · rw [State.autoRequest_of_off (by exact hsettings.trans hasked)]
    rfl

end Records

/-- The records after the update: none of a source that the layout lacks, those there were with their watched channels,
and a new one for each new source. -/
theorem State.updateRecords_record (s : State) (p : Nat) :
    (p ∉ s.cp.sources → s.updateRecords.fu.record p = none)
    ∧ (∀ r, p ∈ s.cp.sources → s.fu.record p = some r →
      s.updateRecords.fu.record p = some { r with watched := s.cp.watched p })
    ∧ (p ∈ s.cp.sources → s.fu.record p = none →
      s.updateRecords.fu.record p = some (newRecord p (s.cp.watched p) s.now)) := by
  have hsources : s.recordsDropped.cp.sources = s.cp.sources := (congrArg CP.sources s.recordsDropped_cp :)
  have hwatched : s.recordsDropped.cp.watched = s.cp.watched := (congrArg CP.watched s.recordsDropped_cp :)
  have hnow : s.recordsDropped.now = s.now :=
    List.foldlRecOn _ _ (motive := fun u : State => u.now = s.now) rfl fun u hu r _ => by
      rw [← hu]; unfold State.removeRecord State.dropRecord; (repeat' split) <;> simp
  rw [State.updateRecords_eq, State.fillRecords_record, State.recordsDropped_record, hsources, hwatched, hnow]
  refine ⟨fun hp => ?_, fun r hp hr => ?_, fun hp hr => ?_⟩ <;> simp [*]

section Changed
variable {s : State} (n : Nat)

/-- The records once the contexts are those of layout `n`: SR's part leaves FU, and CP but for the field, as they
are. -/
theorem State.changed_cp_fu : let w := (s.selected n).updateCtxs (s.streamsGone n)
    w.cp.lasting = ({ s.cp with layout := n } : CP).lasting ∧ w.fu = s.fu ∧ w.now = s.now := by
  have hcp := s.selected_lasting n
  simp only [State.updateCtxs_frame]
  exact ⟨hcp, by simp [State.selected], by simp [State.selected]⟩

theorem State.changeLayout_fu : (s.changeLayout n).fu
    = (((s.selected n).updateCtxs (s.streamsGone n)).updateRecords.focusFrom s.cp.focusSource).fu := by
  rw [State.changeLayout_stages]; simp

/-- A desk's focus source has a record. -/
theorem State.TablesOfLayout.focus_record (h : s.TablesOfLayout) {p : Nat} (hp : s.cp.focusSource = some p) :
    s.fu.record p ≠ none := by
  obtain ⟨-, -, -, -, -, hstations⟩ := h
  obtain ⟨r, hr, rfl⟩ := List.mem_map.1 ((hstations p).2 (CP.focusSource_mem_sources hp))
  simpa [FU.record, List.find?_eq_none] using ⟨r, hr, rfl⟩

omit n in
/-- The canvas that the update of the records works on. -/
theorem State.updateRecords_canvas {w : State} {c : CP} (h : w.cp.lasting = c.lasting) : w.cp.sources = c.sources
    ∧ w.cp.watched = c.watched ∧ w.updateRecords.cp.focusSource = c.focusSource :=
  ⟨(congrArg CP.sources h :), (congrArg CP.watched h :),
    (CP.focusSource_of_withWheel_eq w.updateRecords_sansFlights.2).trans (CP.focusSource_of_lasting_eq h)⟩

/-- The records of sources that stay, where the focus change has no part in them. -/
theorem State.changeLayout_record_kept {p : Nat} {r : SrcRec} (hr : s.fu.record p = some r) {c : CP}
    (hc : c = { s.cp with layout := n }) (hp : p ∈ c.sources)
    (hfocus : c.focusSource = s.cp.focusSource ∨ (c.focusSource ≠ some p ∧ s.cp.focusSource ≠ some p)) :
    (s.changeLayout n).fu.record p = some { r with watched := c.watched p } := by
  obtain ⟨hcp, hfu, -⟩ := s.changed_cp_fu n
  rw [State.changeLayout_fu]
  generalize (s.selected n).updateCtxs (s.streamsGone n) = w at *
  rw [← hc] at hcp
  obtain ⟨hsources, hwatched, hsame⟩ := State.updateRecords_canvas hcp
  have hrecord := (w.updateRecords_record p).2.1 r (hsources ▸ hp) (hfu ▸ hr)
  rw [← hwatched, ← hrecord]
  obtain hfocus | ⟨hnew, hold⟩ := hfocus
  · rw [State.focusFrom_of_eq (hsame.trans hfocus)]
  · exact State.focusFrom_record_other (.inl hold) (.inl (hsame.trans_ne hnew))

/-- The record of a new source that the focus change does not ask for. -/
theorem State.changeLayout_record_new (h : s.TablesOfLayout) {p : Nat} (hr : s.fu.record p = none) {c : CP}
    (hc : c = { s.cp with layout := n }) (hp : p ∈ c.sources)
    (hfocus : c.focusSource ≠ some p ∨ s.fu.autoRequest = false) :
    (s.changeLayout n).fu.record p = some (newRecord p (c.watched p) s.now) := by
  obtain ⟨hcp, hfu, hnow⟩ := s.changed_cp_fu n
  rw [State.changeLayout_fu]
  generalize (s.selected n).updateCtxs (s.streamsGone n) = w at *
  rw [← hc] at hcp
  obtain ⟨hsources, hwatched, hsame⟩ := State.updateRecords_canvas hcp
  have hauto : w.updateRecords.fu.autoRequest = s.fu.autoRequest :=
    hfu ▸ (congrArg FU.autoRequest w.updateRecords_settings :)
  have hrecord := (w.updateRecords_record p).2.2 (hsources ▸ hp) (hfu ▸ hr)
  rw [← hwatched, ← hnow, ← hrecord]
  exact State.focusFrom_record_other (.inl fun hold => h.focus_record hold hr)
    (hfocus.imp hsame.trans_ne hauto.trans)

end Changed

/-! ### What is sent (R60, R63) -/

/-- Nothing handed to class 0 or 1 is taken back, the link stays, and no CONTROL-RELEASE for station `p` is added. -/
def State.spares (p : Nat) (s t : State) : Prop :=
  t.fp.linkUp = s.fp.linkUp ∧ s.keepsSent t
    ∧ ∀ i, Out0.controlRelease p i ∈ t.fp.class0 → Out0.controlRelease p i ∈ s.fp.class0

theorem State.spares.trans {p : Nat} {s t u : State} (h : s.spares p t) (g : t.spares p u) : s.spares p u :=
  ⟨g.1.trans h.1, h.2.1.trans g.2.1, fun i hi => h.2.2 i (g.2.2 i hi)⟩

/-- The link and the classes 0 and 1 are all that is spoken of. -/
theorem State.spares_of_eq {p : Nat} {s t : State} (hup : t.fp.linkUp = s.fp.linkUp) (h0 : t.fp.class0 = s.fp.class0)
    (h1 : t.fp.class1 = s.fp.class1) : s.spares p t :=
  ⟨hup, by simp [State.keepsSent, h0, h1], fun i hi => h0 ▸ hi⟩

theorem State.spares_of_fp_eq {p : Nat} {s t : State} (h : t.fp = s.fp) : s.spares p t :=
  State.spares_of_eq (by rw [h]) (by rw [h]) (by rw [h])

section Spares
variable {p : Nat} (s : State)

theorem State.hand0_spares {m : Out0} (hm : ∀ i, m ≠ .controlRelease p i) : s.spares p (s.hand0 m) := by
  refine ⟨by simp, s.hand0_keepsSent m, fun i hi => ?_⟩
  obtain ⟨-, e⟩ | ⟨-, -, e⟩ | ⟨-, -, e⟩ := s.hand0_cases m
  · rwa [e] at hi
  · rw [e] at hi
    exact (List.mem_append.1 hi).resolve_right fun h => hm i (List.mem_singleton.1 h).symm
  · rwa [e] at hi

theorem State.sendRelease_spares {r : SrcRec} (hr : r.station ≠ p) : s.spares p (s.sendRelease r) :=
  s.hand0_spares fun i e => hr (by cases e; rfl)

theorem State.leaveSent_spares (r : SrcRec) : s.spares p (s.leaveSent r) := by
  obtain ⟨-, hdown, hup, -⟩ := s.leaveSent_eq r
  cases hlink : s.fp.linkUp with
  | false => exact State.spares_of_fp_eq (hdown hlink)
  | true =>
    have hfp := hup hlink
    exact ⟨by rw [hfp], by simp [State.keepsSent, hfp], fun i hi => by rwa [hfp] at hi⟩

theorem State.runLeave_spares {r : SrcRec} (hr : r.station ≠ p) (k : LeaveKind) : s.spares p (s.runLeave r k) := by
  cases k with
  | clear => exact s.leaveSent_spares r
  | release =>
    rw [State.runLeave_release]
    exact ((s.leaveSent_spares r).trans (State.sendRelease_spares _ (r := r.left) hr)).trans
      (State.spares_of_fp_eq (by simp))

theorem State.leave_spares {r : SrcRec} (hr : r.station ≠ p) (k : LeaveKind) : s.spares p (s.leave r k) := by
  unfold State.leave
  split
  · exact s.runLeave_spares hr k
  · obtain ⟨j, -, -, heq, -⟩ := s.setPending_eq r k
    rw [heq]
    exact State.spares_of_fp_eq rfl

theorem State.requestSource_spares (q : Nat) : s.spares p (s.requestSource q) := by
  cases hr : s.fu.record q with
  | none =>
    have hsame : s.requestSource q = s := by simp [State.requestSource, hr]
    exact State.spares_of_fp_eq (by rw [hsame])
  | some r =>
    obtain ⟨hasks, hstays⟩ := State.requestSource_of_record hr
    have hasked (hst : r.state = .idle ∨ r.state = .queued) : s.spares p (s.requestSource q) := by
      rw [hasks hst]
      have hsent : (s.setFU { s.fu with idCounter := s.fu.idCounter + 1 }).spares p _ :=
        State.hand0_spares _ (m := .controlRequest q (s.fu.idCounter + 1) r.watched) fun _ e => by cases e
      exact State.spares.trans hsent (State.spares_of_fp_eq (by simp))
    cases hst : r.state with
    | idle => exact hasked (.inl hst)
    | queued => exact hasked (.inr hst)
    | asking => exact State.spares_of_fp_eq (by rw [hstays (.inl hst)])
    | holding => exact State.spares_of_fp_eq (by rw [hstays (.inr hst)])

/-- A focus change sends nothing for a station without a record. -/
theorem State.focusFrom_spares (hnone : s.fu.record p = none) (q : Option Nat) : s.spares p (s.focusFrom q) := by
  have hleave : s.spares p (s.leaveFocus q) := by
    unfold State.leaveFocus
    (repeat' split)
    · exact State.spares_of_fp_eq rfl
    · exact State.spares_of_fp_eq rfl
    · next q r hr _ =>
      exact s.leave_spares (fun e => by simp [← e, FU.station_of_record hr, hr] at hnone) _
    · exact State.spares_of_fp_eq rfl
  have hauto (u : State) (q : Option Nat) : u.spares p (u.autoRequest q) := by
    unfold State.autoRequest
    (repeat' split)
    · exact State.spares_of_fp_eq rfl
    · exact State.spares_of_fp_eq rfl
    · exact u.requestSource_spares _
    · exact State.spares_of_fp_eq rfl
  by_cases hq : s.cp.focusSource = q
  · exact State.spares_of_fp_eq (by rw [State.focusFrom_of_eq hq])
  · rw [State.focusFrom_of_ne hq, State.focusChange_eq (Ne.symm hq) rfl]
    have hrest (a u : State) (hu : u.fp = a.fp) (q : Option Nat) : a.spares p (u.autoRequest q).showLamps :=
      (State.spares_of_fp_eq hu).trans ((hauto u q).trans (State.spares_of_fp_eq (by simp)))
    exact hleave.trans (hrest _ _ rfl _)

theorem State.askPresence_spares : s.spares p s.askPresence := by
  obtain ⟨-, e⟩ | ⟨-, -, -, e⟩ | ⟨-, -, -, e⟩ := s.handPresence_cases <;>
    exact State.spares_of_eq (by simp [State.askPresence, e]) (by simp [State.askPresence, e])
      (by simp [State.askPresence, e])

/-- PU's PRESENCE goes to class 2 (R175). -/
theorem State.askPresence_class2 (hup : s.fp.linkUp = true) : Out2.presence ∈ s.askPresence.fp.class2 := by
  obtain ⟨hdown | hthere, e⟩ | ⟨-, -, -, e⟩ | ⟨-, -, -, e⟩ := s.handPresence_cases
  · simp [hup] at hdown
  · simp [State.askPresence, e, hthere]
  · simp [State.askPresence, e]
  · simp [State.askPresence, e]

end Spares

/-! ### What a removed record sends (R63) -/

section Drop
variable (s : State) (r : SrcRec)

theorem State.dropRecord_of_room (hst : r.state = .holding) (hleave : r.leave = none)
    (hroom : s.fp.linkUp = false ∨ s.fp.class1.length < 4) : s.dropRecord r = s.runLeave r .release := by
  simp [State.dropRecord, hst, hleave, s.roomInClass1_iff.2 hroom]

theorem State.dropRecord_of_no_room (hst : r.state = .holding)
    (hroom : r.leave.isSome = true ∨ (s.fp.linkUp = true ∧ 4 ≤ s.fp.class1.length)) :
    s.dropRecord r = s.sendRelease r := by
  obtain hleave | ⟨hup, hfull⟩ := hroom
  · have hnone : r.leave.isNone = false := by rw [← Option.not_isSome, hleave]; rfl
    simp [State.dropRecord, hst, hnone]
  · simp [State.dropRecord, hst, State.roomInClass1_of_full hup hfull]

theorem State.dropRecord_of_queued (hst : r.state = .queued) : s.dropRecord r = s.sendRelease r := by
  simp [State.dropRecord, hst]

theorem State.dropRecord_of_quiet (hst : r.state = .asking ∨ r.state = .idle) : s.dropRecord r = s := by
  obtain hst | hst := hst <;> simp [State.dropRecord, hst]

/-- The record of another station removed sends nothing for `p`; nor does one that asks for nothing. -/
theorem State.removeRecord_spares {p : Nat} (h : r.station ≠ p ∨ r.state = .asking ∨ r.state = .idle) :
    s.spares p (s.removeRecord r) := by
  have hdrop : s.spares p (s.dropRecord r) := by
    obtain h | h := h
    · unfold State.dropRecord
      (repeat' split)
      · exact s.runLeave_spares h .release
      · exact s.sendRelease_spares h
      · exact s.sendRelease_spares h
      · exact State.spares_of_fp_eq rfl
      · exact State.spares_of_fp_eq rfl
    · exact State.spares_of_fp_eq (by rw [s.dropRecord_of_quiet r h])
  exact hdrop.trans (State.spares_of_fp_eq rfl)

theorem State.foldl_removeRecord_spares {p : Nat} (l : List SrcRec)
    (h : ∀ r ∈ l, r.station ≠ p ∨ r.state = .asking ∨ r.state = .idle) : s.spares p (l.foldl State.removeRecord s) :=
  List.foldlRecOn l State.removeRecord (motive := fun u => s.spares p u) (State.spares_of_fp_eq rfl)
    fun _ hu r hr => hu.trans (State.removeRecord_spares _ r (h r hr))

/-- A removed record hands at most one message to each class. -/
theorem State.removeRecord_length : (s.removeRecord r).fp.class0.length ≤ s.fp.class0.length + 1
    ∧ (s.removeRecord r).fp.class1.length ≤ s.fp.class1.length + 1
    ∧ (s.removeRecord r).fp.linkUp = s.fp.linkUp := by
  have hsent (u : State) (q : SrcRec) : (u.sendRelease q).fp.class0.length ≤ u.fp.class0.length + 1
      ∧ (u.sendRelease q).fp.class1.length ≤ u.fp.class1.length + 1 ∧ (u.sendRelease q).fp.linkUp = u.fp.linkUp := by
    unfold State.sendRelease
    obtain ⟨-, e⟩ | ⟨-, -, e⟩ | ⟨-, -, e⟩ := u.hand0_cases (.controlRelease q.station q.id) <;> simp [e]
  have hleft : (s.leaveSent r).fp.class0.length ≤ s.fp.class0.length
      ∧ (s.leaveSent r).fp.class1.length ≤ s.fp.class1.length + 1 ∧ (s.leaveSent r).fp.linkUp = s.fp.linkUp := by
    obtain ⟨-, hdown, hup, -⟩ := s.leaveSent_eq r
    cases hlink : s.fp.linkUp with
    | false => simp [hdown hlink, hlink]
    | true => simp [hup hlink, hlink]
  have hdrop : (s.removeRecord r).fp = (s.dropRecord r).fp := rfl
  rw [hdrop]
  unfold State.dropRecord
  (repeat' split)
  · rw [State.runLeave_release]
    obtain ⟨h0, h1, hup⟩ := hleft
    have hclass1 : ((s.leaveSent r).sendRelease r.left).fp.class1 = (s.leaveSent r).fp.class1 := by
      simp [State.sendRelease]
    obtain ⟨h0', -, hup'⟩ := hsent (s.leaveSent r) r.left
    simp only [State.moveRecord_frame, hclass1, hup', hup]
    exact ⟨by omega, h1, trivial⟩
  · exact hsent s r
  · exact hsent s r
  · simp
  · simp

theorem State.foldl_removeRecord_length (l : List SrcRec) : ∀ s : State,
    (l.foldl State.removeRecord s).fp.class0.length ≤ s.fp.class0.length + l.length
    ∧ (l.foldl State.removeRecord s).fp.class1.length ≤ s.fp.class1.length + l.length
    ∧ (l.foldl State.removeRecord s).fp.linkUp = s.fp.linkUp := by
  induction l with
  | nil => simp
  | cons r l ih =>
    intro s
    obtain ⟨h0, h1, hup⟩ := s.removeRecord_length r
    obtain ⟨h0', h1', hup'⟩ := ih (s.removeRecord r)
    rw [List.foldl_cons, List.length_cons]
    exact ⟨by omega, by omega, hup'.trans hup⟩

variable {s r}

/-- What a removed record that holds or waits hands to FP, where there is room. -/
theorem State.removeRecord_sends (hup : s.fp.linkUp = true) (hroom : s.fp.class0.length < 16) :
    (r.state = .holding ∨ r.state = .queued →
      Out0.controlRelease r.station r.id ∈ (s.removeRecord r).fp.class0)
    ∧ (r.state = .holding → r.leave = none → s.fp.class1.length < 4 →
      (⟨r.station, r.id, r.seq, .released, 0, none, 0⟩ : OutInput) ∈ (s.removeRecord r).fp.class1) := by
  have hfp : (s.removeRecord r).fp = (s.dropRecord r).fp := rfl
  have hleft := (s.leaveSent_eq r).2.2.1 hup
  have hsent : Out0.controlRelease r.station r.id ∈ (s.sendRelease r).fp.class0 := State.hand0_mem hup hroom
  rw [hfp]
  constructor
  · rintro (hst | hst)
    · by_cases hnow : r.leave = none ∧ s.fp.class1.length < 4
      · obtain ⟨hleave, hlen⟩ := hnow
        rw [s.dropRecord_of_room r hst hleave (.inr hlen), State.runLeave_release]
        simp only [State.moveRecord_frame]
        exact State.hand0_mem (by rw [hleft]; exact hup) (by rw [hleft]; exact hroom)
      · rw [s.dropRecord_of_no_room r hst]
        · exact hsent
        · rw [Option.isSome_iff_ne_none]
          by_cases hleave : r.leave = none
          · exact .inr ⟨hup, Nat.not_lt.1 fun h => hnow ⟨hleave, h⟩⟩
          · exact .inl hleave
    · rw [s.dropRecord_of_queued r hst]
      exact hsent
  · intro hst hleave hlen
    rw [s.dropRecord_of_room r hst hleave (.inr hlen), State.runLeave_release]
    simp only [State.moveRecord_frame]
    obtain ⟨-, hkept⟩ := (s.leaveSent r).hand0_keepsSent (.controlRelease r.left.station r.left.id)
    exact hkept (by rw [hleft]; simp)

end Drop

/-! ### What a layout change sends (R63, R139) -/

section Sent
variable {s : State} (n : Nat)

/-- At a desk there are at most 4 records. -/
theorem State.TablesOfLayout.length_records (h : s.TablesOfLayout) : s.fu.records.length ≤ 4 := by
  obtain ⟨-, -, -, -, hnodup, hmem⟩ := h
  have hsub : s.fu.records.map SrcRec.station ⊆ s.cp.streams.map Stream.station := fun p hp => by
    obtain ⟨x, hx, hst⟩ := CP.mem_sources.1 ((hmem p).1 hp)
    exact List.mem_map.2 ⟨x, hx, hst⟩
  have hlen := (List.subperm_of_subset hnodup hsub).length_le
  rw [List.length_map, List.length_map] at hlen
  exact hlen.trans s.cp.length_streams_le

/-- SR's part leaves the link and the classes 0 and 1 as the messages taken first left them. -/
theorem State.changed_port : let u := s.drainStreams (s.streamsGone n)
    let w := (s.selected n).updateCtxs (s.streamsGone n)
    w.fp.linkUp = s.fp.linkUp ∧ w.fp.class0 = u.fp.class0 ∧ w.fp.class1 = s.fp.class1 := by
  have hport := (s.selected n).updateCtxs_sansSubs (s.streamsGone n)
  exact ⟨(congrArg FP.linkUp hport :).trans (s.drainStreams_kept _).2, (congrArg FP.class0 hport :),
    (congrArg FP.class1 hport :).trans (s.drainStreams_class1 _)⟩

/-- FU's part and what comes behind it, a station without a record then being spared. -/
theorem State.changeLayout_spares {w : State} (hw : w = (s.selected n).updateCtxs (s.streamsGone n)) {p : Nat}
    (hp : p ∉ w.cp.sources) : w.recordsDropped.spares p (s.changeLayout n) := by
  have hnone := (w.updateRecords_record p).1 hp
  rw [State.changeLayout_stages, ← hw]
  have hfill : w.recordsDropped.spares p w.updateRecords := State.spares_of_fp_eq rfl
  have hfocus := State.focusFrom_spares w.updateRecords hnone s.cp.focusSource
  have hshown (u : State) : u.spares p u.recomputeField.recomputeHeads := State.spares_of_fp_eq (by simp)
  exact ((hfill.trans hfocus).trans (hshown _)).trans (State.askPresence_spares _)

omit n in
/-- What the removal of a source's record sends, and what comes behind it leaves (R63). -/
theorem State.recordsDropped_sends {t : State} {r : SrcRec} (hr : r ∈ s.fu.records) (hp : r.station ∉ s.cp.sources)
    (hnodup : (s.fu.records.map SrcRec.station).Nodup) (hlen : s.fu.records.length ≤ 4) (hup : s.fp.linkUp = true)
    (hroom : s.fp.class0.length ≤ 8) (hlater : s.recordsDropped.spares r.station t) :
    (r.state = .holding ∨ r.state = .queued → Out0.controlRelease r.station r.id ∈ t.fp.class0)
    ∧ (r.state = .holding → r.leave = none → s.fp.class1 = [] →
      (⟨r.station, r.id, r.seq, .released, 0, none, 0⟩ : OutInput) ∈ t.fp.class1)
    ∧ (r.state = .asking ∨ r.state = .idle → ∀ i, Out0.controlRelease r.station i ∈ t.fp.class0 →
      Out0.controlRelease r.station i ∈ s.fp.class0) := by
  have hgone : r ∈ s.goneRecords := List.mem_filter.2 ⟨hr, by simp [hp]⟩
  have hfour : s.goneRecords.length ≤ 4 := (List.length_filter_le ..).trans hlen
  have honce : (s.goneRecords.map SrcRec.station).Nodup := hnodup.sublist (List.Sublist.map _ List.filter_sublist)
  obtain ⟨before, behind, hsplit⟩ := List.append_of_mem hgone
  rw [hsplit, List.map_append, List.map_cons, List.nodup_middle, List.nodup_cons, ← List.map_append] at honce
  rw [hsplit, List.length_append, List.length_cons] at hfour
  have hother : ∀ q ∈ before ++ behind, q.station ≠ r.station := fun q hq e => honce.1 (e ▸ List.mem_map_of_mem hq)
  have hdropped : s.recordsDropped
      = behind.foldl State.removeRecord ((before.foldl State.removeRecord s).removeRecord r) := by
    rw [State.recordsDropped, hsplit, List.foldl_append, List.foldl_cons]
  obtain ⟨hlen0, hlen1, hlink⟩ := State.foldl_removeRecord_length before s
  obtain ⟨hrelease, hinput⟩ := State.removeRecord_sends (r := r) (hlink.trans hup) (by omega)
  have hbehind := State.foldl_removeRecord_spares ((before.foldl State.removeRecord s).removeRecord r) behind
    (p := r.station) fun q hq => .inl (hother q (List.mem_append_right _ hq))
  obtain ⟨-, ⟨hkept0, hkept1⟩, -⟩ := State.spares.trans (hdropped ▸ hbehind) hlater
  refine ⟨fun hst => hkept0 (hrelease hst), fun hst hleave hempty => hkept1 (hinput hst hleave ?_), fun hst i hi => ?_⟩
  · rw [hempty, List.length_nil] at hlen1
    omega
  · have hall : s.spares r.station s.recordsDropped := State.foldl_removeRecord_spares s s.goneRecords fun q hq => by
      rw [hsplit, List.mem_append, List.mem_cons] at hq
      obtain hq | rfl | hq := hq
      · exact .inl (hother q (List.mem_append_left _ hq))
      · exact .inr hst
      · exact .inl (hother q (List.mem_append_right _ hq))
    exact (hall.trans hlater).2.2 i hi

/-- What a layout change sends for a source that leaves. -/
theorem State.changeLayout_sends (h : s.TablesOfLayout) {p : Nat} {r : SrcRec} (hr : s.fu.record p = some r)
    (hp : p ∉ ({ s.cp with layout := n } : CP).sources) (hup : s.fp.linkUp = true)
    (hroom : (s.drainStreams (s.streamsGone n)).fp.class0.length ≤ 8) :
    (r.state = .holding ∨ r.state = .queued → Out0.controlRelease p r.id ∈ (s.changeLayout n).fp.class0)
    ∧ (r.state = .holding → r.leave = none → s.fp.class1 = [] →
      (⟨p, r.id, r.seq, .released, 0, none, 0⟩ : OutInput) ∈ (s.changeLayout n).fp.class1)
    ∧ (r.state = .asking ∨ r.state = .idle → ∀ i, Out0.controlRelease p i ∈ (s.changeLayout n).fp.class0 →
      Out0.controlRelease p i ∈ (s.drainStreams (s.streamsGone n)).fp.class0) := by
  obtain ⟨hcp, hfu, -⟩ := s.changed_cp_fu n
  obtain ⟨hlink, hclass0, hclass1⟩ := s.changed_port n
  have hspares := State.changeLayout_spares (s := s) n rfl (p := p)
  generalize (s.selected n).updateCtxs (s.streamsGone n) = w at *
  have hsources : w.cp.sources = ({ s.cp with layout := n } : CP).sources := (congrArg CP.sources hcp :)
  rw [← hsources] at hp
  obtain rfl := FU.station_of_record hr
  have hmem : r ∈ w.fu.records := hfu ▸ List.mem_of_find?_eq_some hr
  have hfour : w.fu.records.length ≤ 4 := hfu ▸ h.length_records
  have hnodup : (w.fu.records.map SrcRec.station).Nodup := by
    obtain ⟨-, -, -, -, hnodup, -⟩ := h
    rwa [hfu]
  rw [← hclass0] at hroom ⊢
  rw [← hclass1]
  exact State.recordsDropped_sends hmem hp hnodup hfour (hlink.trans hup) hroom (hspares hp)

omit n in
theorem State.focusFrom_linkUp (P : Option Nat) : (s.focusFrom P).fp.linkUp = s.fp.linkUp := by
  have hleave : (s.leaveFocus P).fp.linkUp = s.fp.linkUp := by
    unfold State.leaveFocus
    (repeat' split)
    · rfl
    · rfl
    · next r _ _ => exact (s.leave_spares (p := r.station + 1) (Nat.succ_ne_self _).symm _).1
    · rfl
  unfold State.focusFrom State.focusChange
  split <;> simp [hleave]

/-- A PRESENCE is asked for, and its timer restarted (R175). -/
theorem State.changeLayout_presence : (s.changeLayout n).pu.timer = some s.now
    ∧ (s.fp.linkUp = true → Out2.presence ∈ (s.changeLayout n).fp.class2) := by
  obtain ⟨-, -, hnow⟩ := s.changed_cp_fu n
  obtain ⟨hlink, -, -⟩ := s.changed_port n
  rw [State.changeLayout_stages]
  generalize (s.selected n).updateCtxs (s.streamsGone n) = w at *
  have hdropped : w.updateRecords.fp.linkUp = w.fp.linkUp := (State.foldl_removeRecord_length w.goneRecords w).2.2
  refine ⟨?_, fun hup => State.askPresence_class2 _ ?_⟩
  · simp [State.askPresence, hnow]
  · simp [State.focusFrom_linkUp, hdropped, hlink, hup]

end Sent

/-! ### The canvas, and SR's contexts (R9, R10, R137, R138) -/

section Layout
variable {s : State} (n : Nat)

/-- The canvas, the pointer, confine, the hotkey machine and blanking stay. -/
theorem State.changeLayout_stays : let t := s.changeLayout n
    t.cp = { s.cp with layout := n, wheel := t.cp.wheel, field := t.cp.field }
      ∧ t.ii = { s.ii with ports := t.ii.ports, shown := t.ii.shown } ∧ t.hu = { s.hu with heads := t.hu.heads } := by
  have hcp := s.changeLayout_lasting n
  have hii := s.changeLayout_sansFlights n
  have hhu := s.changeLayout_sansHeads n
  generalize s.changeLayout n = t at *
  exact ⟨(congrArg (fun k : CP => { k with wheel := t.cp.wheel, field := t.cp.field }) hcp :),
    (congrArg (fun k : II => { k with ports := t.ii.ports, shown := t.ii.shown }) hii :), HU.eq_of_sansHeads_eq hhu⟩

/-- SR after a layout change: its contexts changed as the messages taken first left them, and the placement records. -/
theorem State.changeLayout_sr (h : s.TablesOfLayout) : ∃ q, (s.changeLayout n).sr
    = { (s.drainStreams (s.streamsGone n)).sr.changed ({ s.cp with layout := n } : CP).streams with places := q } := by
  obtain ⟨hnodup, -, hgone, hsubs⟩ := State.selected_streamsGone n h
  obtain ⟨hsr, -⟩ := State.updateCtxs_eq hnodup hgone hsubs
  have hstreams : (s.selected n).cp.streams = ({ s.cp with layout := n } : CP).streams :=
    (congrArg CP.streams (s.selected_lasting n) :)
  rw [hstreams] at hsr
  have hsame : (s.changeLayout n).sr = ((s.selected n).updateCtxs (s.streamsGone n)).sr := by
    rw [State.changeLayout_stages]; simp
  exact ⟨_, hsame.trans hsr⟩

/-- The contexts after a change to streams `l`, from contexts whose slots are those of `b`: those there were, and new
ones in the regions that are free, from the lowest on, each black. -/
theorem SR.changed_contexts {r b : SR} {l : List Stream} (hslots : r.slots = b.slots)
    (hnodup : (b.ctxs.map Ctx.stream).Nodup) (hl : l.Nodup) (hfour : l.length ≤ 4) :
    let new := l.filter fun x => (b.ctx x).isNone
    (∀ x d, x ∈ l → r.ctx x = some d → (r.changed l).ctx x = some d)
    ∧ (∀ x, x ∈ new → ∃ g, (r.changed l).ctx x = some (newCtx x g)
        ∧ ∀ a, 16777216 * g.val ≤ a → a < 16777216 * (g.val + 1) → (r.changed l).store.read a = 0)
    ∧ new.map (fun x => ((r.changed l).ctx x).map Ctx.region)
      = ((headNumbers.filter fun g => b.ctxs.all fun d => d.stream ∉ l || d.region ≠ g).take new.length).map some
    ∧ (∀ a, (∀ x g, x ∈ new → ((r.changed l).ctx x).map Ctx.region = some g →
          a < 16777216 * g.val ∨ 16777216 * (g.val + 1) ≤ a) → (r.changed l).store.read a = r.store.read a) := by
  have hstreams : r.ctxs.map Ctx.stream = b.ctxs.map Ctx.stream := by
    rw [← SR.slots_streams, hslots, SR.slots_streams]
  have hnew : (l.filter fun x => (b.ctx x).isNone) = r.lacking l := by
    rw [SR.lacking_eq, hstreams]
    exact SR.lacking_eq (r := b)
  have hfree : (headNumbers.filter fun g => b.ctxs.all fun d => d.stream ∉ l || d.region ≠ g)
      = (r.keeping l).freeRegions := by
    refine List.filter_congr fun g _ => ?_
    have hover (k : SR) : (k.ctxs.all fun d => d.stream ∉ l || d.region ≠ g)
        = k.slots.all fun q => q.1 ∉ l || q.2 ≠ g := by simp [SR.slots, List.all_map, Function.comp_def]
    rw [hover, ← hslots, ← hover]
    simp [SR.keeping, List.any_filter, List.not_any_eq_all_not]
  rw [← hstreams] at hnodup
  have hroom : (r.lacking l).length ≤ (r.keeping l).freeRegions.length := by
    have := SR.room hnodup hl hfour
    have := (r.keeping l).le_length_freeRegions
    omega
  have hmade : ((r.changed l).ctxs.map Ctx.stream).Nodup := by
    rw [SR.changed_streams hnodup hl hfour, SR.keeping_streams, SR.lacking_eq]
    exact (nodup_and_mem_kept_append_new hnodup hl).1
  dsimp only
  rw [hnew, hfree]
  exact ⟨fun x d hx hd => SR.making_ctx_of_some ((SR.keeping_ctx hx).trans hd),
    fun x hx => SR.making_new hroom hmade hx, SR.making_region_of_new hroom hmade,
    fun a ha => SR.making_store hroom hmade ha⟩

/-- The contexts after a layout change (R138, R139). -/
theorem State.changeLayout_contexts (h : s.TablesOfLayout) {c : CP} (hc : c = { s.cp with layout := n }) :
    let t := s.changeLayout n
    let u := s.drainStreams (s.streamsGone n)
    let new := c.streams.filter fun x => (s.sr.ctx x).isNone
    (∀ x d, x ∈ c.streams → u.sr.ctx x = some d → t.sr.ctx x = some d)
    ∧ (∀ x, x ∈ new → ∃ g, t.sr.ctx x = some (newCtx x g)
        ∧ ∀ a, 16777216 * g.val ≤ a → a < 16777216 * (g.val + 1) → t.sr.store.read a = 0)
    ∧ new.map (fun x => (t.sr.ctx x).map Ctx.region)
      = ((headNumbers.filter fun g => s.sr.ctxs.all fun d => d.stream ∉ c.streams || d.region ≠ g).take
          new.length).map some
    ∧ (∀ a, (∀ x g, x ∈ new → (t.sr.ctx x).map Ctx.region = some g →
          a < 16777216 * g.val ∨ 16777216 * (g.val + 1) ≤ a) → t.sr.store.read a = u.sr.store.read a) := by
  obtain ⟨q, hsr⟩ := State.changeLayout_sr n h
  obtain ⟨hslots, -, -⟩ := State.selected_tables n h
  have key := SR.changed_contexts (r := (s.drainStreams (s.streamsGone n)).sr) hslots h.1 c.nodup_streams
    c.length_streams_le
  rw [← hc] at hsr
  generalize s.changeLayout n = t at *
  dsimp only at key ⊢
  rw [hsr]
  exact key

/-- The tables after a layout change name the new layout's streams and sources alone (R52, R137, R139). -/
theorem State.changeLayout_gone (h : s.TablesOfLayout) {c : CP} (hc : c = { s.cp with layout := n }) :
    let t := s.changeLayout n
    (∀ x, x ∉ c.streams → t.sr.ctx x = none ∧ x ∉ t.fp.subs) ∧ (∀ x, x ∈ c.streams → x ∈ t.fp.subs)
    ∧ ∀ p, p ∉ c.sources → t.fu.record p = none := by
  have htables := State.changeLayout_tablesOfLayout n h
  have hcp := s.changeLayout_lasting n
  generalize s.changeLayout n = t at *
  obtain ⟨-, hmem, -, hsubs, -, hstations⟩ := htables
  rw [← hc] at hcp
  have hstreams : t.cp.streams = c.streams := (congrArg CP.streams hcp :)
  have hsources : t.cp.sources = c.sources := (congrArg CP.sources hcp :)
  rw [hstreams] at hmem
  rw [hsources] at hstations
  dsimp only
  rw [hsubs]
  refine ⟨fun x hx => ⟨SR.ctx_eq_none.2 fun hin => hx ((hmem x).1 hin), fun hin => hx ((hmem x).1 hin)⟩,
    fun x hx => (hmem x).2 hx, fun p hp => ?_⟩
  have hnot := mt (hstations p).1 hp
  simpa [FU.record, List.find?_eq_none] using hnot

/-- The streams with a context that a layout lacks are those whose messages are taken first. -/
theorem State.streamsGone_eq {c : CP} (hc : c = { s.cp with layout := n }) :
    ((s.sr.ctxs.map Ctx.stream).filter fun x => x ∉ c.streams) = s.streamsGone n := by
  rw [State.streamsGone, ← hc]
  exact List.filter_congr fun x _ => by simp

end Layout

/-- Settles O54: the messages of removed streams taken first, what a layout change keeps, its contexts, its records and
what they send, the PRESENCE, and what a removed record sends. -/
theorem layoutChange : Obligations.LayoutChange := by
  refine ⟨fun s => if_pos rfl, fun s l => State.drainStreams_of_none,
    fun s l a r e hrx hkind hmem hrest => State.drainStreams_of_last hrx hkind hmem hrest,
    fun s v m hs => State.exec_of_take hs, fun s u t n c new htables hs hne hc ht hu hnew => ?_, fun s r => ?_⟩
  · have h : s.TablesOfLayout := by rwa [State.TablesRule, if_pos hs] at htables
    obtain rfl : t = s.changeLayout n := ht.trans (if_neg hne)
    rw [State.streamsGone_eq n hc] at hu
    subst hu hnew
    obtain ⟨hcp, hii, hhu⟩ := s.changeLayout_stays n
    obtain ⟨hkept, hmade, hregions, hstore⟩ := State.changeLayout_contexts n h hc
    obtain ⟨hgone, hsubs, hrecords⟩ := State.changeLayout_gone n h hc
    obtain ⟨hplaced, hfield, -⟩ := s.changeLayout_inView n
    obtain ⟨htimer, hpresence⟩ := State.changeLayout_presence (s := s) n
    refine ⟨hcp, hfield, hii, hhu, hkept, hgone, fun x hx => ?_, hregions, hstore, ?_, s.changeLayout_lost n, hrecords,
      fun p r hp hr hfocus => State.changeLayout_record_kept n hr hc hp hfocus,
      fun p hp hr hfocus => State.changeLayout_record_new n h hr hc hp hfocus, c.watched_getLsbD,
      fun p r hp hr hup hroom => State.changeLayout_sends n h hr (hc ▸ hp) hup hroom, htimer, hpresence, ?_⟩
    · obtain ⟨g, hctx, hblack⟩ := hmade x hx
      exact ⟨g, hctx, hsubs x (List.mem_of_mem_filter hx), hblack⟩
    · rw [State.placementOf_eq]
      exact hplaced
    · simp [State.sameSource]
  · refine ⟨fun hst hleave hroom => ?_, fun hst hroom => s.dropRecord_of_no_room r hst hroom,
      s.dropRecord_of_queued r, s.dropRecord_of_quiet r, s.removeRecord_record r⟩
    rw [State.leave_of_room r .release (s.roomInClass1_iff.2 hroom)]
    exact s.dropRecord_of_room r hst hleave hroom

end Sys2Proof.Machine
end
